-- ==== Sys2Proof/Word.lean ====
section
/-! DEFINITION. The words of the VC-2260: bytes of the message link, pack-bus words, uptime stamps, and the
raw samples of one scan pass (one bit a key position). Everything the manual counts or measures (mA, mV, mW,
tenths of a degree, milliseconds left) is a Nat or an Int, not a word. -/

namespace Sys2Proof

/-- A byte of the message link or of a pack-bus block (R19, R178). -/
abbrev Byte := BitVec 8

/-- A pack-bus word (R19). -/
abbrev Word16 := BitVec 16

/-- A value of the uptime counter, in ms (R1): it wraps. -/
abbrev Stamp := BitVec 32

/-- The raw samples of one scan pass (R91): bit `p` is set when position `p` reads closed. -/
abbrev Samples := BitVec 144

/-- A set of the eleven wake sources, bit `i` for the source of index `i` (R133). -/
abbrev WakeMask := BitVec 11

/-- A key position, column * 8 + row (00_scope.md, Key positions). -/
abbrev Position := Fin 144

end Sys2Proof
end

