-- ==== Sys2Proof/Config.lean ====
section
/-! DEFINITION. The fixed numbers of the manual (one name each, with its rule) and the FREE VALUES: what the
manual leaves unstated, as constants with no body. -/

namespace Sys2Proof.Config

/-- R8: a record is settled after this time, ms. -/
def settleMs : Nat := 500
/-- R12: the SWITCHING interval, ms. -/
def switchingMs : Nat := 30
/-- R5: the contract-read interval of a present port, ms. -/
def portReadMs : Nat := 2000
/-- R13: the highest P_sys sample, mW. -/
def pSysMax : Nat := 200000
/-- R9: the least power of an eligible source, mW. -/
def eligibleMw : Nat := 7500
/-- R19: an attempt that has not finished after this time fails, ms. -/
def attemptMs : Nat := 25
/-- R24: the identification interval, ms. -/
def identMs : Nat := 1000
/-- R26: the poll interval while CHARGING or ON, ms. -/
def pollFastMs : Nat := 1000
/-- R26: the poll interval otherwise, ms. -/
def pollSlowMs : Nat := 10000
/-- R47: the stage elapsed holds here, s. -/
def elapsedMax : Nat := 86400
/-- R69: the substitute of a failed board sensor, 0.1 degree. -/
def boardSubstitute : Int := 1250
/-- R77: the fan evaluation interval, ms. -/
def evaluationMs : Nat := 500
/-- R81: the spin-up period, ms. -/
def spinUpMs : Nat := 1000
/-- R82: the stall limit, rpm. -/
def stallRpm : Nat := 300
/-- R84: the duty and the time of the FAN_BOOST action. -/
def boostDuty : Nat := 800
/-- R84. -/
def boostSeconds : Nat := 60
/-- R92: the pass period of WAKE mode, ms. -/
def wakeScanMs : Nat := 16
/-- R129: the lid settle time, ms. -/
def lidSettleMs : Nat := 30
/-- R130: the hinge settle time, ms. -/
def hingeSettleMs : Nat := 100
/-- R157: the button settle time, ms. -/
def buttonSettleMs : Nat := 30
/-- R140: the longest wake time, s. -/
def wakeTimerMax : Nat := 86400
/-- R145: the step wait of SPG_WAIT, ms. -/
def spgWaitMs : Nat := 20
/-- R145: the step wait of MPG_WAIT, ms. -/
def mpgWaitMs : Nat := 50
/-- R145: the step wait of RESET_HOLD, ms. -/
def resetHoldMs : Nat := 10
/-- R159: the restart hold, ms. -/
def restartHoldMs : Nat := 1000
/-- R179: the gap timer, ms. -/
def gapMs : Nat := 5
/-- R179: the longest payload, bytes. -/
def payloadMax : Nat := 56

/-- FREE VALUE (log 21). What a two-byte field of a reply or notice carries for a quantity that does not fit
in two bytes: the manual states nothing (R3 keeps "the delivered contract" of a port, up to 3276750 mV, R17
sends it in two bytes; R82's rpm is unbounded for a count above 2184). -/
opaque wideField16 : Nat → BitVec 16

/-- FREE VALUE (log 21). The same for a four-byte field. -/
opaque wideField32 : Nat → BitVec 32

/-- FREE VALUE (log 22). The colour byte that an INDICATOR_SET reply carries where the manual names no colour: for the
power LED, which has one colour the manual does not number, and for a charge LED whose derived pattern is OFF (R170,
R176). -/
opaque unnamedColour : BitVec 8

/-- FREE VALUE (log 38). The detail byte of a SOURCE_OVERLOAD detection, by the active source's number: the manual gives
the meaning of every other kind's detail byte, and states none for this one (R15, R163). -/
opaque overloadDetail : Nat → BitVec 8

/-- FREE VALUE (log 33). The duty that a FAN_OVERRIDE reply carries "as applied" for AUTO, for which the duty is ignored
(R88). -/
opaque autoDuty : BitVec 16

/-- FREE VALUE (log 33). The time that a FAN_OVERRIDE reply carries "as applied" for AUTO, for which the time is ignored
(R88). -/
opaque autoTime : BitVec 16

end Sys2Proof.Config
end

