-- ==== Sys2Proof/Syntax.lean ====
section
/-! DEFINITION. The commands of the VC-2260: one constructor of `Instr` for each row of spec/opcode_table.json,
with the row's operands, and the small types those operands are made of. A request carries its payload; an
event carries what the part reads at that moment (a level, a reading, a set of samples). -/

namespace Sys2Proof

/-- The two packs (R22). -/
inductive PackId where
  | a | b
  deriving DecidableEq, Repr

/-- The two USB-C ports (R5). -/
inductive PortId where
  | port1 | port2
  deriving DecidableEq, Repr

/-- The three input sources (R3). -/
inductive SourceId where
  | barrel | port1 | port2
  deriving DecidableEq, Repr

/-- The two fans (R76). -/
inductive FanId where
  | fan0 | fan1
  deriving DecidableEq, Repr

/-- The two hinge sensors (R130). -/
inductive HingeId where
  | h1 | h2
  deriving DecidableEq, Repr

/-- The two external wake inputs (R135). -/
inductive ExtId where
  | ext0 | ext1
  deriving DecidableEq, Repr

/-- The two supplied sensors (R68). -/
inductive SupplyId where
  | sup0 | sup1
  deriving DecidableEq, Repr

/-- The two LEDs (R169). -/
inductive LedId where
  | power | charge
  deriving DecidableEq, Repr

/-- The two power-good inputs (R156). -/
inductive GoodId where
  | spg | mpg
  deriving DecidableEq, Repr

/-- What the adapter identification input reads (R4): one of four classes, or a reading that matches none. -/
inductive AdapterReading where
  | w45 | w65 | w90 | w135 | noMatch
  deriving DecidableEq, Repr

/-- How a pack-bus attempt ended (R19): every byte acknowledged, with the bytes the device gave (none for a
write), or some byte not acknowledged. -/
inductive AttemptResult where
  | acked (data : List Byte)
  | notAcked
  deriving DecidableEq, Repr

/-- The five straps, sampled at power-on reset (R2). -/
structure Straps where
  /-- PACKS reads 2: pack B is populated. -/
  packs2 : Bool
  /-- FANS reads 2: fan 1 is populated. -/
  fans2 : Bool
  /-- COLUMNS reads 18: 144 positions. -/
  columns18 : Bool
  /-- BAUD reads 1000000. -/
  baud1M : Bool
  /-- BARREL reads "fitted". -/
  barrelFitted : Bool
  deriving DecidableEq, Repr

/-- The levels and readings at the part's inputs (00_scope.md, External connections), as the part last had
them told by a command (log 25). -/
structure Inputs where
  barrelDetect : Bool
  adapter : AdapterReading
  packA : Bool
  packB : Bool
  channelFaultA : Bool
  channelFaultB : Bool
  /-- The pack-bus data line is high (R20). -/
  busLineHigh : Bool
  /-- The four thermistor readings B0 to B3, in 0.1 degree (R69). -/
  board0 : Int
  board1 : Int
  board2 : Int
  board3 : Int
  /-- The matrix: bit `p` set while position `p` reads closed (R91). -/
  matrix : Samples
  /-- The raw lid input is at CLOSED (R129). -/
  lidClosed : Bool
  hinge1 : Bool
  hinge2 : Bool
  ext0 : Bool
  ext1 : Bool
  /-- The raw power-button input is at PRESSED (R157). -/
  button : Bool
  spg : Bool
  mpg : Bool
  deriving DecidableEq, Repr

/-- The commands: the rows of spec/opcode_table.json in the table's order. -/
inductive Instr where
  | powerOnReset (straps : Straps) (inputs : Inputs)
  | ping (payload : List Byte)
  | linkStart (payload : List Byte)
  | statusGet (payload : List Byte)
  | controllerRestart (payload : List Byte)
  | linkSetup (payload : List Byte)
  | queueRead (payload : List Byte)
  | attnLevelSet (payload : List Byte)
  | sourcePolicy (payload : List Byte)
  | sourceStatusGet (payload : List Byte)
  | packStatusGet (payload : List Byte)
  | packSnapshot (payload : List Byte)
  | packRead (payload : List Byte)
  | packWrite (payload : List Byte)
  | profileLoad (payload : List Byte)
  | profileExtend (payload : List Byte)
  | profileGet (payload : List Byte)
  | profileAbort (payload : List Byte)
  | chargePolicy (payload : List Byte)
  | budgetGet (payload : List Byte)
  | tempSupply (payload : List Byte)
  | thermalConfig (payload : List Byte)
  | fanCurveSet (payload : List Byte)
  | fanOverride (payload : List Byte)
  | thermalStatusGet (payload : List Byte)
  | keyConfig (payload : List Byte)
  | keyStateGet (payload : List Byte)
  | keymapSet (payload : List Byte)
  | keymapGet (payload : List Byte)
  | backlightSet (payload : List Byte)
  | wakeConfig (payload : List Byte)
  | wakeStatus (payload : List Byte)
  | wakeTimerSet (payload : List Byte)
  /-- PLATFORM_REQUEST with a one-byte payload (R151): the byte. -/
  | platformRequestTransition (request : Byte)
  /-- PLATFORM_REQUEST with any other payload (R161). -/
  | platformRequestSettings (payload : List Byte)
  | faultGet (payload : List Byte)
  | faultClear (payload : List Byte)
  | faultMaskSet (payload : List Byte)
  | containmentSet (payload : List Byte)
  | indicatorSet (payload : List Byte)
  /-- A good frame of a type that names no request (R181). -/
  | unknownType (type : Byte) (payload : List Byte)
  | framingError
  | byteOverrun
  | skippedByte (value : Byte)
  /-- The bytes taken since the frame mark, the mark included, before the 5 ms ran out (R179). -/
  | gapTimeout (taken : List Byte)
  | lengthFault (type length : Byte)
  | checkFault (type : Byte) (payload : List Byte) (check : Byte)
  | replySent
  | lineBreak
  /-- The new level of the barrel detect input and what the identification input reads then (R4). -/
  | barrelDetectChange (active : Bool) (reading : AdapterReading)
  | adapterIdentificationChange (reading : AdapterReading)
  | portAlert (port : PortId)
  | portReadInterval (port : PortId)
  | settleTimeReached (source : SourceId)
  | switchingExpiry
  /-- The reading of the input power monitor, mW (R13). -/
  | pSysSample (reading : Nat)
  /-- How the attempt ended, and the data line as PBC finds it after (R19, R20). -/
  | busAttemptEnd (result : AttemptResult) (lineHigh : Bool)
  | attemptTimeout (lineHigh : Bool)
  | busRecoveryEnd (lineHigh : Bool)
  | packPresenceChange (pack : PackId) (active : Bool)
  | identificationDue (pack : PackId)
  | pollDue (pack : PackId)
  | channelFaultInputChange (pack : PackId) (active : Bool)
  | restEnd (pack : PackId)
  | stageLimitExpiry (pack : PackId)
  /-- The four readings, in 0.1 degree (R69). -/
  | boardConversion (cpu charger skin ambient : Int)
  | freshnessTimeReached (sensor : SupplyId)
  | fanEvaluation
  | spinUpEnd (fan : FanId)
  /-- The pulses counted in the window (R82). -/
  | tachWindowEnd (fan : FanId) (pulses : Nat)
  | overrideExpiry (fan : FanId)
  | scanPassStart
  /-- The raw samples of the pass that ends (R91). -/
  | scanPassEnd (samples : Samples)
  | typematicExpiry
  | lidInputChange (closed : Bool)
  | lidSettleExpiry
  | hingeInputChange (hinge : HingeId) (active : Bool)
  | hingeSettleExpiry (hinge : HingeId)
  | extInputChange (input : ExtId) (high : Bool)
  | wakeTimerExpiry
  | buttonInputChange (pressed : Bool)
  | buttonSettleExpiry
  | overrideTimeReached
  | spgRise
  | mpgRise
  | stepWaitExpiry
  | powerGoodLoss (input : GoodId)
  | resetHoldExpiry
  | standbyDelayExpiry
  | offDelayExpiry
  | graceExpiry
  | restartHoldEnd
  | ledPhaseEnd (led : LedId)
  deriving DecidableEq, Repr

end Sys2Proof
end

