-- ==== Sys2Proof/Machine/State.lean ====
section
/-! DEFINITION. The state of the VC-2260 as plain data, block by block in the manual's order, and the state right
after power-on reset. Every field cites the rule that names it. Functions over the state stand in the other files of
Machine/. -/

namespace Sys2Proof.Machine

/-! ## Families of two -/

/-- One value for each pack. -/
structure PerPack (α : Type) where
  a : α
  b : α
  deriving DecidableEq, Repr

/-- One value for each USB-C port. -/
structure PerPort (α : Type) where
  port1 : α
  port2 : α
  deriving DecidableEq, Repr

/-- One value for each fan. -/
structure PerFan (α : Type) where
  fan0 : α
  fan1 : α
  deriving DecidableEq, Repr

/-! ## SRS: the Source Selector (chapter 1) -/

/-- The adapter class of the barrel record (R3): `none` while not present, and always for the ports. -/
inductive AdapterClass where
  | none | w45 | w65 | w90 | w135 | unknown
  deriving DecidableEq, Repr

/-- One source record (R3). Voltage in mV, current in mA, power in mW. -/
structure SourceRecord where
  populated : Bool
  present : Bool
  valid : Bool
  voltage : Nat
  current : Nat
  power : Nat
  cls : AdapterClass
  /-- The settle time, 0 to 500 ms. -/
  settle : Nat
  settled : Bool
  disabled : Bool
  deriving DecidableEq, Repr

/-- The Source Selector (R3, R10 to R16). -/
structure Selector where
  barrel : SourceRecord
  port1 : SourceRecord
  port2 : SourceRecord
  /-- The active source, `none` for NONE (R10). -/
  active : Option SourceId
  /-- The switch state is SWITCHING (R11). -/
  switching : Bool
  /-- What is left of the SWITCHING interval, ms (R12). -/
  switchLeft : Nat
  /-- An interval has been abandoned or restarted at this moment, and the expiry that its own 30 ms may still bring does
  nothing (R12; the model's own field, log 51). -/
  switchReplaced : Bool
  /-- The pin of the source policy (R16). -/
  pin : Option SourceId
  /-- The guard margin, % (R16). -/
  margin : Nat
  /-- The latest P_sys sample, mW (R13). -/
  pSys : Nat
  /-- The overload condition (R15). -/
  overload : Bool
  /-- The overload run count, 0 to 3 (R15). -/
  overloadRun : Nat
  /-- What is left of each port's 2 s contract-read interval, ms (R5). -/
  portWait : PerPort Nat
  /-- The port has not been re-read since a controller restart, so SOURCE_INVALID is not yet judged for it (R177). -/
  awaitRead : PerPort Bool
  deriving DecidableEq, Repr

/-! ## PBC: the Pack Bus Controller (chapter 2) -/

/-- The devices on the pack bus (R19); each also names the poller that serves it (R21). -/
inductive BusDevice where
  | packA | packB | port1 | port2
  deriving DecidableEq, Repr

/-- The four kinds of transaction, with command byte and data or count (R19). -/
inductive BusOp where
  | readWord (command : Byte)
  | writeWord (command : Byte) (word : Word16)
  | readBlock (command : Byte) (count : Nat)
  | writeBlock (command : Byte) (data : List Byte)
  deriving DecidableEq, Repr

/-- The transaction on the bus (R19, R20). -/
structure Transaction where
  device : BusDevice
  /-- It was asked for through the passthrough slot, not by the device's poller. -/
  passthrough : Bool
  op : BusOp
  /-- The second of its two attempts is under way. -/
  second : Bool
  /-- PBC is recovering the bus before the attempt (R20). -/
  recovering : Bool
  /-- What is left of the 25 ms of the attempt. -/
  left : Nat
  /-- Its poller's turn was abandoned: the outcome is discarded (R23). -/
  abandoned : Bool
  deriving DecidableEq, Repr

/-- What the reads of a turn are for (R21). -/
inductive TurnWork where
  | switchOnly | identification | poll | contract
  deriving DecidableEq, Repr

/-- A poller's turn in progress (R21). -/
structure Turn where
  poller : BusDevice
  work : TurnWork
  /-- The transactions not yet begun, in order. -/
  todo : List BusOp
  /-- The words read so far, in order; held aside until all have succeeded (R25). -/
  words : List Word16
  deriving DecidableEq, Repr

/-- The passthrough slot's request (R34, R35). -/
structure Passthrough where
  device : BusDevice
  op : BusOp
  /-- The count was taken as 32, so a good reply is OK_ADJUSTED (R34). -/
  adjusted : Bool
  /-- Its transaction has begun. -/
  running : Bool
  /-- Its pack became ABSENT while it ran: it is answered NOT_PRESENT (R35). -/
  packGone : Bool
  deriving DecidableEq, Repr

/-- The Pack Bus Controller (R19 to R21, R36). -/
structure BusController where
  /-- The transaction on the bus, `none` while the bus is free. -/
  running : Option Transaction
  turn : Option Turn
  slot : Option Passthrough
  /-- The poller that had the last turn (R21). -/
  lastTurn : BusDevice
  /-- Failed recoveries in a row, 0 to 2 (R20). -/
  recoveryFails : Nat
  /-- A contract read of the port is due (R5). -/
  portDue : PerPort Bool
  deriving DecidableEq, Repr

/-! ## PKS: the Pack Supervisor (chapter 2) -/

/-- The pack state (R22). -/
inductive PackState where
  | absent | identify | ready | faulted
  deriving DecidableEq, Repr

/-- The fault causes of a pack (R22). -/
structure CauseSet where
  comm : Bool
  overCharged : Bool
  overTemp : Bool
  deriving DecidableEq, Repr

/-- The five flags of the alarm word, bits 0 to 4 (R28). -/
structure AlarmFlags where
  fullyCharged : Bool
  terminateDischarge : Bool
  terminateCharge : Bool
  overTemp : Bool
  overCharged : Bool
  deriving DecidableEq, Repr

/-- One pack record (R22). -/
structure PackRecord where
  populated : Bool
  present : Bool
  state : PackState
  causes : CauseSet
  identified : Bool
  voltage : Nat
  current : Int
  temperature : Int
  rsoc : Nat
  remaining : Nat
  full : Nat
  alarm : AlarmFlags
  reqCurrent : Nat
  reqVoltage : Nat
  cycleCount : Nat
  designCapacity : Nat
  failRun : Nat
  stale : Bool
  lastGood : Stamp
  switchOn : Bool
  switchHeld : Bool
  switchWritten : Bool
  deriving DecidableEq, Repr

/-- The schedule of a pack's poller (R24, R26): what is due, and the waits, ms. A wait of `none` is not running. -/
structure PackSchedule where
  identDue : Bool
  pollDue : Bool
  identLeft : Option Nat
  pollLeft : Option Nat
  deriving DecidableEq, Repr

/-! ## CHC: the Charge Controller (chapter 3) -/

/-- The mode of a stage (R39). -/
inductive StageMode where
  | cc | cv | rest | follow
  deriving DecidableEq, Repr

/-- A stage record as stored (R39). Current in mA, voltage in mV, limit in minutes. -/
structure Stage where
  mode : StageMode
  current : Nat
  voltage : Nat
  /-- End voltage, taper current or duration in minutes, by the mode; 0 for FOLLOW. -/
  endValue : Nat
  limit : Nat
  /-- On limit FAULT rather than NEXT. -/
  faultOnLimit : Bool
  deriving DecidableEq, Repr

/-- The charge state of a context (R41). -/
inductive ChargeState where
  | absent | idle | charging | paused | held | complete | faulted
  deriving DecidableEq, Repr

/-- The seven bars (R42). -/
structure Bars where
  noSource : Bool
  switching : Bool
  derate : Bool
  containment : Bool
  temperature : Bool
  terminate : Bool
  channel : Bool
  deriving DecidableEq, Repr

/-- One charge context (R38). The end index is the number of stages less one (R40). -/
structure ChargeContext where
  state : ChargeState
  stages : List Stage
  pointer : Nat
  /-- The stage elapsed, whole seconds (R47). -/
  elapsed : Nat
  /-- The part of a second not yet counted, ms (R47). -/
  elapsedPart : Nat
  taperRun : Nat
  causes : Bars
  heldLatch : Bool
  completeLatch : Bool
  timeoutLatch : Bool
  /-- The working values of a FOLLOW stage in force (R48). -/
  workCurrent : Nat
  workVoltage : Nat
  targetCurrent : Nat
  targetVoltage : Nat
  deriving DecidableEq, Repr

/-- The charge order of the charge policy (R64). -/
inductive ChargeOrder where
  | balanced | aFirst | bFirst
  deriving DecidableEq, Repr

/-- The charge policy (R64). -/
structure ChargePolicy where
  order : ChargeOrder
  limit : Nat
  preset : Nat
  recharge : Nat
  deriving DecidableEq, Repr

/-- The containment level (R167). -/
inductive ContainmentLevel where
  | none | stopCharge | shed
  deriving DecidableEq, Repr

/-- The per-pack group of the budget record (R53). -/
structure PackBudget where
  state : ChargeState
  eligible : Bool
  mode : StageMode
  iReq : Nat
  vX : Nat
  need : Nat
  share : Nat
  allotted : Nat
  targetCurrent : Nat
  targetVoltage : Nat
  deriving DecidableEq, Repr

/-- The budget record (R53). `allotted` above is the manual's "final". -/
structure BudgetRecord where
  active : Option SourceId
  switching : Bool
  vSrc : Nat
  iSrc : Nat
  margin : Nat
  pSys : Nat
  derate : Nat
  level : ContainmentLevel
  order : ChargeOrder
  pInMax : Nat
  pAvail : Nat
  pChg : Nat
  pBudget : Nat
  packs : PerPack PackBudget
  stamp : Stamp
  deriving DecidableEq, Repr

/-- The Charge Controller (R38, R42, R53, R58, R64). -/
structure ChargeController where
  context : PerPack ChargeContext
  policy : ChargePolicy
  budget : BudgetRecord
  /-- The pack records as PKS last handed them on (R42). -/
  handed : PerPack PackRecord
  /-- The channel's fault input is active after a detection of its own (R58). -/
  channelDetected : PerPack Bool
  deriving DecidableEq, Repr

/-- The snapshot (R32). -/
structure Snapshot where
  packs : PerPack PackRecord
  budget : BudgetRecord
  rsoc : Nat
  stamp : Stamp
  deriving DecidableEq, Repr

/-- The Pack Supervisor (R22, R26, R31, R32). -/
structure PackSupervisor where
  record : PerPack PackRecord
  schedule : PerPack PackSchedule
  /-- The pack was found present at a controller restart and not yet judged for the kept pack faults (R37, R177). -/
  unjudged : PerPack Bool
  /-- The platform RSOC, % (R31). -/
  rsoc : Nat
  snapshot : Option Snapshot
  deriving DecidableEq, Repr

/-! ## THU and FNC: sensors and fans (chapter 4) -/

/-- One sensor record (R68). Its kind is fixed by its index. Temperatures in 0.1 degree. -/
structure SensorRecord where
  value : Int
  valid : Bool
  stale : Bool
  substitute : Bool
  takesPart : Bool
  /-- SUPPLIED only: the age, ms. -/
  age : Nat
  /-- SUPPLIED only: the supplied value. -/
  supplied : Int
  deriving DecidableEq, Repr

/-- One entry of the derate table (R74). -/
structure DerateEntry where
  threshold : Int
  factor : Nat
  deriving DecidableEq, Repr

/-- The settings of THERMAL_CONFIG but for the table (R86). -/
structure ThermalSettings where
  /-- The freshness time, s. -/
  freshness : Nat
  staleSubstitute : Int
  criticalFan : Int
  offThreshold : Int
  trip : Int
  wake : Int
  deriving DecidableEq, Repr

/-- The Thermal Unit (R68 to R75). -/
structure ThermalUnit where
  sensors : Vector SensorRecord 8
  settings : ThermalSettings
  table : Vector DerateEntry 4
  heldEntry : Fin 4
  /-- The derate factor D (R75). -/
  derate : Nat
  /-- The trip condition holds (R73). -/
  trip : Bool
  /-- The thermal wake condition holds (R73). -/
  wakeCondition : Bool
  deriving DecidableEq, Repr

/-- One point of a fan curve (R76). -/
structure CurvePoint where
  temp : Int
  duty : Nat
  deriving DecidableEq, Repr

/-- The override mode of a fan (R83). -/
inductive OverrideMode where
  | auto | boost | manual
  deriving DecidableEq, Repr

/-- One fan record (R76, R81, R82). -/
structure FanRecord where
  populated : Bool
  curve : List CurvePoint
  hysteresis : Nat
  /-- The sensor mask, bit `i` for sensor `i`. -/
  mask : Byte
  controlTemp : Int
  curveValue : Nat
  mode : OverrideMode
  overrideDuty : Nat
  /-- The override's time left, s; `none` for unlimited. -/
  overrideLeft : Option Nat
  /-- The part of the override's present second gone by, ms. -/
  overridePart : Nat
  duty : Nat
  applied : Nat
  /-- What is left of the spin-up period, ms; 0 outside one. -/
  spinLeft : Nat
  rpm : Nat
  failed : Bool
  stallRun : Nat
  recoveryRun : Nat
  /-- The tachometer window in progress is the spin-up window (R81). -/
  windowSpin : Bool
  /-- The applied duty has been above 0 throughout the window in progress (R82). -/
  windowDriven : Bool
  deriving DecidableEq, Repr

/-- The Fan Controller (R76, R77). -/
structure FanController where
  fan : PerFan FanRecord
  /-- What is left of the 500 ms evaluation interval (R77). -/
  evalLeft : Nat
  deriving DecidableEq, Repr

/-! ## KBS and KRP: the keyboard (chapters 5 and 6) -/

/-- The state of a key position (R93). -/
inductive KeyState where
  | up | pressWait | down | releaseWait | blocked | latent
  deriving DecidableEq, Repr

/-- One key-table entry (R93); the last samples stand together in `Scanner.last`. -/
structure KeyEntry where
  state : KeyState
  counter : Nat
  code : Byte
  layer : Bool
  press : Stamp
  deriving DecidableEq, Repr

/-- One key-map entry (R110). -/
structure MapEntry where
  base : Byte
  fn : Byte
  modifier : Bool
  isolated : Bool
  repeats : Bool
  wake : Bool
  deriving DecidableEq, Repr

/-- The scan mode (R92). -/
inductive ScanMode where
  | stopped | active | wake
  deriving DecidableEq, Repr

/-- The settings of KEY_CONFIG (R106). -/
structure KeySettings where
  /-- The Fn position, `none` for 255. -/
  fn : Option Position
  pressDebounce : Nat
  releaseDebounce : Nat
  rollover : Nat
  scanPeriod : Nat
  typeDelay : Nat
  typePeriod : Nat
  deriving DecidableEq, Repr

/-- The suppression causes (R101). -/
structure Suppression where
  closed : Bool
  tablet : Bool
  notOn : Bool
  deriving DecidableEq, Repr

/-- The Keyboard Scanner (R91 to R106, R110). -/
structure Scanner where
  keys : Vector KeyEntry 144
  /-- The last samples (R91, R93). -/
  last : Samples
  map : Vector MapEntry 144
  settings : KeySettings
  mode : ScanMode
  /-- A scan pass is in progress (R91). -/
  passRunning : Bool
  /-- Time since the last pass began, ms (R92). -/
  sinceStart : Nat
  suppression : Suppression
  /-- The model's own: no pass has been evaluated since the platform was last in STARTING (R109; log 49). -/
  freshStart : Bool
  deriving DecidableEq, Repr

/-- The phase of typematic repeat (R120). -/
inductive TypePhase where
  | idle | delay | repeating
  deriving DecidableEq, Repr

/-- The Key Reporter (R119, R120, R125, R126). -/
structure Reporter where
  phase : TypePhase
  position : Position
  code : Byte
  layer : Bool
  /-- The typematic time left, ms. -/
  left : Nat
  overrun : Bool
  keyLost : Nat
  backlight : Nat
  /-- The backlight output duty, %. -/
  output : Nat
  deriving DecidableEq, Repr

/-- The kind of a key event (R117). -/
inductive KeyKind where
  | press | release | again | rollover
  deriving DecidableEq, Repr

/-- A key event (R117). `again` above is the manual's REPEAT. -/
structure KeyEvent where
  code : Byte
  kind : KeyKind
  fn : Bool
  synthetic : Bool
  overrun : Bool
  position : Position
  modifiers : Byte
  stamp : Stamp
  deriving DecidableEq, Repr

/-! ## LWU: lid, posture and wake sources (chapter 7) -/

/-- The posture (R131). The hinge posture is never CLOSED. -/
inductive Posture where
  | closed | laptop | tent | tablet
  deriving DecidableEq, Repr

/-- The eleven wake sources, in index order (R133). -/
inductive WakeSource where
  | powerButton | lidOpen | keyboard | sourceAttach | sourceDetach | lowEnergy | packAlarm | ext0 | ext1 | thermal
  | timer
  deriving DecidableEq, Repr

/-- One entry of the wake-source table (R133). -/
structure WakeEntry where
  status : Bool
  pending : Bool
  standbyEnable : Bool
  offEnable : Bool
  deriving DecidableEq, Repr

/-- The settings of one external wake input (R135). -/
structure ExtSettings where
  /-- The trigger is LEVEL rather than EDGE. -/
  level : Bool
  invert : Bool
  deriving DecidableEq, Repr

/-- The Lid and Wake Unit (R129 to R140). A timer of `none` is stopped. -/
structure WakeUnit where
  /-- The filtered lid state is CLOSED. -/
  lidClosed : Bool
  lidTimer : Option Nat
  hinge1 : Bool
  hinge1Timer : Option Nat
  hinge2 : Bool
  hinge2Timer : Option Nat
  hingePosture : Posture
  posture : Posture
  table : Vector WakeEntry 11
  ext0 : ExtSettings
  ext1 : ExtSettings
  /-- The last wake cause and its stamp (R139). -/
  cause : WakeMask
  causeStamp : Stamp
  /-- The wake timer's remaining time, ms; `none` while cancelled (R140). -/
  wakeTimer : Option Nat
  deriving DecidableEq, Repr

/-! ## PSQ: the Platform Sequencer (chapter 8) -/

/-- The platform state (R145). -/
inductive PlatformState where
  | off | starting | on | suspending | standby | resuming | stopping
  deriving DecidableEq, Repr

/-- The step of the state in progress (R145). -/
inductive SeqStep where
  | none | spgWait | mpgWait | resetHold | delay
  deriving DecidableEq, Repr

/-- The stop kind (R145). -/
inductive StopKind where
  | none | requested | forced
  deriving DecidableEq, Repr

/-- The last stop cause (R145). -/
inductive StopCause where
  | none | requested | button | grace | containment | rail
  deriving DecidableEq, Repr

/-- The six settings of PLATFORM_REQUEST (R161). -/
structure SeqSettings where
  standbyDelay : Nat
  offDelay : Nat
  /-- The override time, s. -/
  override : Nat
  /-- The grace time, s. -/
  grace : Nat
  critical : Nat
  start : Nat
  deriving DecidableEq, Repr

/-- The Platform Sequencer (R145, R146, R157 to R160). -/
structure Sequencer where
  state : PlatformState
  step : SeqStep
  stepLeft : Nat
  stopKind : StopKind
  lastStop : StopCause
  /-- The last of OFF, ON and STANDBY that the platform was in (R147). -/
  lastRest : PlatformState
  /-- SRE and MRE are asserted, PRST is asserted (R146). -/
  sre : Bool
  mre : Bool
  prst : Bool
  /-- The button state is PRESSED (R157). -/
  pressed : Bool
  buttonTimer : Option Nat
  pressInOn : Bool
  overrideFired : Bool
  /-- The present press's hold time has reached the override time (R158: once per press; log 23). -/
  overrideReached : Bool
  hold : Nat
  /-- The hold time counts. -/
  holding : Bool
  /-- The grace time left, ms; `none` while not running (R160). -/
  grace : Option Nat
  /-- Critical energy holds, as last judged (R159). -/
  critical : Bool
  /-- What is left of the restart hold, ms; `none` while not in force (R159). -/
  restartHold : Option Nat
  settings : SeqSettings
  deriving DecidableEq, Repr

/-! ## FLT and IND: faults and indicators (chapter 9) -/

/-- The twenty fault kinds, in index order (R163). -/
inductive FaultKind where
  | railFail | thermalTrip | packOverTemp | packOverCharged | chargerFault | sensorFault | fanStall | packCommLost
  | stageTimeout | busStuck | ramUncorrectable | supplyStale | sourceOverload | sourceInvalid | postureInput
  | linkErrors | ramCorrectedLimit | reportOverflow | buttonOverride | criticalShutdown
  deriving DecidableEq, Repr

/-- The severity of a kind (R163). -/
inductive Severity where
  | advisory | correctable | severe
  deriving DecidableEq, Repr

/-- The containment mode, which is also the name of a containment action (R166). -/
inductive ContainmentMode where
  | notify | stopCharge | shed | forceOff
  deriving DecidableEq, Repr

/-- One fault record; severity and fixed action belong to the kind (R163). -/
structure FaultRecord where
  status : Bool
  active : Bool
  masked : Bool
  count : Nat
  firstStamp : Stamp
  detail : Byte
  deriving DecidableEq, Repr

/-- The Fault Unit (R163 to R168). -/
structure FaultUnit where
  record : Vector FaultRecord 20
  mode : ContainmentMode
  level : ContainmentLevel
  /-- The THROTTLE output (R168). -/
  throttle : Bool
  deriving DecidableEq, Repr

/-- A pattern of an LED (R169). -/
inductive Pattern where
  | off | solid | slow | fast
  deriving DecidableEq, Repr

/-- The colour of the charge LED (R169). -/
inductive Colour where
  | amber | green
  deriving DecidableEq, Repr

/-- A pattern and a colour (R169). The colour is `none` where the manual names none: for the power LED, and for the
charge LED's derived OFF (log 22). -/
structure Show where
  pattern : Pattern
  colour : Option Colour
  deriving DecidableEq, Repr

/-- The record of one LED (R169). -/
structure LedRecord where
  derived : Show
  override : Option Show
  invert : Bool
  shown : Show
  /-- The phase in progress is the lit phase: always for SOLID, never for OFF. -/
  lit : Bool
  /-- What is left of the phase, ms; 0 for OFF and SOLID. -/
  left : Nat
  deriving DecidableEq, Repr

/-- The Indicator Unit (R169, R171). -/
structure Indicators where
  power : LedRecord
  charge : LedRecord
  /-- Blink left, 0 to 3 (R171). -/
  blink : Nat
  deriving DecidableEq, Repr

/-! ## LKP: the Link Port (chapter 10) -/

/-- A frame, less mark, length and check byte (R179). -/
structure Frame where
  type : Byte
  payload : List Byte
  deriving DecidableEq, Repr

/-- A frame of the reply queue; `restarts` marks the reply of a CONTROLLER_RESTART (R188). -/
structure Outgoing where
  frame : Frame
  restarts : Bool
  deriving DecidableEq, Repr

/-- The assembly buffer with its phase (R179, R181). `waiting` holds the BUSY or LINK_FAULT frame that a completed or
faulty frame will become once the reply queue has room. -/
inductive Assembly where
  | hunt
  | type
  | length (type : Byte)
  | payload (type length : Byte) (taken : List Byte)
  | check (type length : Byte) (taken : List Byte)
  | waiting (reply : Frame)
  deriving DecidableEq, Repr

/-- The service slot (R181, R184, R188). -/
inductive Service where
  | empty
  /-- A PACK_READ or PACK_WRITE of this type waits for the bus; a link reset has set `discard`. -/
  | passthrough (type : Byte) (discard : Bool)
  /-- A finished request's reply waits for room in the reply queue. -/
  | finished (reply : Outgoing)
  /-- A CONTROLLER_RESTART whose reply is in the reply queue. -/
  | restart
  deriving DecidableEq, Repr

/-- The Link Port (R178 to R189). -/
structure LinkPort where
  /-- The link state is RUN (R185). -/
  run : Bool
  /-- The link error counter (R178). -/
  errors : Nat
  /-- The start cause is a controller restart (R187). -/
  restarted : Bool
  assembly : Assembly
  /-- What is left of the gap timer, ms (R179). -/
  gapLeft : Nat
  service : Service
  /-- The reply queue: the frame being sent, then the one waiting (R181). -/
  replies : List Outgoing
  deriving DecidableEq, Repr

/-! ## RPM: the Report Memory (chapter 11) -/

/-- What the check code of a stored 32-bit word finds (R192, R197). -/
inductive WordCheck where
  | good | single | double
  deriving DecidableEq, Repr

/-- A notice with its detail: one constructor for each notice kind, in code order (R191). -/
inductive Notice where
  | powerButton (hold : Nat)
  | lid (closed : Bool) (posture : Posture)
  | posture (old new : Posture)
  | platform (new old : PlatformState) (cause : StopCause)
  | wake (cause : WakeMask) (stamp : Stamp)
  | source (new replaced : Option SourceId) (switching : Bool)
  | overload (ended : Bool) (active : Option SourceId) (pSys : Nat)
  | pack (pack : PackId) (old new : PackState)
  | packAlarm (pack : PackId) (flags : AlarmFlags)
  /-- `next` is `none` for COMPLETE; `cause` is 0 END, 1 LIMIT, 2 RECHARGE. -/
  | stage (pack : PackId) (ended : Nat) (next : Option Nat) (cause : Nat)
  | charge (pack : PackId) (old new : ChargeState) (causes : Bars)
  /-- `event` is 0 STARTED, 1 CANCELLED, 2 EXPIRED; `off` when the cause is OFF; `left` in s. -/
  | critical (event : Nat) (off : Bool) (rsoc left : Nat)
  | derate (old new : Nat) (held : Fin 4) (temp : Int)
  | trip (sensor : Fin 8) (value : Int)
  /-- `event` is 0 FAILED, 1 RECOVERED, 2 BOOST_STARTED, 3 BOOST_ENDED. -/
  | fan (fan : FanId) (event : Nat)
  | supplyStale (sensor : Fin 8) (substitute : Int)
  /-- `action` is the action code less 0xE0. -/
  | hotkey (action : Nat) (position : Position) (layer : Bool) (result : Nat)
  | fault (kind : FaultKind) (detail : Byte) (count : Nat)
  | budget (currentA currentB voltageA voltageB : Nat)
  deriving DecidableEq, Repr

/-- A key event as stored: two words (R192). -/
structure StoredKey where
  event : KeyEvent
  w0 : WordCheck
  w1 : WordCheck
  deriving DecidableEq, Repr

/-- A notice as stored: four words (R192, R195). -/
structure StoredNotice where
  notice : Notice
  count : Nat
  stamp : Stamp
  w0 : WordCheck
  w1 : WordCheck
  w2 : WordCheck
  w3 : WordCheck
  deriving DecidableEq, Repr

/-- A queue area in units of 64 bytes (R192). -/
structure Area where
  start : Nat
  stop : Nat
  deriving DecidableEq, Repr

/-- The Report Memory (R192 to R199). -/
structure ReportMemory where
  keyArea : Area
  noticeArea : Area
  /-- The KEY queue, oldest first. -/
  keys : List StoredKey
  /-- The NOTICE queue, oldest first. -/
  notices : List StoredNotice
  attnLevel : Nat
  correctedLimit : Nat
  corrected : Nat
  noticeLost : Nat
  /-- ATTN is low. -/
  attnLow : Bool
  deriving DecidableEq, Repr

/-! ## The whole part -/

/-- The state of the VC-2260. -/
structure State where
  /-- The uptime counter, ms (R1). -/
  uptime : Stamp
  /-- The straps as sampled at power-on (R2). -/
  straps : Straps
  /-- The inputs as last told. -/
  inputs : Inputs
  srs : Selector
  pbc : BusController
  pks : PackSupervisor
  chc : ChargeController
  thu : ThermalUnit
  fnc : FanController
  kbs : Scanner
  krp : Reporter
  lwu : WakeUnit
  psq : Sequencer
  flt : FaultUnit
  ind : Indicators
  lkp : LinkPort
  rpm : ReportMemory
  /-- The commands that wait, first in first out (the model's own field). -/
  pending : List Instr
  deriving DecidableEq, Repr

/-- The reasons for which the part stops. It has none: the manual gives every command an effect in every state (the
part reports what it finds wrong in its fault table, R163, and goes on), so no meaning faults. -/
inductive Fault where
  deriving DecidableEq, Repr

/-- The reasons for which a command has no meaning. -/
inductive Refusal where
  /-- Raised by `exec` alone, for a row of the table that has no meaning yet: safe, nothing is claimed of it. -/
  | notModelled (mnemonic : String)
  deriving DecidableEq, Repr

/-! ## Reset -/

/-- A source record that is not present (R3). -/
def absentSource (populated disabled : Bool) : SourceRecord :=
  { populated, present := false, valid := false, voltage := 0, current := 0, power := 0, cls := .none, settle := 0,
    settled := false, disabled }

/-- The ABSENT form of a pack record (R22). -/
def absentPack (populated : Bool) : PackRecord :=
  { populated, present := false, state := .absent, causes := ⟨false, false, false⟩, identified := false, voltage := 0,
    current := 0, temperature := 0, rsoc := 0, remaining := 0, full := 0, alarm := ⟨false, false, false, false, false⟩,
    reqCurrent := 0, reqVoltage := 0, cycleCount := 0, designCapacity := 0, failRun := 0, stale := false,
    lastGood := 0, switchOn := false, switchHeld := false, switchWritten := false }

/-- A poller with nothing due and no wait running (R36). -/
def idleSchedule : PackSchedule := { identDue := false, pollDue := false, identLeft := none, pollLeft := none }

/-- The default stage (R40). -/
def defaultStage : Stage :=
  { mode := .follow, current := 0, voltage := 0, endValue := 0, limit := 600, faultOnLimit := true }

/-- No bar holds. -/
def noBars : Bars := ⟨false, false, false, false, false, false, false⟩

/-- The ABSENT form of a charge context over a profile list (R38). -/
def absentContext (stages : List Stage) : ChargeContext :=
  { state := .absent, stages, pointer := 0, elapsed := 0, elapsedPart := 0, taperRun := 0, causes := noBars,
    heldLatch := false, completeLatch := false, timeoutLatch := false, workCurrent := 0, workVoltage := 0,
    targetCurrent := 0, targetVoltage := 0 }

/-- The default charge policy (R64). -/
def defaultPolicy : ChargePolicy := { order := .balanced, limit := 100, preset := 80, recharge := 90 }

/-- The per-pack group of the budget record for an absent pack with no input power (R55, R67). -/
def absentPackBudget : PackBudget :=
  { state := .absent, eligible := false, mode := .follow, iReq := 0, vX := 6000, need := 0, share := 0, allotted := 0,
    targetCurrent := 0, targetVoltage := 0 }

/-- A sensor without a value (R68). -/
def emptySensor : SensorRecord :=
  { value := 0, valid := false, stale := false, substitute := false, takesPart := false, age := 0, supplied := 0 }

/-- The default settings of THERMAL_CONFIG (R86). -/
def defaultThermal : ThermalSettings :=
  { freshness := 3, staleSubstitute := 950, criticalFan := 850, offThreshold := 600, trip := 1000, wake := 700 }

/-- The default derate table (R74). -/
def defaultTable : Vector DerateEntry 4 := #v[⟨0, 100⟩, ⟨450, 75⟩, ⟨500, 50⟩, ⟨550, 0⟩]

/-- A fan with its default settings, at rest (R76, R90). Its rpm is 0 until the first tachometer window ends: the manual
gives no value there (DESIGN CHOICE, log 48). -/
def restingFan (populated : Bool) (mask : Byte) : FanRecord :=
  { populated, curve := [⟨400, 250⟩, ⟨600, 500⟩, ⟨800, 1000⟩], hysteresis := 30, mask, controlTemp := -400,
    curveValue := 0, mode := .auto, overrideDuty := 0, overrideLeft := some 0, overridePart := 0, duty := 0,
    applied := 0, spinLeft := 0, rpm := 0, failed := false, stallRun := 0, recoveryRun := 0, windowSpin := false,
    windowDriven := false }

/-- A key position at UP (R93). -/
def upKey : KeyEntry := { state := .up, counter := 0, code := 0, layer := false, press := 0 }

/-- The default key-map entry of a position (R110). -/
def defaultMapEntry (p : Position) : MapEntry :=
  { base := BitVec.ofNat 8 (p.val + 1), fn := 0, modifier := false, isolated := false, repeats := true, wake := true }

/-- The default settings of KEY_CONFIG (R106). -/
def defaultKeySettings : KeySettings :=
  { fn := none, pressDebounce := 3, releaseDebounce := 4, rollover := 10, scanPeriod := 2, typeDelay := 500,
    typePeriod := 33 }

/-- The Key Reporter after a reset (R128). -/
def freshReporter : Reporter :=
  { phase := .idle, position := 0, code := 0, layer := false, left := 0, overrun := false, keyLost := 0,
    backlight := 0, output := 0 }

/-- A wake source with status and pending clear and the given enables (R133). -/
def wakeEntry (standby off : Bool) : WakeEntry :=
  { status := false, pending := false, standbyEnable := standby, offEnable := off }

/-- The wake-source table after power-on reset (R133, R144). -/
def defaultWakeTable : Vector WakeEntry 11 :=
  #v[wakeEntry true true, wakeEntry true false, wakeEntry true false, wakeEntry false false, wakeEntry false false,
     wakeEntry true false, wakeEntry true false, wakeEntry false false, wakeEntry false false, wakeEntry false false,
     wakeEntry false false]

/-- The default settings of PLATFORM_REQUEST (R161). -/
def defaultSeqSettings : SeqSettings :=
  { standbyDelay := 100, offDelay := 100, override := 4, grace := 30, critical := 3, start := 5 }

/-- A fault record after power-on reset, with its default mask (R165, R177). -/
def clearFault (masked : Bool) : FaultRecord :=
  { status := false, active := false, masked, count := 0, firstStamp := 0, detail := 0 }

/-- The fault table after power-on reset: the mask is set for the ADVISORY kinds, 11 to 19 (R165). -/
def defaultFaults : Vector FaultRecord 20 :=
  #v[clearFault false, clearFault false, clearFault false, clearFault false, clearFault false, clearFault false,
     clearFault false, clearFault false, clearFault false, clearFault false, clearFault false, clearFault true,
     clearFault true, clearFault true, clearFault true, clearFault true, clearFault true, clearFault true,
     clearFault true, clearFault true]

/-- An LED that shows OFF (R169). -/
def darkLed : LedRecord :=
  { derived := ⟨.off, none⟩, override := none, invert := false, shown := ⟨.off, none⟩, lit := false, left := 0 }

/-- The Link Port after power-on reset (R189). -/
def freshLink : LinkPort :=
  { run := false, errors := 0, restarted := false, assembly := .hunt, gapLeft := 0, service := .empty, replies := [] }

/-- The Report Memory after power-on reset (R192, R200). -/
def freshMemory : ReportMemory :=
  { keyArea := ⟨0, 32⟩, noticeArea := ⟨32, 40⟩, keys := [], notices := [], attnLevel := 0, correctedLimit := 16,
    corrected := 0, noticeLost := 0, attnLow := false }

/-- The straps of `State.reset` (DESIGN CHOICE, log 4): everything populated, 18 columns, 1000000 bits per second. -/
def resetStraps : Straps :=
  { packs2 := true, fans2 := true, columns18 := true, baud1M := true, barrelFitted := true }

/-- The inputs of `State.reset` (DESIGN CHOICE, log 4): nothing attached, lid open, hinges at (0,0), no key closed, no
button, both rail groups down, the four thermistors at 25.0 degrees. -/
def resetInputs : Inputs :=
  { barrelDetect := false, adapter := .noMatch, packA := false, packB := false, channelFaultA := false,
    channelFaultB := false, busLineHigh := true, board0 := 250, board1 := 250, board2 := 250, board3 := 250,
    matrix := 0, lidClosed := false, hinge1 := false, hinge2 := false, ext0 := false, ext1 := false, button := false,
    spg := false, mpg := false }

/-- A board sensor with the good reading 25.0 degrees (R69). -/
def resetBoardSensor : SensorRecord := { emptySensor with value := 250, valid := true, takesPart := true }

/-- The machine right after power-on reset under `resetStraps` and `resetInputs`: the reset section of each chapter
(R18, R36, R37, R67, R90, R108, R128, R144, R162, R177, R189, R200). The contract read of PORT1 is on the bus and that
of PORT2 is due (R18, R21). -/
def State.reset : State :=
  { uptime := 0
    straps := resetStraps
    inputs := resetInputs
    srs :=
      { barrel := absentSource true false, port1 := absentSource true false, port2 := absentSource true false,
        active := none, switching := false, switchLeft := 0, switchReplaced := false, pin := none, margin := 5, pSys := 0,
        overload := false, overloadRun := 0, portWait := ⟨0, 0⟩, awaitRead := ⟨false, false⟩ }
    pbc :=
      { running := some
          { device := .port1, passthrough := false, op := .readBlock 0x40 5, second := false, recovering := false,
            left := Config.attemptMs, abandoned := false }
        turn := some { poller := .port1, work := .contract, todo := [], words := [] }
        slot := none, lastTurn := .port1, recoveryFails := 0, portDue := ⟨false, true⟩ }
    pks :=
      { record := ⟨absentPack true, absentPack true⟩, schedule := ⟨idleSchedule, idleSchedule⟩,
        unjudged := ⟨false, false⟩, rsoc := 0, snapshot := none }
    chc :=
      { context := ⟨absentContext [defaultStage], absentContext [defaultStage]⟩, policy := defaultPolicy,
        budget :=
          { active := none, switching := false, vSrc := 0, iSrc := 0, margin := 5, pSys := 0, derate := 100,
            level := .none, order := .balanced, pInMax := 0, pAvail := 0, pChg := 0, pBudget := 0,
            packs := ⟨absentPackBudget, absentPackBudget⟩, stamp := 0 }
        handed := ⟨absentPack true, absentPack true⟩, channelDetected := ⟨false, false⟩ }
    thu :=
      { sensors := #v[resetBoardSensor, resetBoardSensor, resetBoardSensor, resetBoardSensor, emptySensor, emptySensor,
          emptySensor, emptySensor]
        settings := defaultThermal, table := defaultTable, heldEntry := 0, derate := 100, trip := false,
        wakeCondition := false }
    fnc :=
      { fan := ⟨{ restingFan true 0x11 with controlTemp := 250, curveValue := 250 },
          { restingFan true 0x25 with controlTemp := 250, curveValue := 250 }⟩
        evalLeft := Config.evaluationMs }
    kbs :=
      { keys := Vector.replicate 144 upKey, last := 0, map := Vector.ofFn defaultMapEntry,
        settings := defaultKeySettings, mode := .stopped, passRunning := false, sinceStart := 0,
        suppression := ⟨false, false, true⟩, freshStart := false }
    krp := freshReporter
    lwu :=
      { lidClosed := false, lidTimer := none, hinge1 := false, hinge1Timer := none, hinge2 := false,
        hinge2Timer := none, hingePosture := .laptop, posture := .laptop, table := defaultWakeTable,
        ext0 := ⟨false, false⟩, ext1 := ⟨false, false⟩, cause := 0, causeStamp := 0, wakeTimer := none }
    psq :=
      { state := .off, step := .none, stepLeft := 0, stopKind := .none, lastStop := .none, lastRest := .off,
        sre := false, mre := false, prst := true, pressed := false, buttonTimer := none, pressInOn := false,
        overrideFired := false, overrideReached := false, hold := 0, holding := false, grace := none,
        critical := false, restartHold := none, settings := defaultSeqSettings }
    flt := { record := defaultFaults, mode := .stopCharge, level := .none, throttle := false }
    ind := { power := darkLed, charge := darkLed, blink := 0 }
    lkp := freshLink
    rpm := freshMemory
    pending := [] }

end Sys2Proof.Machine
end

