-- ==== Sys2Proof/Machine/Flags.lean ====
section
/-! DEFINITION. Flag bytes, flag masks and the numbers of the enumerations, as R179 and each request's chapter give them. -/

namespace Sys2Proof

/-- The number of a pack (R33, R22). -/
def PackId.code : PackId → Nat
  | .a => 0
  | .b => 1

/-- The number of a fan (R87). -/
def FanId.code : FanId → Nat
  | .fan0 => 0
  | .fan1 => 1

/-- The detail byte of a source (R7). -/
def SourceId.detail : SourceId → Byte
  | .barrel => 0
  | .port1 => 1
  | .port2 => 2

end Sys2Proof

namespace Sys2Proof.Machine

/-- The number whose bits, from bit 0 upward, are the flags in the order listed (R179). -/
def flagNat : List Bool → Nat
  | [] => 0
  | b :: bs => b.toNat + 2 * flagNat bs

/-- A byte of flags (R179). -/
def flagByte (flags : List Bool) : Byte := BitVec.ofNat 8 (flagNat flags)

/-- Bit `i` of a number. -/
def bitOf (n i : Nat) : Bool := n.testBit i

/-- The number of an active source or a pin (R16, R17). -/
def sourceCode : Option SourceId → Nat
  | none => 0
  | some .barrel => 1
  | some .port1 => 2
  | some .port2 => 3

/-- The number of an adapter class (R17). -/
def AdapterClass.code : AdapterClass → Nat
  | .none => 0
  | .w45 => 1
  | .w65 => 2
  | .w90 => 3
  | .w135 => 4
  | .unknown => 5

/-- The number of a bus device, also the detail byte of BUS_STUCK (R20, R34). -/
def BusDevice.code : BusDevice → Nat
  | .packA => 0
  | .packB => 1
  | .port1 => 2
  | .port2 => 3

/-- The bus address of a device (R19). -/
def BusDevice.address : BusDevice → BitVec 7
  | .packA => 0x2C
  | .packB => 0x2D
  | .port1 => 0x31
  | .port2 => 0x32

/-- The number of a pack state (R33). -/
def PackState.code : PackState → Nat
  | .absent => 0
  | .identify => 1
  | .ready => 2
  | .faulted => 3

/-- The flags of a cause set (R33). -/
def CauseSet.flags (c : CauseSet) : List Bool := [c.comm, c.overCharged, c.overTemp]

/-- The flags of an alarm word, bits 0 to 4 (R28). -/
def AlarmFlags.flags (a : AlarmFlags) : List Bool :=
  [a.fullyCharged, a.terminateDischarge, a.terminateCharge, a.overTemp, a.overCharged]

/-- The number of a charge state (R62). -/
def ChargeState.code : ChargeState → Nat
  | .absent => 0
  | .idle => 1
  | .charging => 2
  | .paused => 3
  | .held => 4
  | .complete => 5
  | .faulted => 6

/-- The flags of a pause-cause set (R62). -/
def Bars.flags (b : Bars) : List Bool :=
  [b.noSource, b.switching, b.derate, b.containment, b.temperature, b.terminate, b.channel]

/-- At least one bar holds (R41). -/
def Bars.any (b : Bars) : Bool :=
  b.noSource || b.switching || b.derate || b.containment || b.temperature || b.terminate || b.channel

/-- The number of a stage mode (section 3.6). -/
def StageMode.code : StageMode → Nat
  | .cc => 0
  | .cv => 1
  | .rest => 2
  | .follow => 3

/-- The number of a charge order (R64). -/
def ChargeOrder.code : ChargeOrder → Nat
  | .balanced => 0
  | .aFirst => 1
  | .bFirst => 2

/-- The number of a containment level (R172). -/
def ContainmentLevel.code : ContainmentLevel → Nat
  | .none => 0
  | .stopCharge => 1
  | .shed => 2

/-- The number of a containment mode (R175). -/
def ContainmentMode.code : ContainmentMode → Nat
  | .notify => 0
  | .stopCharge => 1
  | .shed => 2
  | .forceOff => 3

/-- The number of an override mode (R88). -/
def OverrideMode.code : OverrideMode → Nat
  | .auto => 0
  | .boost => 1
  | .manual => 2

/-- The number of a scan mode (R105). -/
def ScanMode.code : ScanMode → Nat
  | .stopped => 0
  | .active => 1
  | .wake => 2

/-- The number of a key-event kind (R190). -/
def KeyKind.code : KeyKind → Nat
  | .press => 0
  | .release => 1
  | .again => 2
  | .rollover => 3

/-- The number of a posture (R142). -/
def Posture.code : Posture → Nat
  | .closed => 0
  | .laptop => 1
  | .tent => 2
  | .tablet => 3

/-- The number of a platform state (R161). -/
def PlatformState.code : PlatformState → Nat
  | .off => 0
  | .starting => 1
  | .on => 2
  | .suspending => 3
  | .standby => 4
  | .resuming => 5
  | .stopping => 6

/-- The number of a step (R161). -/
def SeqStep.code : SeqStep → Nat
  | .none => 0
  | .spgWait => 1
  | .mpgWait => 2
  | .resetHold => 3
  | .delay => 4

/-- The number of a stop cause (R161). -/
def StopCause.code : StopCause → Nat
  | .none => 0
  | .requested => 1
  | .button => 2
  | .grace => 3
  | .containment => 4
  | .rail => 5

/-- The number of a pattern (R176). -/
def Pattern.code : Pattern → Nat
  | .off => 1
  | .solid => 2
  | .slow => 3
  | .fast => 4

/-- The number of a colour (R176). -/
def Colour.code : Colour → Nat
  | .amber => 0
  | .green => 1

/-- The number of a severity (R191). -/
def Severity.code : Severity → Nat
  | .advisory => 0
  | .correctable => 1
  | .severe => 2

/-- The index of a wake source (R133). -/
def WakeSource.index : WakeSource → Fin 11
  | .powerButton => 0
  | .lidOpen => 1
  | .keyboard => 2
  | .sourceAttach => 3
  | .sourceDetach => 4
  | .lowEnergy => 5
  | .packAlarm => 6
  | .ext0 => 7
  | .ext1 => 8
  | .thermal => 9
  | .timer => 10

/-- The eleven wake sources in index order (R133). -/
def allWakeSources : List WakeSource :=
  [.powerButton, .lidOpen, .keyboard, .sourceAttach, .sourceDetach, .lowEnergy, .packAlarm, .ext0, .ext1, .thermal,
   .timer]

/-- The index of a fault kind (R163). -/
def FaultKind.index : FaultKind → Fin 20
  | .railFail => 0
  | .thermalTrip => 1
  | .packOverTemp => 2
  | .packOverCharged => 3
  | .chargerFault => 4
  | .sensorFault => 5
  | .fanStall => 6
  | .packCommLost => 7
  | .stageTimeout => 8
  | .busStuck => 9
  | .ramUncorrectable => 10
  | .supplyStale => 11
  | .sourceOverload => 12
  | .sourceInvalid => 13
  | .postureInput => 14
  | .linkErrors => 15
  | .ramCorrectedLimit => 16
  | .reportOverflow => 17
  | .buttonOverride => 18
  | .criticalShutdown => 19

/-- The twenty kinds in index order (R163). -/
def allFaultKinds : List FaultKind :=
  [.railFail, .thermalTrip, .packOverTemp, .packOverCharged, .chargerFault, .sensorFault, .fanStall, .packCommLost,
   .stageTimeout, .busStuck, .ramUncorrectable, .supplyStale, .sourceOverload, .sourceInvalid, .postureInput,
   .linkErrors, .ramCorrectedLimit, .reportOverflow, .buttonOverride, .criticalShutdown]

/-- The severity of a kind (R163). -/
def FaultKind.severity : FaultKind → Severity
  | .railFail | .thermalTrip | .packOverTemp | .packOverCharged | .chargerFault => .severe
  | .sensorFault | .fanStall | .packCommLost | .stageTimeout | .busStuck | .ramUncorrectable => .correctable
  | .supplyStale | .sourceOverload | .sourceInvalid | .postureInput | .linkErrors | .ramCorrectedLimit
  | .reportOverflow | .buttonOverride | .criticalShutdown => .advisory

/-- A kind of severity SEVERE (R163). -/
def FaultKind.severe (k : FaultKind) : Bool := k.severity == .severe

/-- The lasting kinds (R163). -/
def FaultKind.lasting : FaultKind → Bool
  | .railFail | .stageTimeout | .ramUncorrectable | .linkErrors | .ramCorrectedLimit | .reportOverflow
  | .buttonOverride | .criticalShutdown => false
  | _ => true

/-- The fixed action of a SEVERE kind, as the containment mode of the same name; `notify` for the others, which have
none (R163, R166). -/
def FaultKind.fixedAction : FaultKind → ContainmentMode
  | .railFail | .thermalTrip => .forceOff
  | .packOverTemp | .packOverCharged | .chargerFault => .stopCharge
  | _ => .notify

/-- The code of a notice kind (R191). -/
def Notice.code : Notice → Nat
  | .powerButton _ => 0
  | .lid _ _ => 1
  | .posture _ _ => 2
  | .platform _ _ _ => 3
  | .wake _ _ => 4
  | .source _ _ _ => 5
  | .overload _ _ _ => 6
  | .pack _ _ _ => 7
  | .packAlarm _ _ => 8
  | .stage _ _ _ _ => 9
  | .charge _ _ _ _ => 10
  | .critical _ _ _ _ => 11
  | .derate _ _ _ _ => 12
  | .trip _ _ => 12
  | .fan _ _ => 13
  | .supplyStale _ _ => 14
  | .hotkey _ _ _ _ => 15
  | .fault _ _ _ => 16
  | .budget _ _ _ _ => 17

/-- The level of a notice, fixed for its kind (R191). -/
def Notice.level : Notice → Nat
  | .powerButton _ => 5
  | .lid _ _ => 4
  | .posture _ _ => 3
  | .platform _ _ _ => 3
  | .wake _ _ => 4
  | .source _ _ _ => 4
  | .overload _ _ _ => 5
  | .pack _ _ _ => 3
  | .packAlarm _ _ => 5
  | .stage _ _ _ _ => 2
  | .charge _ _ _ _ => 2
  | .critical _ _ _ _ => 7
  | .derate _ _ _ _ => 4
  | .trip _ _ => 4
  | .fan _ _ => 3
  | .supplyStale _ _ => 5
  | .hotkey _ _ _ _ => 3
  | .fault _ _ _ => 6
  | .budget _ _ _ _ => 1

end Sys2Proof.Machine
end

