-- ==== Sys2Proof/Machine/Operands.lean ====
section
/-! DEFINITION. Reading the fields of a payload and writing the fields of a reply: byte order (R179), signed values,
clamping to a range, the check byte (R180), stages (R39, section 3.6), key events (R190) and notices (R191). -/

namespace Sys2Proof.Machine

/-! ## Fields of a payload -/

/-- Byte `i` of a payload. -/
def byteAt (p : List Byte) (i : Nat) : Nat := (p.getD i 0).toNat

/-- The two-byte field at byte `i`, low byte first (R179). -/
def le16At (p : List Byte) (i : Nat) : Nat := byteAt p i + 256 * byteAt p (i + 1)

/-- The three-byte field at byte `i`, low byte first (R179). -/
def le24At (p : List Byte) (i : Nat) : Nat := le16At p i + 65536 * byteAt p (i + 2)

/-- The four-byte field at byte `i`, low byte first (R179). -/
def le32At (p : List Byte) (i : Nat) : Nat := le16At p i + 65536 * le16At p (i + 2)

/-- The signed two-byte field at byte `i`, in two's complement (R179). -/
def signed16At (p : List Byte) (i : Nat) : Int := (BitVec.ofNat 16 (le16At p i)).toInt

/-- A value set to the nearer end of a range if outside it. -/
def clampNat (lo hi x : Nat) : Nat := if x < lo then lo else if hi < x then hi else x

/-- A signed value set to the nearer end of a range if outside it. -/
def clampInt (lo hi x : Int) : Int := if x < lo then lo else if hi < x then hi else x

/-! ## Fields of a reply -/

/-- A one-byte field. -/
def byteOf (n : Nat) : Byte := BitVec.ofNat 8 n

/-- A one-byte field of 0 or 1. -/
def boolByte (b : Bool) : Byte := if b then 1 else 0

/-- The bytes of a 16-bit word, low byte first (R179). -/
def wordBytes (w : Word16) : List Byte := [w.extractLsb' 0 8, w.extractLsb' 8 8]

/-- The bytes of a 32-bit word, low byte first (R179). -/
def stampBytes (w : Stamp) : List Byte :=
  [w.extractLsb' 0 8, w.extractLsb' 8 8, w.extractLsb' 16 8, w.extractLsb' 24 8]

/-- A two-byte field. What it carries for a quantity that does not fit is a free value (log 21). -/
def le16 (n : Nat) : List Byte := wordBytes (if n < 65536 then BitVec.ofNat 16 n else Config.wideField16 n)

/-- A signed two-byte field (R179). -/
def les16 (i : Int) : List Byte := wordBytes (BitVec.ofInt 16 i)

/-- A four-byte field. What it carries for a quantity that does not fit is a free value (log 21). -/
def le32 (n : Nat) : List Byte := stampBytes (if n < 4294967296 then BitVec.ofNat 32 n else Config.wideField32 n)

/-- A two-byte mask (section 7.9). -/
def mask16 (flags : List Bool) : List Byte := wordBytes (BitVec.ofNat 16 (flagNat flags))

/-- A three-byte mask (section 9.4). -/
def mask24 (flags : List Bool) : List Byte := (stampBytes (BitVec.ofNat 32 (flagNat flags))).take 3

/-- A quantity in ms as seconds, rounded up (R142, R161). -/
def secondsUp (ms : Nat) : Nat := (ms + 999) / 1000

/-! ## The check byte -/

/-- One bit of the CRC-8: shift left, and subtract x⁸ + x² + x + 1 when a bit leaves (R180). -/
def crcShift (c : Byte) : Byte := if c.msb then (c <<< 1) ^^^ 0x07 else c <<< 1

/-- One byte of the CRC-8, most significant bit first (R180). -/
def crcByte (c b : Byte) : Byte :=
  crcShift (crcShift (crcShift (crcShift (crcShift (crcShift (crcShift (crcShift (c ^^^ b))))))))

/-- The CRC-8 of a run of bytes, from the initial value 0 (R180). -/
def crc8 (bytes : List Byte) : Byte := bytes.foldl crcByte 0

/-- The check byte of a frame: over type, length and payload (R180). -/
def Frame.check (f : Frame) : Byte := crc8 (f.type :: byteOf f.payload.length :: f.payload)

/-- The bytes of a frame on the line (section 10.7). -/
def Frame.bytes (f : Frame) : List Byte := 0x5A :: f.type :: byteOf f.payload.length :: (f.payload ++ [f.check])

/-! ## Stages -/

/-- The range of a stage's end value (R39). -/
def endRange : StageMode → Nat × Nat
  | .cc => (6000, 17600)
  | .cv => (25, 1000)
  | .rest => (1, 1440)
  | .follow => (0, 0)

/-- A stage current as stored: a multiple of 25, at most 4000 (R39, R48). -/
def storedCurrent (mA : Nat) : Nat := min 4000 (mA / 25 * 25)

/-- A stage voltage as stored: a multiple of 8 within 6000 to 17600 (R39, R48). -/
def storedVoltage (mV : Nat) : Nat := clampNat 6000 17600 (mV / 8 * 8)

/-- A stage in the form in which CHC stores it (R39). -/
def storeStage (g : Stage) : Stage :=
  match g.mode with
  | .follow => { g with current := 0, voltage := 0, endValue := 0, limit := min 1440 g.limit }
  | m =>
    { g with
      current := storedCurrent g.current
      voltage := storedVoltage g.voltage
      endValue := clampNat (endRange m).1 (endRange m).2 g.endValue
      limit := min 1440 g.limit }

/-- A value of the stage was adjusted: the stored form differs from the value given. A FOLLOW stage's current, voltage
and end value never count (R39). -/
def stageAdjusted (g : Stage) : Bool :=
  match g.mode with
  | .follow => (storeStage g).limit != g.limit
  | _ => storeStage g != g

/-- The mode and on limit of a stage code, `none` above 7 (section 3.6). -/
def stageCode (c : Nat) : Option (StageMode × Bool) :=
  match c with
  | 0 => some (.cc, false)
  | 1 => some (.cv, false)
  | 2 => some (.rest, false)
  | 3 => some (.follow, false)
  | 4 => some (.cc, true)
  | 5 => some (.cv, true)
  | 6 => some (.rest, true)
  | 7 => some (.follow, true)
  | _ => none

/-- The stage given in the nine bytes at byte `i`, `none` for a code above 7 (section 3.6). -/
def stageAt (p : List Byte) (i : Nat) : Option Stage :=
  match stageCode (byteAt p i) with
  | none => none
  | some (mode, faultOnLimit) =>
    some { mode, faultOnLimit, current := le16At p (i + 1), voltage := le16At p (i + 3), endValue := le16At p (i + 5),
           limit := le16At p (i + 7) }

/-- The `n` stages from byte `i` on, `none` when one carries a code above 7 (R60). -/
def stagesAt (p : List Byte) (i : Nat) : Nat → Option (List Stage)
  | 0 => some []
  | n + 1 =>
    match stageAt p i, stagesAt p (i + 9) n with
    | some g, some gs => some (g :: gs)
    | _, _ => none

/-- A stage in the nine-byte form (section 3.6). -/
def stageBytes (g : Stage) : List Byte :=
  byteOf (g.mode.code + if g.faultOnLimit then 4 else 0) ::
    (le16 g.current ++ le16 g.voltage ++ le16 g.endValue ++ le16 g.limit)

/-! ## Entries of the report queues -/

/-- A key event as delivered, 8 bytes (R190). -/
def KeyEvent.bytes (e : KeyEvent) : List Byte :=
  [e.code, byteOf (e.kind.code + 16 * e.fn.toNat + 32 * e.synthetic.toNat + 64 * e.overrun.toNat),
    byteOf e.position.val, e.modifiers] ++ stampBytes e.stamp

/-- The detail of a notice, from byte 7 (R191). -/
def Notice.detail : Notice → List Byte
  | .powerButton hold => le16 hold
  | .lid closed shown => [boolByte closed, byteOf shown.code]
  | .posture old new => [byteOf old.code, byteOf new.code]
  | .platform new old cause => [byteOf new.code, byteOf old.code, byteOf cause.code]
  | .wake cause stamp => wordBytes (cause.setWidth 16) ++ stampBytes stamp
  | .source new replaced switching => [byteOf (sourceCode new), byteOf (sourceCode replaced), boolByte switching]
  | .overload ended active pSys => [boolByte ended, byteOf (sourceCode active)] ++ le32 pSys
  | .pack p old new => [byteOf p.code, byteOf old.code, byteOf new.code]
  | .packAlarm p flags => [byteOf p.code, flagByte flags.flags]
  | .stage p ended next cause =>
    [byteOf p.code, byteOf ended, (match next with | some n => byteOf n | none => 255), byteOf cause]
  | .charge p old new causes => [byteOf p.code, byteOf old.code, byteOf new.code, flagByte causes.flags]
  | .critical event off rsoc left => [byteOf event, boolByte off, byteOf rsoc] ++ le16 left
  | .derate old new held temp => [0, byteOf old, byteOf new, byteOf held.val] ++ les16 temp
  | .trip sensor value => [1, byteOf sensor.val] ++ les16 value
  | .fan f event => [byteOf f.code, byteOf event]
  | .supplyStale sensor substitute => byteOf sensor.val :: les16 substitute
  | .hotkey action position layer result => [byteOf action, byteOf position.val, boolByte layer, byteOf result]
  | .fault kind detail count => [byteOf kind.index.val, byteOf kind.severity.code, detail, byteOf count]
  | .budget ca cb va vb => le16 ca ++ le16 cb ++ le16 va ++ le16 vb

/-- A notice entry as delivered, 16 bytes; unused detail bytes are 0 (R191). -/
def StoredNotice.bytes (e : StoredNotice) : List Byte :=
  ([byteOf e.notice.code, byteOf e.notice.level, byteOf e.count] ++ stampBytes e.stamp ++ e.notice.detail ++
    List.replicate 9 0).take 16

end Sys2Proof.Machine
end

