-- ==== Sys2Proof/Machine/Ops.lean ====
section
/-! DEFINITION. The shared operations: reading and writing the families of records, the report queues and ATTN (chapter
11), the offering of a notice (R195), the offering of a key event (R119, R194), a fault detection (R164, R165), THROTTLE
(R168) and the two LEDs (R169, R170). -/

namespace Sys2Proof

/-- The other pack. -/
def PackId.other : PackId → PackId
  | .a => .b
  | .b => .a

/-- The sensor index of a supplied sensor (R68). -/
def SupplyId.sensor : SupplyId → Fin 8
  | .sup0 => 4
  | .sup1 => 5

/-- The sensor index of a pack's temperature (R68). -/
def PackId.sensor : PackId → Fin 8
  | .a => 6
  | .b => 7

/-- The source record that a port's contract goes to (R5). -/
def PortId.source : PortId → SourceId
  | .port1 => .port1
  | .port2 => .port2

end Sys2Proof

namespace Sys2Proof.Machine

/-! ## Families of records -/

/-- The value of a pack. -/
def PerPack.get {α : Type} (x : PerPack α) : PackId → α
  | .a => x.a
  | .b => x.b

/-- The family with one pack's value replaced. -/
def PerPack.set {α : Type} (x : PerPack α) (p : PackId) (v : α) : PerPack α :=
  match p with
  | .a => { x with a := v }
  | .b => { x with b := v }

/-- The value of a port. -/
def PerPort.get {α : Type} (x : PerPort α) : PortId → α
  | .port1 => x.port1
  | .port2 => x.port2

/-- The family with one port's value replaced. -/
def PerPort.set {α : Type} (x : PerPort α) (p : PortId) (v : α) : PerPort α :=
  match p with
  | .port1 => { x with port1 := v }
  | .port2 => { x with port2 := v }

/-- The value of a fan. -/
def PerFan.get {α : Type} (x : PerFan α) : FanId → α
  | .fan0 => x.fan0
  | .fan1 => x.fan1

/-- The family with one fan's value replaced. -/
def PerFan.set {α : Type} (x : PerFan α) (f : FanId) (v : α) : PerFan α :=
  match f with
  | .fan0 => { x with fan0 := v }
  | .fan1 => { x with fan1 := v }

/-- The record of a source (R3). -/
def Selector.get (x : Selector) : SourceId → SourceRecord
  | .barrel => x.barrel
  | .port1 => x.port1
  | .port2 => x.port2

/-- The selector with one source record replaced. -/
def Selector.set (x : Selector) (i : SourceId) (r : SourceRecord) : Selector :=
  match i with
  | .barrel => { x with barrel := r }
  | .port1 => { x with port1 := r }
  | .port2 => { x with port2 := r }

/-- The record of a fault kind (R163). -/
def FaultUnit.get (f : FaultUnit) (k : FaultKind) : FaultRecord := f.record[k.index]

/-- The fault table with one record replaced. -/
def FaultUnit.set (f : FaultUnit) (k : FaultKind) (r : FaultRecord) : FaultUnit :=
  { f with record := f.record.set k.index r }

/-- The entry of a wake source (R133). -/
def WakeUnit.get (w : WakeUnit) (i : WakeSource) : WakeEntry := w.table[i.index]

/-- The wake-source table with one entry replaced. -/
def WakeUnit.set (w : WakeUnit) (i : WakeSource) (e : WakeEntry) : WakeUnit :=
  { w with table := w.table.set i.index e }

/-- The list with its first element that meets `p` replaced. -/
def updateFirst {α : Type} (p : α → Bool) (f : α → α) : List α → List α
  | [] => []
  | x :: xs => if p x then f x :: xs else x :: updateFirst p f xs

/-! ## RPM: attention, words, areas -/

/-- The capacity of the KEY queue (R192). -/
def keyCapacity (r : ReportMemory) : Nat := (r.keyArea.stop - r.keyArea.start) * 64 / 8

/-- The capacity of the NOTICE queue (R192). -/
def noticeCapacity (r : ReportMemory) : Nat := (r.noticeArea.stop - r.noticeArea.start) * 64 / 16

/-- ATTN is to be low: a key event counts as level 4 (R198). -/
def attnWanted (r : ReportMemory) : Bool :=
  (!r.keys.isEmpty && decide (r.attnLevel < 4)) || r.notices.any fun e => decide (r.attnLevel < e.notice.level)

/-- RPM judges ATTN afresh (R198). -/
def judgeAttn (r : ReportMemory) : ReportMemory := { r with attnLow := attnWanted r }

/-- Each word of an entry is checked as the entry is read: how many are corrected, and whether a double-bit error in one
of them drops the entry (R197). -/
def checkWords : List WordCheck → Nat × Bool
  | [] => (0, false)
  | .good :: ws => checkWords ws
  | .single :: ws => ((checkWords ws).1 + 1, (checkWords ws).2)
  | .double :: ws => ((checkWords ws).1, true)

/-- What RPM reports to the Fault Unit: a kind and its detail byte. -/
abbrev Reports := List (FaultKind × Byte)

/-- `n` words of a queue's entry were corrected: the corrected counter rises by one for each, and at the corrected limit
RAM_CORRECTED_LIMIT is reported and the counter returns to 0 (R197). A counter at or above the limit already, as a
controller restart can leave it (R200), reaches the limit with the next corrected word (DESIGN CHOICE, log 61). -/
def correctWords (queue : Byte) : Nat → ReportMemory → ReportMemory × Reports
  | 0, r => (r, [])
  | n + 1, r =>
    if r.correctedLimit ≤ r.corrected + 1 then
      let (r', ds) := correctWords queue n { r with corrected := 0 }
      (r', (.ramCorrectedLimit, queue) :: ds)
    else correctWords queue n { r with corrected := r.corrected + 1 }

/-! ## RPM: the NOTICE queue (R195) -/

/-- The entry is of the notice's kind. -/
def sameKind (n : Notice) (e : StoredNotice) : Bool := e.notice.code == n.code

/-- A notice as it is appended, with a repeat count of 1. -/
def freshEntry (n : Notice) (t : Stamp) : StoredNotice :=
  { notice := n, count := 1, stamp := t, w0 := .good, w1 := .good, w2 := .good, w3 := .good }

/-- An entry after a merge: new detail, new stamp, and a repeat count one higher unless it is at 255; the whole entry is
rewritten (R195, R197). -/
def mergedEntry (n : Notice) (t : Stamp) (e : StoredNotice) : StoredNotice :=
  { freshEntry n t with count := min 255 (e.count + 1) }

/-- The lowest level among queued entries; 8 for none. -/
def lowestLevel (q : List StoredNotice) : Nat := q.foldl (fun m e => min m e.notice.level) 8

/-- One notice is lost: the counter rises, and REPORT_OVERFLOW is reported with the lost kind's code (R195). -/
def loseNotice (lost : Notice) (r : ReportMemory) : ReportMemory × Reports :=
  ({ r with noticeLost := min 65535 (r.noticeLost + 1) }, [(.reportOverflow, byteOf lost.code)])

/-- Cases 2, 3 and 4 of R195, for a notice whose kind is not queued. -/
def placeFresh (n : Notice) (t : Stamp) (r : ReportMemory) : ReportMemory × Reports :=
  if r.notices.length < noticeCapacity r then
    ({ r with notices := r.notices ++ [freshEntry n t] }, [])
  else
    let low := lowestLevel r.notices
    match r.notices.find? fun e => e.notice.level == low with
    | some e =>
      if low < n.level then
        loseNotice e.notice
          { r with notices := (r.notices.eraseP fun e => e.notice.level == low) ++ [freshEntry n t] }
      else loseNotice n r
    | none => loseNotice n r

/-- A notice is offered to the NOTICE queue (R195): the memory after it, and what RPM reports. A merge reads the entry's
common part, its first two words (R197; log 9), and reports RAM_CORRECTED_LIMIT before RAM_UNCORRECTABLE, whichever word
comes first (DESIGN CHOICE, log 10). -/
def placeNotice (n : Notice) (t : Stamp) (r : ReportMemory) : ReportMemory × Reports :=
  match r.notices.find? (sameKind n) with
  | none => placeFresh n t r
  | some e =>
    let (corrected, bad) := checkWords [e.w0, e.w1]
    let (r1, ds) := correctWords 1 corrected r
    if bad then
      let (r2, ds') := placeFresh n t { r1 with notices := r1.notices.eraseP (sameKind n) }
      (r2, ds ++ (.ramUncorrectable, 1) :: ds')
    else ({ r1 with notices := updateFirst (sameKind n) (mergedEntry n t) r1.notices }, ds)

/-! ## IND: the two LEDs -/

/-- Some SEVERE kind has its status set (R169, R173). -/
def severeStatus (f : FaultUnit) : Bool := allFaultKinds.any fun k => k.severe && (f.get k).status

/-- Some SEVERE kind is active (R148, R167). -/
def severeActive (f : FaultUnit) : Bool := allFaultKinds.any fun k => k.severe && (f.get k).active

/-- The length of a phase of a pattern, ms (R169). -/
def phaseMs : Pattern → Nat
  | .off | .solid => 0
  | .slow => 500
  | .fast => 125

/-- The LED shows the pattern and colour from a fresh lit phase; OFF has none (R169). -/
def freshShow (led : LedRecord) (want : Show) : LedRecord :=
  { led with shown := want, lit := want.pattern != .off, left := phaseMs want.pattern }

/-- The LED shows the pattern and colour; only a change starts afresh with a lit phase (R169). -/
def showOn (led : LedRecord) (want : Show) : LedRecord := if led.shown = want then led else freshShow led want

/-- The phase that the shown pattern is in: dark always for OFF, lit always for SOLID (R169). -/
def litPhase (led : LedRecord) : Bool :=
  match led.shown.pattern with
  | .off => false
  | .solid => true
  | .slow | .fast => led.lit

/-- The level at which the LED is driven: lit in the lit phases, or with invert set in the dark ones (R169). -/
def drivenLit (led : LedRecord) : Bool := litPhase led != led.invert

/-- The colour of its number (R176). -/
def colourOf (n : Nat) : Colour := if n = 0 then .amber else .green

/-- What the charge LED is driven with: `none` while dark, else the shown colour (R169). An inverted derived OFF is lit in
a colour that the manual does not name: the one that the free value of log 22 stands for. -/
def drivenColour (led : LedRecord) : Option Colour :=
  if drivenLit led then some (led.shown.colour.getD (colourOf Config.unnamedColour.toNat)) else none

/-- Amber FAST. -/
def amberFast : Show := ⟨.fast, some .amber⟩

/-- The derived pattern of the power LED (R169). -/
def derivedPower : PlatformState → Show
  | .on => ⟨.solid, none⟩
  | .suspending | .standby | .resuming => ⟨.slow, none⟩
  | .off | .starting | .stopping => ⟨.off, none⟩

/-- A present pack's context is COMPLETE or HELD, or the pack is not present (R170). -/
def chargeDone (s : State) (p : PackId) : Bool :=
  !(s.pks.record.get p).present || (s.chc.context.get p).state == .complete || (s.chc.context.get p).state == .held

/-- A context is CHARGING with a target current above 0 (R170). -/
def chargeFlows (s : State) (p : PackId) : Bool :=
  (s.chc.context.get p).state == .charging && decide (0 < (s.chc.context.get p).targetCurrent)

/-- The derived pattern and colour of the charge LED: the first case of R170 that holds. -/
def derivedCharge (s : State) : Show :=
  if severeStatus s.flt then amberFast
  else if s.psq.grace.isSome then ⟨.slow, some .amber⟩
  else if chargeFlows s .a || chargeFlows s .b then ⟨.solid, some .amber⟩
  else if s.srs.active.isSome && ((s.pks.record.get .a).present || (s.pks.record.get .b).present) && chargeDone s .a
      && chargeDone s .b then ⟨.solid, some .green⟩
  else ⟨.off, none⟩

/-- What the charge LED shows, in the order of R169. -/
def chosenCharge (s : State) (derived : Show) : Show :=
  if severeStatus s.flt then amberFast
  else if 0 < s.ind.blink then amberFast
  else s.ind.charge.override.getD derived

/-- IND derives the charge LED again and shows it (R169, R170). -/
def refreshChargeLed (s : State) : State :=
  { s with ind.charge := showOn { s.ind.charge with derived := derivedCharge s } (chosenCharge s (derivedCharge s)) }

/-- IND derives the power LED again and shows it (R169). -/
def refreshPowerLed (s : State) : State :=
  { s with
    ind.power := showOn { s.ind.power with derived := derivedPower s.psq.state }
      (s.ind.power.override.getD (derivedPower s.psq.state)) }

/-! ## FLT: detections -/

/-- Step 1 of R164: the record of a detection. -/
def recordedFault (k : FaultKind) (detail : Byte) (now : Stamp) (r : FaultRecord) : FaultRecord :=
  { r with
    active := r.active || k.lasting
    status := true
    firstStamp := if r.status then r.firstStamp else now
    count := min 255 (r.count + 1)
    detail }

/-- A detection, in the order of R164: record, action (for a SEVERE kind), hand-off to IND and FAULT notice. How the
notice is offered and what the action does are given by the caller. -/
def detectWith (action : State → State) (offer : Notice → State → State) (k : FaultKind) (detail : Byte) (s : State) :
    State :=
  let before := s.flt.get k
  let after := recordedFault k detail s.uptime before
  let s1 := action { s with flt := s.flt.set k after }
  if before.status then s1
  else
    let s2 := refreshChargeLed s1
    if before.masked then s2 else offer (.fault k detail after.count) s2

/-- An owner reports that a lasting kind's condition no longer holds (R165). -/
def endFault (k : FaultKind) (s : State) : State :=
  { s with flt := s.flt.set k { s.flt.get k with active := false } }

/-- A notice is offered (R195), and what RPM reports is taken as detections, whose FAULT notices are offered by the same
rule. The chain ends: each FAULT notice in it follows a status going from clear to set, of RAM_UNCORRECTABLE,
RAM_CORRECTED_LIMIT or REPORT_OVERFLOW, so no more than three nested offers follow the first (the depth counts them). -/
def offerDepth : Nat → Notice → State → State
  | 0, _, s => s
  | n + 1, notice, s =>
    let (r, reports) := placeNotice notice s.uptime s.rpm
    reports.foldl (fun t d => detectWith id (offerDepth n) d.1 d.2 t) { s with rpm := judgeAttn r }

/-- A block raises a notice (R195). -/
def raise (n : Notice) (s : State) : State := offerDepth 4 n s

/-- A detection of a kind that is not SEVERE (R164). -/
def detectMild (k : FaultKind) (detail : Byte) (s : State) : State := detectWith id raise k detail s

/-- The detections RPM reports, one after another. -/
def takeReports (reports : Reports) (s : State) : State := reports.foldl (fun t d => detectMild d.1 d.2 t) s

/-- Notices raised one after another. -/
def raiseAll (ns : List Notice) (s : State) : State := ns.foldl (fun t n => raise n t) s

/-! ## FLT: THROTTLE -/

/-- A pack is discharge-capable: its discharge switch is on (R30). -/
def dischargeCapable (s : State) : Bool := s.pks.record.a.switchOn || s.pks.record.b.switchOn

/-- THROTTLE is to be asserted (R168). -/
def throttleWanted (s : State) : Bool := s.flt.level == .shed || (s.srs.overload && !dischargeCapable s)

/-- FLT judges THROTTLE afresh (R168). -/
def judgeThrottle (s : State) : State := { s with flt.throttle := throttleWanted s }

/-! ## RPM: the KEY queue -/

/-- KRP offers a key event to the KEY queue: taken at the tail, with OVERRUN after a loss, or refused and counted (R119,
R194). -/
def offerKey (e : KeyEvent) (s : State) : State :=
  if s.rpm.keys.length < keyCapacity s.rpm then
    { s with
      rpm := judgeAttn { s.rpm with keys := s.rpm.keys ++ [⟨{ e with overrun := s.krp.overrun }, .good, .good⟩] }
      krp.overrun := false }
  else { s with krp.overrun := true, krp.keyLost := min 65535 (s.krp.keyLost + 1) }

/-- The KEY queue is emptied (R194). -/
def emptyKeyQueue (s : State) : State := { s with rpm := judgeAttn { s.rpm with keys := [] } }

/-! ## The platform as the blocks see it -/

/-- The platform state is ON. -/
def isOn (s : State) : Bool := s.psq.state == .on

end Sys2Proof.Machine
end

