-- ==== Sys2Proof/Machine/Charge.lean ====
section
/-! DEFINITION. CHC, the Charge Controller (chapter 3): bars and charge states (R41, R42), latches (R43, R52), stages and
their ends (R47 to R51), the budget (R53 to R57), what follows a change (R46, R59), and its requests (R60 to R66). -/

namespace Sys2Proof.Machine

/-! ## The budget computation -/

/-- P_in_max (R14): 0 while the active source is NONE or the switch state is SWITCHING. -/
def pInMax (x : Selector) : Nat :=
  match x.active with
  | none => 0
  | some i =>
    if x.switching then 0
    else (x.get i).voltage * (x.get i).current / 1000 * (100 - x.margin) / 100

/-- The stage in force (R38). -/
def stageInForce (c : ChargeContext) : Stage := c.stages.getD c.pointer defaultStage

/-- The end index (R40). -/
def endIndex (c : ChargeContext) : Nat := c.stages.length - 1

/-- The stage current, or the working current of a FOLLOW stage (R48, R55). -/
def stageCurrent (c : ChargeContext) : Nat :=
  match (stageInForce c).mode with
  | .follow => c.workCurrent
  | _ => (stageInForce c).current

/-- The stage voltage, or the working voltage of a FOLLOW stage (R48, R57). -/
def stageVoltage (c : ChargeContext) : Nat :=
  match (stageInForce c).mode with
  | .follow => c.workVoltage
  | _ => (stageInForce c).voltage

/-- The stage in force is CC, CV or FOLLOW. -/
def stageCharges (c : ChargeContext) : Bool := (stageInForce c).mode != .rest

/-- The pack is eligible for charge power (R55). -/
def packEligible (c : ChargeContext) : Bool :=
  c.state == .charging && stageCharges c && decide (0 < stageCurrent c)

/-- V_X (R55). -/
def vX (r : PackRecord) : Nat := clampNat 6000 17600 r.voltage

/-- need_X, rounded up (R55). -/
def needOf (iReq v : Nat) : Nat := (iReq * v + 999) / 1000

/-- I_X: the target current of an eligible pack (R57). -/
def targetOf (iReq allotted v : Nat) : Nat := min 4000 (min iReq (allotted * 1000 / v) / 25 * 25)

/-- The shares and finals of two packs (R56): `(share A, final A, share B, final B)`. -/
def splitBudget (order : ChargeOrder) (eligibleA eligibleB : Bool) (needA needB budget : Nat) :
    Nat × Nat × Nat × Nat :=
  match eligibleA, eligibleB with
  | false, false => (0, 0, 0, 0)
  | true, false => (budget, budget, 0, 0)
  | false, true => (0, 0, budget, budget)
  | true, true =>
    match order with
    | .balanced =>
      let shareA := budget / 2
      let shareB := budget - shareA
      let usedA := min needA shareA
      let usedB := min needB shareB
      (shareA, usedA + (shareB - usedB), shareB, usedB + (shareA - usedA))
    | .aFirst => let first := min needA budget; (first, first, budget - first, budget - first)
    | .bFirst => let first := min needB budget; (budget - first, budget - first, first, first)

/-- The target voltage of a pack (R57). -/
def targetVoltageOf (c : ChargeContext) : Nat := if c.state == .charging && stageCharges c then stageVoltage c else 0

/-- The per-pack outputs of the budget (R55 to R57). -/
def packBudget (c : ChargeContext) (r : PackRecord) (share allotted : Nat) : PackBudget :=
  let e := packEligible c
  let i := if e then stageCurrent c else 0
  { state := c.state, eligible := e, mode := (stageInForce c).mode, iReq := i, vX := vX r,
    need := if e then needOf i (vX r) else 0, share, allotted,
    targetCurrent := if e then targetOf i allotted (vX r) else 0, targetVoltage := targetVoltageOf c }

/-- The budget record of a state, computed whole (R53 to R57). While the active source is NONE, R53 gives V_src and I_src no
value, and both are 0 (DESIGN CHOICE, log 54). -/
def computeBudget (s : State) : BudgetRecord :=
  let x := s.srs
  let (vSrc, iSrc) :=
    match x.active with
    | none => (0, 0)
    | some i => ((x.get i).voltage, (x.get i).current)
  let ca := s.chc.context.a
  let cb := s.chc.context.b
  let ra := s.chc.handed.a
  let rb := s.chc.handed.b
  let limit := pInMax x
  let avail := limit - x.pSys
  let chg := avail * 9 / 10
  let budget := chg * s.thu.derate / 100
  let needA := if packEligible ca then needOf (stageCurrent ca) (vX ra) else 0
  let needB := if packEligible cb then needOf (stageCurrent cb) (vX rb) else 0
  let (sa, fa, sb, fb) := splitBudget s.chc.policy.order (packEligible ca) (packEligible cb) needA needB budget
  { active := x.active, switching := x.switching, vSrc, iSrc, margin := x.margin, pSys := x.pSys,
    derate := s.thu.derate, level := s.flt.level, order := s.chc.policy.order, pInMax := limit, pAvail := avail,
    pChg := chg, pBudget := budget, packs := ⟨packBudget ca ra sa fa, packBudget cb rb sb fb⟩, stamp := s.uptime }

/-- A context with the targets of the record (R57). -/
def withTargets (c : ChargeContext) (b : PackBudget) : ChargeContext :=
  { c with targetCurrent := b.targetCurrent, targetVoltage := b.targetVoltage }

/-- CHC recomputes the budget record and hands the targets to the channels (R53, R58). -/
def recompute (s : State) : State :=
  let b := computeBudget s
  { s with
    chc.budget := b
    chc.context := ⟨withTargets s.chc.context.a b.packs.a, withTargets s.chc.context.b b.packs.b⟩ }

/-! ## Bars and charge states -/

/-- The channel fault input of a pack (R58). -/
def channelFault (i : Inputs) : PackId → Bool
  | .a => i.channelFaultA
  | .b => i.channelFaultB

/-- The bars that hold for a pack (R42). -/
def barsOf (s : State) (p : PackId) : Bars :=
  let r := s.chc.handed.get p
  { noSource := s.srs.active.isNone
    switching := s.srs.switching
    derate := s.thu.derate == 0
    containment := s.flt.level != .none
    temperature := decide (r.temperature < 0) || decide (450 < r.temperature)
    terminate := r.alarm.terminateCharge
    channel := channelFault s.inputs p }

/-- The charge state of a context from its pack record, its latches and the bars (R41). -/
def chargeStateOf (r : PackRecord) (c : ChargeContext) (bars : Bars) : ChargeState :=
  if r.state == .absent then .absent
  else if r.state == .faulted && (r.causes.overCharged || r.causes.overTemp) then .faulted
  else if r.state == .identify || r.state == .faulted then .idle
  else if c.timeoutLatch then .faulted
  else if c.completeLatch then .complete
  else if c.heldLatch then .held
  else if bars.any then .paused
  else .charging

/-- A context with its state and pause causes derived again (R41). -/
def derivedContext (s : State) (p : PackId) : ChargeContext :=
  let c := s.chc.context.get p
  let bars := barsOf s p
  let st := chargeStateOf (s.chc.handed.get p) c bars
  { c with state := st, causes := if st == .paused then bars else noBars }

/-! ## Poll intervals (R26) -/

/-- The poll interval of a pack is 1 s (R26). -/
def pollFast (s : State) (p : PackId) : Bool := (s.chc.context.get p).state == .charging || isOn s

/-- A wait of more than 1 s is cut to 1 s (R26). -/
def hasten (fast : Bool) (x : PackSchedule) : PackSchedule :=
  if fast then { x with pollLeft := x.pollLeft.map (min Config.pollFastMs) } else x

/-- PKS sets the poll intervals from the charge states and the platform state: when an interval has become 1 s, a longer
wait is cut to 1 s (R26, R46). -/
def hastenPolls (s : State) : State :=
  { s with pks.schedule := ⟨hasten (pollFast s .a) s.pks.schedule.a, hasten (pollFast s .b) s.pks.schedule.b⟩ }

/-! ## What follows an input change -/

/-- The CHARGE notice of a pack whose charge state has changed (R46). -/
def chargeNotice (p : PackId) (old new : ChargeContext) : List Notice :=
  if old.state = new.state then [] else [.charge p old.state new.state new.causes]

/-- The BUDGET notice after a recompute that changed a target (R59). -/
def budgetNotice (old new : PerPack ChargeContext) : List Notice :=
  if old.a.targetCurrent = new.a.targetCurrent ∧ old.b.targetCurrent = new.b.targetCurrent ∧
      old.a.targetVoltage = new.a.targetVoltage ∧ old.b.targetVoltage = new.b.targetVoltage then []
  else [.budget new.a.targetCurrent new.b.targetCurrent new.a.targetVoltage new.b.targetVoltage]

/-- A charge state or a pause-cause set has changed. -/
def contextsChanged (old new : PerPack ChargeContext) : Bool :=
  old.a.state != new.a.state || old.b.state != new.b.state || old.a.causes != new.a.causes ||
    old.b.causes != new.b.causes

/-- An input change is taken whole (R46, R53): both charge states are derived, the record is computed once (always when
the change is one of R53's, `force`; else when a state or a pause-cause set has changed), PKS and IND are handed what is
new, and the notices follow: STAGE, CHARGE of each pack, BUDGET (log 13). -/
def chargeRefresh (force : Bool) (stageNotices : List Notice) (s : State) : State :=
  let old := s.chc.context
  let derived : PerPack ChargeContext := ⟨derivedContext s .a, derivedContext s .b⟩
  let s1 : State := { s with chc.context := derived }
  let s2 := if force || contextsChanged old derived then recompute s1 else s1
  let s3 := refreshChargeLed (hastenPolls s2)
  raiseAll (stageNotices ++ chargeNotice .a old.a derived.a ++ chargeNotice .b old.b derived.b ++
    budgetNotice old s2.chc.context) s3

/-! ## Latches and stages -/

/-- The held latch judged against the charge limit (R43). -/
def judgeHeld (limit rsoc : Nat) (c : ChargeContext) : ChargeContext :=
  if c.state == .absent then c
  else if c.heldLatch then (if rsoc + 5 ≤ limit then { c with heldLatch := false } else c)
  else (if limit ≤ rsoc then { c with heldLatch := true } else c)

/-- The count of the stage in force returned to its beginning (R47, R49). -/
def restartCount (c : ChargeContext) : ChargeContext := { c with elapsed := 0, elapsedPart := 0, taperRun := 0 }

/-- A stage newly in force: its count begins, and it has no working values yet (R47, R48, R63; log 39). -/
def freshStage (c : ChargeContext) : ChargeContext := { restartCount c with workCurrent := 0, workVoltage := 0 }

/-- The recharge judged against the threshold, with its STAGE notice (R52). -/
def judgeRecharge (p : PackId) (threshold rsoc : Nat) (c : ChargeContext) : ChargeContext × List Notice :=
  if c.completeLatch && decide (rsoc ≤ threshold) then
    ({ restartCount c with completeLatch := false, pointer := 0 }, [.stage p c.pointer (some 0) 2])
  else (c, [])

/-- A stage ends (R51): the pointer rises, or the profile is complete. `cause` is 0 END or 1 LIMIT. -/
def endStage (p : PackId) (cause : Nat) (c : ChargeContext) : ChargeContext × List Notice :=
  if c.pointer < endIndex c then
    ({ freshStage c with pointer := c.pointer + 1 }, [.stage p c.pointer (some (c.pointer + 1)) cause])
  else ({ restartCount c with completeLatch := true }, [.stage p c.pointer none cause])

/-- Step 1 of R48: the working values of a FOLLOW stage. -/
def takeWorking (r : PackRecord) (c : ChargeContext) : ChargeContext :=
  match (stageInForce c).mode with
  | .follow => { c with workCurrent := storedCurrent r.reqCurrent, workVoltage := storedVoltage r.reqVoltage }
  | _ => c

/-- Step 3 of R48 for a context that is CHARGING after step 2, and the taper run of R49. `target` is the target current
in force when the poll ended, from the recompute before this poll. -/
def judgeStageEnd (p : PackId) (target : Nat) (r : PackRecord) (c : ChargeContext) : ChargeContext × List Notice :=
  let g := stageInForce c
  match g.mode with
  | .cc => if g.endValue ≤ r.voltage then endStage p 0 c else (c, [])
  | .follow => if r.alarm.fullyCharged then endStage p 0 c else (c, [])
  | .rest => (c, [])
  | .cv =>
    if target = 0 then (c, [])
    else if r.current ≤ (g.endValue : Int) then
      if 3 ≤ c.taperRun + 1 then endStage p 0 c else ({ c with taperRun := c.taperRun + 1 }, [])
    else ({ c with taperRun := 0 }, [])

/-- CHC takes a good poll or identification of a pack whose record PKS has just handed on, in the order of R48. `target`
is the pack's target current as the poll ended (R49). -/
def chargeAtPoll (p : PackId) (target : Nat) (s : State) : State :=
  let r := s.chc.handed.get p
  let c1 := takeWorking r (s.chc.context.get p)
  let c2 := judgeHeld s.chc.policy.limit r.rsoc c1
  let (c3, n1) := judgeRecharge p s.chc.policy.recharge r.rsoc c2
  let now := chargeStateOf r c3 (barsOf s p)
  let (c4, n2) := if now == .charging then judgeStageEnd p target r c3 else (c3, [])
  chargeRefresh true (n1 ++ n2) { s with chc.context := s.chc.context.set p c4 }

/-- PKS hands a pack record on to CHC for a change of presence or state: an ABSENT record makes the context take its
ABSENT form (R44), and the states are derived and the budget recomputed (R41, R53). -/
def handToCharge (p : PackId) (s : State) : State :=
  let r := s.pks.record.get p
  let c := s.chc.context.get p
  let c1 := if r.state == .absent then { absentContext c.stages with state := c.state, targetCurrent := c.targetCurrent, targetVoltage := c.targetVoltage } else c
  chargeRefresh true [] { s with chc.handed := s.chc.handed.set p r, chc.context := s.chc.context.set p c1 }

/-- Both contexts are judged against the charge policy now in force (R43, R52, R64): the held latch, and the recharge
when the threshold may have changed. Where both profiles restart, pack A's STAGE notice comes before pack B's (DESIGN
CHOICE, log 13: R52 and R64 give the two no order). -/
def judgePolicy (recharge : Bool) (s : State) : State :=
  let one (p : PackId) : ChargeContext × List Notice :=
    let c := judgeHeld s.chc.policy.limit (s.chc.handed.get p).rsoc (s.chc.context.get p)
    if recharge then judgeRecharge p s.chc.policy.recharge (s.chc.handed.get p).rsoc c else (c, [])
  chargeRefresh true ((one .a).2 ++ (one .b).2) { s with chc.context := ⟨(one .a).1, (one .b).1⟩ }

/-- The charge-limit toggle (R65). -/
def toggleLimit (s : State) : State :=
  let policy := s.chc.policy
  judgePolicy false
    { s with chc.policy := { policy with limit := if policy.limit = 100 then policy.preset else 100 } }

/-- A REST stage's elapsed time reaches its duration and the stage ends (R50). Only a CHARGING context's time counts
(R47). -/
def restEnded (p : PackId) (s : State) : State :=
  let c := s.chc.context.get p
  if c.state == .charging && (stageInForce c).mode == .rest then
    let (c1, ns) := endStage p 0 c
    chargeRefresh true ns { s with chc.context := s.chc.context.set p c1 }
  else s

/-- The limit of the stage in force can run out: a limit above 0, in a CHARGING context whose time counts (R47), and for
a REST stage a limit short of its duration (R50). -/
def limitRuns (c : ChargeContext) : Bool :=
  let g := stageInForce c
  c.state == .charging && decide (0 < g.limit) &&
    (if g.mode == .rest then decide (g.limit < g.endValue) else decide (0 < c.targetCurrent))

/-- The limit of the stage in force runs out (R50): NEXT ends the stage; FAULT sets the timeout latch, with a
STAGE_TIMEOUT detection. -/
def limitExpired (p : PackId) (s : State) : State :=
  let c := s.chc.context.get p
  if limitRuns c then
    if (stageInForce c).faultOnLimit then
      let c1 := { c with timeoutLatch := true, elapsed := (stageInForce c).limit * 60, elapsedPart := 0 }
      detectMild .stageTimeout (byteOf p.code)
        (chargeRefresh true [] { s with chc.context := s.chc.context.set p c1 })
    else
      let (c1, ns) := endStage p 1 c
      chargeRefresh true ns { s with chc.context := s.chc.context.set p c1 }
  else s

end Sys2Proof.Machine
end

