-- ==== Sys2Proof/Machine/Fans.lean ====
section
/-! DEFINITION. FNC, the Fan Controller (chapter 4): control temperature and curve (R78, R79), duty and spin-up (R80, R81),
overrides (R83, R84), and the derate factor that THU makes from the held entry and fan health (R74, R75). -/

namespace Sys2Proof.Machine

/-! ## Curve and control temperature -/

/-- The curve between two points (R79): the quotient is rounded down. -/
def interpolate (p q : CurvePoint) (t : Int) : Nat :=
  p.duty + (q.duty - p.duty) * (t - p.temp).toNat / (q.temp - p.temp).toNat

/-- The curve from a point on, for a temperature above the point before it (R79). -/
def curveFrom (p : CurvePoint) : List CurvePoint → Int → Nat
  | [], _ => p.duty
  | q :: rest, t => if t ≤ p.temp then p.duty else if t < q.temp then interpolate p q t else curveFrom q rest t

/-- The curve function f(T) (R79). -/
def curveAt : List CurvePoint → Int → Nat
  | [], _ => 0
  | p :: rest, t => curveFrom p rest t

/-- The eight sensor indexes. -/
def sensorIndexes : List (Fin 8) := [0, 1, 2, 3, 4, 5, 6, 7]

/-- A fan's control temperature: the highest value among the sensors of its mask that take part, else -400 (R78). -/
def controlTempOf (sensors : Vector SensorRecord 8) (mask : Byte) : Int :=
  sensorIndexes.foldl
    (fun t i => if mask.getLsbD i.val && sensors[i].takesPart then max t sensors[i].value else t) (-400)

/-- The curve value after an evaluation (R79). -/
def nextCurveValue (f : FanRecord) (t : Int) : Nat :=
  let up := curveAt f.curve t
  let down := curveAt f.curve (t + f.hysteresis)
  if f.curveValue < up then up else if down < f.curveValue then down else f.curveValue

/-! ## Duty -/

/-- The base of a fan's duty (R80, R83). -/
def baseDuty (f : FanRecord) : Nat :=
  match f.mode with
  | .auto => f.curveValue
  | .boost => max f.curveValue f.overrideDuty
  | .manual => f.overrideDuty

/-- Step 2 of R80. -/
def raisedDuty (base : Nat) : Nat := if 1 ≤ base ∧ base < 200 then 200 else base

/-- A fan is forced to full duty (R80 step 3). -/
def forcedFull (s : State) (f : FanRecord) : Bool :=
  decide (s.thu.settings.criticalFan ≤ f.controlTemp) || f.failed || s.flt.level == .shed

/-- A populated fan's duty (R80). -/
def dutyOf (s : State) (f : FanRecord) : Nat :=
  if forcedFull s f then 1000
  else if !isOn s && decide (f.controlTemp < s.thu.settings.offThreshold) then 0
  else raisedDuty (baseDuty f)

/-- A new duty is applied (R81): a fan at rest begins a spin-up period, whose tachometer window is restarted. -/
def applyDuty (d : Nat) (f : FanRecord) : FanRecord :=
  if d = 0 then { f with duty := 0, applied := 0, spinLeft := 0, windowDriven := false }
  else if f.duty = 0 ∧ f.applied = 0 then
    { f with duty := d, applied := max d 500, spinLeft := Config.spinUpMs, windowSpin := true, windowDriven := true }
  else if 0 < f.spinLeft then { f with duty := d, applied := max d 500 }
  else { f with duty := d, applied := d }

/-- FNC makes a populated fan's duty and applied duty again from the curve value in force (R77). -/
def remakeFan (i : FanId) (s : State) : State :=
  let f := s.fnc.fan.get i
  if f.populated then { s with fnc.fan := s.fnc.fan.set i (applyDuty (dutyOf s f) f) } else s

/-- FNC makes the duty and applied duty of every populated fan again (R77). -/
def remakeDuties (s : State) : State := remakeFan .fan1 (remakeFan .fan0 s)

/-- One evaluation of a populated fan: control temperature, curve value, duty, applied duty (R77). -/
def evaluateFan (i : FanId) (s : State) : State :=
  let f := s.fnc.fan.get i
  if f.populated then
    let t := controlTempOf s.thu.sensors f.mask
    let f1 := { f with controlTemp := t, curveValue := nextCurveValue f t }
    remakeFan i { s with fnc.fan := s.fnc.fan.set i f1 }
  else s

/-! ## Overrides -/

/-- The FAN notice of a start or an end of BOOST (R83). -/
def boostNotice (i : FanId) (old new : OverrideMode) : List Notice :=
  if old ≠ .boost ∧ new = .boost then [.fan i 2] else if old = .boost ∧ new ≠ .boost then [.fan i 3] else []

/-- A fan record with another override; AUTO carries no duty and no time. -/
def withOverride (mode : OverrideMode) (duty : Nat) (left : Option Nat) (f : FanRecord) : FanRecord :=
  match mode with
  | .auto => { f with mode := .auto, overrideDuty := 0, overrideLeft := some 0, overridePart := 0 }
  | m => { f with mode := m, overrideDuty := duty, overrideLeft := left, overridePart := 0 }

/-- A fan's override is set, its duty made again, and the FAN notice of R83 raised. -/
def setOverride (i : FanId) (mode : OverrideMode) (duty : Nat) (left : Option Nat) (s : State) : State :=
  let f := s.fnc.fan.get i
  raiseAll (boostNotice i f.mode mode)
    (remakeFan i { s with fnc.fan := s.fnc.fan.set i (withOverride mode duty left f) })

/-- A fan's BOOST or MANUAL override returns to AUTO (R83). -/
def cancelOverride (i : FanId) (s : State) : State :=
  if (s.fnc.fan.get i).mode == .auto then s else setOverride i .auto 0 (some 0) s

/-- Some populated fan is in BOOST (R84). -/
def anyBoost (s : State) : Bool :=
  (s.fnc.fan.fan0.populated && s.fnc.fan.fan0.mode == .boost) ||
    (s.fnc.fan.fan1.populated && s.fnc.fan.fan1.mode == .boost)

/-- A fan in BOOST returns to AUTO (R84). -/
def endBoost (i : FanId) (s : State) : State :=
  if (s.fnc.fan.get i).mode == .boost then setOverride i .auto 0 (some 0) s else s

/-- A populated fan enters the action key's BOOST (R84). -/
def startBoost (i : FanId) (s : State) : State :=
  if (s.fnc.fan.get i).populated then setOverride i .boost Config.boostDuty (some Config.boostSeconds) s else s

/-- The FAN_BOOST action (R84), fan 0 first (log 45); the result is 1 when boost started and 0 when it ended (R123). -/
def toggleBoost (s : State) : State × Nat :=
  if anyBoost s then (endBoost .fan1 (endBoost .fan0 s), 0) else (startBoost .fan1 (startBoost .fan0 s), 1)

/-! ## The derate factor -/

/-- The charge-control temperature: the higher of CHARGER and SKIN (R74). -/
def chargeTemp (t : ThermalUnit) : Int := max t.sensors[1].value t.sensors[2].value

/-- The heating entry: the highest whose threshold is at or below T, else 0 (R74). -/
def heatingEntry (table : Vector DerateEntry 4) (t : Int) : Fin 4 :=
  if table[3].threshold ≤ t then 3 else if table[2].threshold ≤ t then 2 else if table[1].threshold ≤ t then 1 else 0

/-- The cooling entry: the highest whose threshold less 20 is below T, else 0 (R74). -/
def coolingEntry (table : Vector DerateEntry 4) (t : Int) : Fin 4 :=
  if table[3].threshold - 20 < t then 3 else if table[2].threshold - 20 < t then 2
  else if table[1].threshold - 20 < t then 1 else 0

/-- The held entry after THU has judged the table (R74). -/
def nextHeldEntry (u : ThermalUnit) : Fin 4 :=
  let t := chargeTemp u
  let heat := heatingEntry u.table t
  let cool := coolingEntry u.table t
  if u.heldEntry < heat then heat else if cool < u.heldEntry then cool else u.heldEntry

/-- Some populated fan is FAILED (R75, R82). -/
def anyFanFailed (c : FanController) : Bool :=
  (c.fan.fan0.populated && c.fan.fan0.failed) || (c.fan.fan1.populated && c.fan.fan1.failed)

/-- The derate factor D of a state: the held entry's factor, capped at 50 by a FAILED fan (R75). -/
def derateOf (s : State) : Nat :=
  let factor := s.thu.table[s.thu.heldEntry].factor
  if anyFanFailed s.fnc then min 50 factor else factor

/-- THU applies the derate factor: a change is handed to CHC, and a THERMAL notice follows (R75). -/
def applyDerate (s : State) : State :=
  if derateOf s = s.thu.derate then s
  else
    raise (.derate s.thu.derate (derateOf s) s.thu.heldEntry (chargeTemp s.thu))
      (chargeRefresh true [] { s with thu.derate := derateOf s })

end Sys2Proof.Machine
end

