-- ==== Sys2Proof/Machine/Keyboard.lean ====
section
/-! DEFINITION. KBS and KRP (chapters 5 and 6): the reported-down set (R98), the Fn layer (R114), key events and their
snapshot (R116 to R118), typematic repeat (R120, R121), actions (R123, R124), the backlight (R126), the evaluation of a
scan pass (R94 to R100, R104), scan modes (R92) and suppression (R101 to R103). -/

namespace Sys2Proof.Machine

/-! ## The matrix and the reported-down set -/

/-- The 144 positions in ascending order. -/
def allPositions : List Position := List.finRange 144

/-- The position is on the board and scanned (R91). -/
def scanned (s : State) (p : Position) : Bool := s.straps.columns18 || decide (p.val < 128)

/-- The samples with the positions that are not scanned read as open (R91). -/
def scannedSamples (s : State) (raw : Samples) : Samples :=
  if s.straps.columns18 then raw else raw &&& BitVec.ofNat 144 (2 ^ 128 - 1)

/-- A reported code (R111). -/
def isReported (c : Byte) : Bool := decide (0x01 ≤ c.toNat) && decide (c.toNat ≤ 0xDF)

/-- An action code (R111). -/
def isAction (c : Byte) : Bool := decide (0xE0 ≤ c.toNat) && decide (c.toNat ≤ 0xE3)

/-- The key is in DOWN or RELEASE_WAIT. -/
def keyHeld (k : KeyEntry) : Bool := k.state == .down || k.state == .releaseWait

/-- The position is in the reported-down set (R98). -/
def reportedDown (x : Scanner) (p : Position) : Bool := keyHeld x.keys[p] && isReported x.keys[p].code

/-- The reported-down set in ascending order (R98). -/
def reportedSet (x : Scanner) : List Position := allPositions.filter (reportedDown x)

/-- The scanner with one key-table entry replaced. -/
def setKey (p : Position) (k : KeyEntry) (s : State) : State := { s with kbs.keys := s.kbs.keys.set p k }

/-! ## Key events -/

/-- The modifier places: the first eight existing positions whose entry carries MODIFIER (R118). -/
def modifierPlaces (s : State) : List Position :=
  (allPositions.filter fun p => scanned s p && (s.kbs.map[p]).modifier).take 8

/-- The modifier snapshot (R118). -/
def modifierSnapshot (s : State) : Byte := flagByte ((modifierPlaces s).map (reportedDown s.kbs))

/-- KRP builds a key event, with the snapshot of this moment, and offers it (R117, R119). -/
def queueEvent (kind : KeyKind) (code : Byte) (fn synthetic : Bool) (p : Position) (stamp : Stamp) (s : State) : State :=
  offerKey
    { code, kind, fn, synthetic, overrun := false, position := p, modifiers := modifierSnapshot s, stamp } s

/-! ## Typematic repeat -/

/-- The typematic context returns to IDLE (R120). -/
def typeIdle (s : State) : State := { s with krp.phase := .idle, krp.left := 0 }

/-- A release of the followed position stops typematic repeat (R120). -/
def typeRelease (p : Position) (s : State) : State :=
  if s.krp.phase ≠ .idle ∧ s.krp.position = p then typeIdle s else s

/-- A press of a reported code starts typematic repeat when the position carries REPEAT, and stops it otherwise (R120). -/
def typePress (p : Position) (code : Byte) (layer : Bool) (s : State) : State :=
  if (s.kbs.map[p]).repeats then
    { s with krp := { s.krp with phase := .delay, position := p, code, layer, left := s.kbs.settings.typeDelay } }
  else typeIdle s

/-- The typematic time left reaches 0 (R121). -/
def typeExpired (s : State) : State :=
  if s.krp.phase = .idle then s
  else
    let s1 := queueEvent .again s.krp.code s.krp.layer false s.krp.position s.uptime s
    { s1 with krp.phase := .repeating, krp.left := s.kbs.settings.typePeriod }

/-! ## Actions and the backlight -/

/-- The output duty of a backlight level, % (R126). -/
def backlightDuty (level : Nat) : Nat :=
  match level with
  | 0 => 0
  | 1 => 35
  | 2 => 65
  | _ => 100

/-- The keyboard is suppressed: the cause set is not empty (R101). -/
def suppressed (x : Suppression) : Bool := x.closed || x.tablet || x.notOn

/-- KRP sets the backlight output (R126). -/
def setBacklightOutput (s : State) : State :=
  { s with krp.output := if suppressed s.kbs.suppression then 0 else backlightDuty s.krp.backlight }

/-- The backlight level is set, and the output from it (R125, R126). -/
def setBacklight (level : Nat) (s : State) : State := setBacklightOutput { s with krp.backlight := level }

/-- An action runs (R124), and the HOTKEY notice follows with its result (R123). -/
def runAction (code : Byte) (p : Position) (layer : Bool) (s : State) : State :=
  match code.toNat with
  | 0xE0 =>
    let level := if 3 ≤ s.krp.backlight then 0 else s.krp.backlight + 1
    raise (.hotkey 0 p layer level) (setBacklight level s)
  | 0xE1 =>
    let (s1, result) := toggleBoost s
    raise (.hotkey 1 p layer result) s1
  | 0xE2 =>
    let s1 := toggleLimit s
    raise (.hotkey 2 p layer s1.chc.policy.limit) s1
  | 0xE3 => raise (.hotkey 3 p layer 0) s
  | _ => s

/-- KBS hands KRP a press (R116). -/
def handPress (p : Position) (code : Byte) (layer : Bool) (stamp : Stamp) (s : State) : State :=
  if isReported code then typePress p code layer (queueEvent .press code layer false p stamp s)
  else if isAction code then runAction code p layer s
  else s

/-- KBS hands KRP a release, synthetic or not (R116, R122). -/
def handRelease (synthetic : Bool) (p : Position) (code : Byte) (layer : Bool) (s : State) : State :=
  if isReported code then typeRelease p (queueEvent .release code layer synthetic p s.uptime s) else s

/-- KBS hands KRP a rollover (R97, R116). -/
def handRollover (p : Position) (s : State) : State := queueEvent .rollover 0 false false p s.uptime s

/-! ## Press and release completion -/

/-- The Fn layer is in force (R114). -/
def fnInForce (x : Scanner) : Bool :=
  match x.settings.fn with
  | none => false
  | some p => keyHeld x.keys[p]

/-- The code the Fn layer answers for a press, with the layer flag (R114). -/
def chosenCode (x : Scanner) (p : Position) : Byte × Bool :=
  let e := x.map[p]
  if x.settings.fn = some p then (0, false)
  else if fnInForce x && (isReported e.fn || isAction e.fn) then (e.fn, true)
  else (e.base, false)

/-- The column of a position. -/
def column (p : Position) : Nat := p.val / 8

/-- The row of a position. -/
def row (p : Position) : Nat := p.val % 8

/-- The last sample at a column and a row is closed. -/
def closedAt (last : Samples) (c r : Nat) : Bool := last.getLsbD (c * 8 + r)

/-- The ghost test on the last samples: a rectangle with three closed corners (R96). Columns that are not scanned hold
open samples. -/
def ghosted (last : Samples) (p : Position) : Bool :=
  (List.range 8).any fun r' =>
    r' != row p && closedAt last (column p) r' &&
      (List.range 18).any fun c' => c' != column p && closedAt last c' (row p) && closedAt last c' r'

/-- The position is ghost-blocked: ISOLATED positions are not tested (R96). -/
def ghostBlocked (x : Scanner) (p : Position) : Bool := !(x.map[p]).isolated && ghosted x.last p

/-- A key entry of a silent state, with nothing stored. -/
def silentKey (state : KeyState) : KeyEntry := { state, counter := 0, code := 0, layer := false, press := 0 }

/-- A press completed in ACTIVE mode (R95, R97). -/
def completePress (p : Position) (s : State) : State :=
  if ghostBlocked s.kbs p then setKey p (silentKey .blocked) s
  else
    let (code, layer) := chosenCode s.kbs p
    if isReported code && decide (s.kbs.settings.rollover ≤ (reportedSet s.kbs).length) then
      handRollover p (setKey p (silentKey .blocked) s)
    else
      let known := isReported code || isAction code
      let stored := if known then code else 0
      let k := { state := .down, counter := 0, code := stored, layer := layer && known, press := s.uptime }
      handPress p stored (layer && known) s.uptime (setKey p k s)

/-- A press completed in WAKE mode: it enters LATENT; whether it hands a keyboard wake (R104). -/
def wakePress (x : Scanner) (p : Position) : Bool := (x.map[p]).wake && !ghostBlocked x p

/-- The evaluation of one position of a pass, by the rule of its state; the number counts the keyboard wakes handed
(R94, R99, R100, R104). -/
def evaluatePosition (mode : ScanMode) (acc : State × Nat) (p : Position) : State × Nat :=
  let (s, wakes) := acc
  let k := s.kbs.keys[p]
  let closed := s.kbs.last.getLsbD p.val
  match k.state with
  | .up | .pressWait =>
    if closed then
      let n := if k.state == .up then 1 else k.counter + 1
      if s.kbs.settings.pressDebounce ≤ n then
        if mode == .active then (completePress p s, wakes)
        else (setKey p (silentKey .latent) s, if wakePress s.kbs p then wakes + 1 else wakes)
      else (setKey p { k with state := .pressWait, counter := n } s, wakes)
    else (setKey p { k with state := .up, counter := 0 } s, wakes)
  | .down | .releaseWait =>
    if closed then (setKey p { k with state := .down, counter := 0 } s, wakes)
    else
      let n := if k.state == .down then 1 else k.counter + 1
      if s.kbs.settings.releaseDebounce ≤ n then
        (handRelease false p k.code k.layer (setKey p upKey s), wakes)
      else (setKey p { k with state := .releaseWait, counter := n } s, wakes)
  | .blocked | .latent =>
    if closed then (setKey p { k with counter := 0 } s, wakes)
    else if s.kbs.settings.releaseDebounce ≤ k.counter + 1 then (setKey p upKey s, wakes)
    else (setKey p { k with counter := k.counter + 1 } s, wakes)

/-- A position at the first pass after a start: one in UP that is found closed has been held through the start, and is
LATENT (R109). -/
def heldAtStart (closed : Bool) (k : KeyEntry) : KeyEntry :=
  if closed && k.state == .up then silentKey .latent else k

/-- The first pass evaluated since the platform started makes each position held through the start LATENT, so that it is
released silently (R109). What is closed at that pass counts as held: nothing was sampled before it (DESIGN CHOICE, log
49). -/
def takeHeldKeys (s : State) : State :=
  { s with
    kbs.freshStart := false
    kbs.keys :=
      if s.kbs.freshStart && s.kbs.mode == .active then
        Vector.ofFn fun p => heldAtStart (s.kbs.last.getLsbD p.val) s.kbs.keys[p]
      else s.kbs.keys }

/-- KBS evaluates a pass that has ended: the samples are stored, then the scanned positions are taken in ascending order
(R91), those held through a start having become LATENT (R109). -/
def evaluatePass (raw : Samples) (s : State) : State × Nat :=
  let s1 := takeHeldKeys { s with kbs.last := scannedSamples s raw, kbs.passRunning := false }
  (allPositions.filter (scanned s)).foldl (evaluatePosition s.kbs.mode) (s1, 0)

/-! ## Scan modes and suppression -/

/-- The scan mode of a platform state and a suppression state (R92). -/
def scanModeOf (platform : PlatformState) (x : Suppression) : ScanMode :=
  match platform with
  | .on => if suppressed x then .stopped else .active
  | .standby => .wake
  | _ => .stopped

/-- The pass period of the mode (R92). -/
def passPeriod (x : Scanner) : Nat := if x.mode == .wake then Config.wakeScanMs else x.settings.scanPeriod

/-- What a position becomes when the mode becomes STOPPED (R92). -/
def stopKey (k : KeyEntry) : KeyEntry :=
  match k.state with
  | .pressWait => { k with state := .up, counter := 0 }
  | .blocked | .latent => { k with counter := 0 }
  | _ => k

/-- KBS takes a scan mode: a pass in progress is abandoned, and in ACTIVE and WAKE the first pass begins at once (R92). -/
def setScanMode (m : ScanMode) (s : State) : State :=
  if s.kbs.mode = m then s
  else
    { s with
      kbs.mode := m
      kbs.passRunning := m != .stopped
      kbs.sinceStart := 0
      kbs.keys := if m = .stopped then s.kbs.keys.map stopKey else s.kbs.keys }

/-- Step 3 of R102 at one position. -/
def suppressKey (k : KeyEntry) : KeyEntry :=
  match k.state with
  | .up | .pressWait => silentKey .up
  | .down | .releaseWait | .blocked | .latent => silentKey .latent

/-- One synthetic release: the position leaves the set, then KRP builds its RELEASE (R102, R122). -/
def syntheticRelease (s : State) (p : Position) : State :=
  let k := s.kbs.keys[p]
  handRelease true p k.code k.layer (setKey p (silentKey .latent) s)

/-- Suppression begins (R102, R122), with the cause set already brought up to date. -/
def beginSuppression (m : ScanMode) (s : State) : State :=
  let s1 := setScanMode m s
  let s2 := (reportedSet s1.kbs).foldl syntheticRelease s1
  let s3 := { s2 with kbs.keys := s2.kbs.keys.map suppressKey }
  setBacklightOutput (typeIdle s3)

/-- Suppression ends (R103, R122): the mode becomes ACTIVE and KRP sets the backlight output. The table stands as it is:
a position in UP is evaluated as R94 gives, but for one held through a start, which the first pass finds (R109). -/
def endSuppression (m : ScanMode) (s : State) : State := setBacklightOutput (setScanMode m s)

/-- KBS brings the suppression causes up to date from the posture and the platform state, and derives the mode (R92,
R101). In STARTING a start is under way whose held keys are still to be found (R109). -/
def updateKeyboard (s : State) : State :=
  let causes : Suppression := ⟨s.lwu.posture == .closed, s.lwu.posture == .tablet, !isOn s⟩
  let m := scanModeOf s.psq.state causes
  let s1 :=
    { s with kbs.suppression := causes, kbs.freshStart := s.kbs.freshStart || s.psq.state == .starting }
  if !suppressed s.kbs.suppression && suppressed causes then beginSuppression m s1
  else if suppressed s.kbs.suppression && !suppressed causes then endSuppression m s1
  else setScanMode m s1

end Sys2Proof.Machine
end

