-- ==== Sys2Proof/Machine/Thermal.lean ====
section
/-! DEFINITION. THU's sensor records (chapter 4): board readings (R69), supplies and staleness (R70, R71), pack sensors
(R72), and the end of the thermal trip (R73). What may force the platform off stands in Platform.lean. -/

namespace Sys2Proof.Machine

/-- THU with one sensor record replaced. -/
def setSensor (i : Fin 8) (r : SensorRecord) (s : State) : State := { s with thu.sensors := s.thu.sensors.set i r }

/-! ## Board sensors -/

/-- A board reading is good (R69). -/
def goodReading (t : Int) : Bool := decide (-300 ≤ t) && decide (t ≤ 1300)

/-- A board sensor after a reading (R69). -/
def boardRecord (t : Int) (r : SensorRecord) : SensorRecord :=
  if goodReading t then { r with value := t, valid := true, stale := false, substitute := false, takesPart := true }
  else
    { r with
      value := Config.boardSubstitute, valid := false, stale := false, substitute := true, takesPart := true }

/-- One board sensor is converted; the first failed reading is a detection of SENSOR_FAULT (R69). -/
def convertSensor (i : Fin 8) (t : Int) (s : State) : State :=
  let before := s.thu.sensors[i]
  let s1 := setSensor i (boardRecord t before) s
  if !goodReading t && !before.substitute then detectMild .sensorFault (byteOf i.val) s1 else s1

/-- Some board sensor is on its substitute (R69). -/
def boardFailed (u : ThermalUnit) : Bool :=
  u.sensors[0].substitute || u.sensors[1].substitute || u.sensors[2].substitute || u.sensors[3].substitute

/-- The four board sensors are converted, in ascending index (DESIGN CHOICE, log 45), and the end of SENSOR_FAULT is
reported (R69). -/
def convertBoard (cpu charger skin ambient : Int) (s : State) : State :=
  let s1 := convertSensor 3 ambient (convertSensor 2 skin (convertSensor 1 charger (convertSensor 0 cpu s)))
  if boardFailed s1.thu then s1 else endFault .sensorFault s1

/-! ## The trip condition -/

/-- The sensors that can trip: board and supplied (R73). -/
def tripIndexes : List (Fin 8) := [0, 1, 2, 3, 4, 5]

/-- A board sensor, or a supplied sensor that takes part, is at or above the trip temperature (R73). -/
def atTrip (u : ThermalUnit) (i : Fin 8) : Bool :=
  (decide (i.val < 4) || u.sensors[i].takesPart) && decide (u.settings.trip ≤ u.sensors[i].value)

/-- The trip condition holds (R73). -/
def tripHolds (u : ThermalUnit) : Bool := tripIndexes.any (atTrip u)

/-- The hottest sensor at or above the trip, the lowest index among equals (R73). -/
def hottest (u : ThermalUnit) : Fin 8 :=
  (tripIndexes.filter (atTrip u)).foldl
    (fun best i => if !atTrip u best || decide (u.sensors[best].value < u.sensors[i].value) then i else best) 0

/-- The end of the trip condition is judged (R73). -/
def judgeTripEnd (s : State) : State :=
  if s.thu.trip && !tripHolds s.thu then endFault .thermalTrip { s with thu.trip := false } else s

/-- At least one board sensor is at or above the wake temperature (R73). -/
def wakeHolds (u : ThermalUnit) : Bool :=
  decide (u.settings.wake ≤ u.sensors[0].value) || decide (u.settings.wake ≤ u.sensors[1].value) ||
    decide (u.settings.wake ≤ u.sensors[2].value) || decide (u.settings.wake ≤ u.sensors[3].value)

/-! ## Supplied sensors -/

/-- SUPPLY_STALE is no longer active when no supplied sensor is stale and takes part (R70). -/
def judgeSupplyStale (s : State) : State :=
  let u := s.thu
  if (u.sensors[4].stale && u.sensors[4].takesPart) || (u.sensors[5].stale && u.sensors[5].takesPart) then s
  else endFault .supplyStale s

/-- A TEMP_SUPPLY carries a value for a supplied sensor (R70, R72). -/
def applySupply (i : Fin 8) (v : Int) (s : State) : State :=
  judgeSupplyStale
    (setSensor i
      { value := v, valid := true, stale := false, substitute := false, takesPart := isOn s, age := 0, supplied := v } s)

/-- A supplied sensor's age has reached the freshness time: it becomes stale, and takes part with its substitute in ON
(R70, R72). -/
def goStale (i : Fin 8) (s : State) : State :=
  let t := s.thu.settings.staleSubstitute
  let s1 :=
    setSensor i
      { s.thu.sensors[i] with
        value := t, stale := true, substitute := true, takesPart := isOn s, age := s.thu.settings.freshness * 1000 } s
  judgeSupplyStale (detectMild .supplyStale (byteOf i.val) (raise (.supplyStale i t) s1))

/-- A supplied sensor as the platform leaves ON (R71). -/
def leaveOnSensor (r : SensorRecord) : SensorRecord := { r with takesPart := false }

/-- A supplied sensor as the platform becomes ON (R71). -/
def enterOnSensor (r : SensorRecord) : SensorRecord :=
  if r.valid then { r with value := r.supplied, stale := false, substitute := false, takesPart := true, age := 0 }
  else emptySensor

/-- The platform leaves ON: the supplied sensors stop taking part (R71), and an end of the trip is judged (R73). -/
def thermalLeaveOn (s : State) : State :=
  judgeTripEnd
    (endFault .supplyStale
      (setSensor 5 (leaveOnSensor s.thu.sensors[5]) (setSensor 4 (leaveOnSensor s.thu.sensors[4]) s)))

/-- The platform becomes ON: the supplied sensors start again (R71). -/
def thermalEnterOn (s : State) : State :=
  setSensor 5 (enterOnSensor s.thu.sensors[5]) (setSensor 4 (enterOnSensor s.thu.sensors[4]) s)

/-! ## Pack sensors -/

/-- The sensor that a pack record gives (R72). -/
def packSensor (r : PackRecord) : SensorRecord :=
  if r.present && r.identified then
    { emptySensor with value := r.temperature, valid := true, stale := r.stale, takesPart := true }
  else emptySensor

/-- PKS hands a pack record on to THU (R72). -/
def handToThermal (p : PackId) (s : State) : State := setSensor p.sensor (packSensor (s.pks.record.get p)) s

end Sys2Proof.Machine
end

