-- ==== Sys2Proof/Machine/Platform.lean ====
section
/-! DEFINITION. LWU's wake sources (R133 to R139) and PSQ (chapter 8): changes of state and what they hand on (R147),
starts and resumes (R148 to R153), forced stops (R155), the critical-energy grace (R159, R160); then what can force the
platform off: a SEVERE detection with its containment (R164, R166, R167) and the thermal trip (R73). -/

namespace Sys2Proof.Machine

/-! ## Wake sources -/

/-- An external input is at its active level (R135). -/
def extActive (x : ExtSettings) (high : Bool) : Bool := high != x.invert

/-- A source is held by its condition (R136). -/
def sourceHeld (s : State) : WakeSource → Bool
  | .ext0 => s.lwu.ext0.level && extActive s.lwu.ext0 s.inputs.ext0
  | .ext1 => s.lwu.ext1.level && extActive s.lwu.ext1 s.inputs.ext1
  | .thermal => s.thu.wakeCondition
  | .lowEnergy => s.psq.grace.isSome
  | _ => false

/-- A setting event's effect on the table: status and pending are set (R134). -/
def markSource (i : WakeSource) (s : State) : State :=
  { s with lwu := s.lwu.set i { s.lwu.get i with status := true, pending := true } }

/-- A held source is set again at once after a clear (R136). -/
def resetHeld (s : State) (i : WakeSource) : State := if sourceHeld s i then markSource i s else s

/-- Every pending field is cleared, and the held sources are set again (R137, R136). -/
def clearPending (s : State) : State :=
  allWakeSources.foldl resetHeld
    { s with lwu.table := s.lwu.table.map fun e => { e with pending := false } }

/-- The enable that counts in a platform state (R138). -/
def enabledIn (p : PlatformState) (e : WakeEntry) : Bool :=
  match p with
  | .suspending | .standby => e.standbyEnable
  | .off => e.offEnable
  | _ => false

/-- A source is pending and its enable for the present platform state is on (R138). -/
def sourceDue (s : State) (i : WakeSource) : Bool :=
  (s.lwu.get i).pending && enabledIn s.psq.state (s.lwu.get i)

/-- A wake is due (R138): by the definition of R138, also for a source that a controller restart left pending and whose
default enable is on, for which nothing is offered until one of R138's events (DESIGN CHOICE, log 63: R144 has a wake become
due only at those events). -/
def wakeDue (s : State) : Bool := allWakeSources.any (sourceDue s)

/-- The set of due sources, as a mask (R139). -/
def dueMask (s : State) : WakeMask := BitVec.ofNat 11 (flagNat (allWakeSources.map (sourceDue s)))

/-- LWU records the wake cause and the wake stamp (R139). -/
def recordWake (s : State) : State := { s with lwu.cause := dueMask s, lwu.causeStamp := s.uptime }

/-! ## Containment level -/

/-- The containment level changes and is handed to CHC, to FNC and to the THROTTLE rule (R167). -/
def setLevel (l : ContainmentLevel) (s : State) : State :=
  if s.flt.level = l then s else judgeThrottle (remakeDuties (chargeRefresh true [] { s with flt.level := l }))

/-- The release at an entry to STARTING (R167). -/
def releaseAtStart (s : State) : State := if severeActive s.flt then s else setLevel .none s

/-! ## Changes of the platform state -/

/-- OFF, ON and STANDBY: the states in which an arrival raises a notice (R147). -/
def restState : PlatformState → Bool
  | .off | .on | .standby => true
  | _ => false

/-- The link returns to SETUP (R185). -/
def linkToSetup (s : State) : State := { s with lkp.run := false }

/-- FNC takes a change of the platform state: overrides end on leaving ON (R83), fan 0 first (DESIGN
CHOICE, log 45), and duties are made again (R77). -/
def fansTakeState (leaving : Bool) (s : State) : State :=
  remakeDuties (if leaving then cancelOverride .fan1 (cancelOverride .fan0 s) else s)

/-- The platform state changes, and PSQ hands it to its neighbours in the order of R147. -/
def changeState (new : PlatformState) (s : State) : State :=
  let old := s.psq.state
  let s1 := { s with psq.state := new, psq.lastRest := if restState old then old else s.psq.lastRest }
  let s2 := if new = .suspending ∨ new = .stopping then clearPending s1 else s1
  let s3 := fansTakeState (old = .on ∧ new ≠ .on) (updateKeyboard s2)
  let s4 :=
    if old = .on ∧ new ≠ .on then thermalLeaveOn s3 else if old ≠ .on ∧ new = .on then thermalEnterOn s3 else s3
  let s5 := refreshPowerLed (hastenPolls s4)
  if new = .starting ∨ new = .off then linkToSetup s5 else s5

/-! ## The critical-energy grace -/

/-- The grace starts: notice, LOW_ENERGY set, and IND told (R160). The offer that may follow is the caller's. -/
def beginGrace (s : State) : State :=
  let s1 := { s with psq.grace := some (s.psq.settings.grace * 1000) }
  refreshChargeLed (markSource .lowEnergy (raise (.critical 0 false s.pks.rsoc s.psq.settings.grace) s1))

/-- The grace ends: notice with the event, and IND told (R160). -/
def endGrace (event : Nat) (off : Bool) (s : State) : State :=
  match s.psq.grace with
  | none => s
  | some left => refreshChargeLed (raise (.critical event off s.pks.rsoc (secondsUp left)) { s with psq.grace := none })

/-! ## Starting and resuming -/

/-- MPG is high: the step is RESET_HOLD (R149, R153). -/
def mpgArrived (s : State) : State := { s with psq.step := .resetHold, psq.stepLeft := Config.resetHoldMs }

/-- MRE is asserted and the step is MPG_WAIT (R149, R153). -/
def enterMpgWait (s : State) : State :=
  let s1 := { s with psq.mre := true, psq.step := .mpgWait, psq.stepLeft := Config.mpgWaitMs }
  if s.inputs.mpg then mpgArrived s1 else s1

/-- A pack is present and identified. -/
def packKnown (s : State) (p : PackId) : Bool := (s.pks.record.get p).present && (s.pks.record.get p).identified

/-- Critical energy holds (R159). -/
def criticalHolds (s : State) : Bool :=
  s.srs.active.isNone && (packKnown s .a || packKnown s .b) && decide (s.pks.rsoc ≤ s.psq.settings.critical) &&
    s.psq.restartHold.isNone

/-- PSQ takes a wake in OFF: STARTING at SPG_WAIT (R147 to R149, R139, R160). The containment is released before a grace
starts, where R147 and R160 give no order (DESIGN CHOICE, log 57). -/
def takeStart (s : State) : State :=
  let s1 := { recordWake s with psq.step := .spgWait, psq.stepLeft := Config.spgWaitMs, psq.sre := true }
  let s2 := releaseAtStart (clearPending (changeState .starting s1))
  let s3 := if criticalHolds s2 && s2.psq.grace.isNone then beginGrace s2 else s2
  if s3.inputs.spg then enterMpgWait s3 else s3

/-- PSQ takes a wake in STANDBY: RESUMING at MPG_WAIT (R153, R139). -/
def takeResume (s : State) : State := enterMpgWait (clearPending (changeState .resuming (recordWake s)))

/-- The two start conditions (R148). -/
def startAllowed (s : State) : Bool :=
  (s.srs.active.isSome || decide (s.psq.settings.start ≤ s.pks.rsoc)) && !severeActive s.flt

/-- PSQ refuses a start, and IND blinks from a fresh lit phase (R148, R171). -/
def refuseStart (s : State) : State := { s with ind.blink := 3, ind.charge := freshShow s.ind.charge amberFast }

/-- LWU offers a due wake to PSQ, which takes or refuses it (R138, R148, R153). -/
def offerWake (s : State) : State :=
  if !wakeDue s then s
  else
    match s.psq.state with
    | .standby => takeResume s
    | .off => if startAllowed s then takeStart s else refuseStart s
    | _ => s

/-- A setting event arrives: the source is set, and offered when its enable for the present state is on (R134, R138). -/
def settingEvent (i : WakeSource) (s : State) : State :=
  let s1 := markSource i s
  if sourceDue s1 i then offerWake s1 else s1

/-! ## Critical energy -/

/-- The grace starts, and LOW_ENERGY is offered where its enable allows (R160, R136). -/
def startGrace (s : State) : State :=
  let s1 := beginGrace s
  if sourceDue s1 .lowEnergy then offerWake s1 else s1

/-- PSQ judges critical energy (R159, R160). While the restart hold is in force it does not (log 24). -/
def judgeCritical (s : State) : State :=
  if s.psq.restartHold.isSome then s
  else if criticalHolds s then
    let s1 := { s with psq.critical := true }
    if !s.psq.critical && s.psq.state != .off && s.psq.grace.isNone then startGrace s1 else s1
  else endGrace 1 false { s with psq.critical := false }

/-! ## Arrivals and stops -/

/-- The drop of MRE: PRST is asserted first (R146). MPG falls with it (R156, log 18). -/
def dropMain (s : State) : State := { s with psq.prst := true, psq.mre := false, inputs.mpg := false }

/-- The drop of both groups: MRE, then SRE (R146). SPG falls with it (log 18). -/
def dropAll (s : State) : State := { dropMain s with psq.sre := false, inputs.spg := false }

/-- The arrival in OFF (R147, R154, R160). The offer that may follow is made at the end of the command (log 15). -/
def arriveOff (s : State) : State :=
  let s1 := changeState .off { s with psq.step := .none, psq.stepLeft := 0, psq.stopKind := .none }
  endGrace 1 true (raise (.platform .off s1.psq.lastRest s1.psq.lastStop) (emptyKeyQueue s1))

/-- A forced stop (R155): STOPPING with stop kind FORCED, and the drop step at once. -/
def forcedStop (cause : StopCause) (s : State) : State :=
  if s.psq.state = .off then s
  else
    let s1 := { s with psq.lastStop := cause, psq.stopKind := .forced, psq.step := .none, psq.stepLeft := 0 }
    arriveOff (dropAll (if s.psq.state = .stopping then s1 else changeState .stopping s1))

/-- The arrival in STANDBY, with the offer of a due wake (R152, R138). -/
def arriveStandby (s : State) : State :=
  let s1 := changeState .standby { dropMain s with psq.step := .none, psq.stepLeft := 0 }
  offerWake (raise (.platform .standby s1.psq.lastRest .none) s1)

/-! ## SEVERE detections -/

/-- The containment action of a SEVERE detection: the stronger of the fixed action and the mode (R166). -/
def actionOf (mode : ContainmentMode) (k : FaultKind) : ContainmentMode :=
  if mode.code ≤ k.fixedAction.code then k.fixedAction else mode

/-- The level is raised to STOP_CHARGE when it is NONE (R166). -/
def raiseLevel (s : State) : State := if s.flt.level = .none then setLevel .stopCharge s else s

/-- FLT takes a containment action (R166; for FORCE_OFF the stop comes first, log 28). -/
def contain (k : FaultKind) (s : State) : State :=
  match actionOf s.flt.mode k with
  | .notify => s
  | .stopCharge => raiseLevel s
  | .shed => setLevel .shed s
  | .forceOff => raiseLevel (forcedStop .containment s)

/-- A detection of any kind (R164): a SEVERE one takes its containment action. -/
def detect (k : FaultKind) (detail : Byte) (s : State) : State :=
  if k.severe then detectWith (contain k) raise k detail s else detectMild k detail s

/-! ## The thermal trip and the thermal wake condition -/

/-- THU judges the trip condition (R73). -/
def judgeTrip (s : State) : State :=
  if !s.thu.trip && tripHolds s.thu then
    let i := hottest s.thu
    raise (.trip i s.thu.sensors[i].value) (detect .thermalTrip (byteOf i.val) { s with thu.trip := true })
  else judgeTripEnd s

/-- THU judges the thermal wake condition, and LWU takes its beginning (R73, R134). -/
def judgeWakeCondition (s : State) : State :=
  if wakeHolds s.thu = s.thu.wakeCondition then s
  else
    let s1 := { s with thu.wakeCondition := wakeHolds s.thu }
    if s1.thu.wakeCondition then settingEvent .thermal s1 else s1

/-- The arrival in ON: notices, then the trip, which supplied sensors may begin (R147, R150, R71, R73; log 16). -/
def arriveOn (s : State) : State :=
  let s1 := changeState .on { s with psq.prst := false, psq.step := .none, psq.stepLeft := 0 }
  judgeTrip (raise (.wake s1.lwu.cause s1.lwu.causeStamp) (raise (.platform .on s1.psq.lastRest .none) s1))

/-- A RAIL_FAIL: the forced stop, then the detection (R149, R153, R156). -/
def railFail (detail : Byte) (s : State) : State := detect .railFail detail (forcedStop .rail s)

/-- What an event that took the platform to OFF leaves for its end: the offer of a due wake (R138, R154; log 15). -/
def offerAtOff (before after : State) : State :=
  if before.psq.state ≠ .off ∧ after.psq.state = .off then offerWake after else after

end Sys2Proof.Machine
end

