-- ==== Sys2Proof/Machine/Link.lean ====
section
/-! DEFINITION. LKP, the Link Port (chapter 10): link errors (R178), frames and faults (R179, R180), the disposal of a
completed frame and the reply queue (R181), reply types and statuses (R182), and the link reset (R184). Requests arrive
as whole frames (log 5). -/

namespace Sys2Proof.Machine

/-! ## Statuses and types -/

/-- The status codes (R182). -/
def stOk : Byte := 0
/-- R182. -/
def stAdjusted : Byte := 1
/-- R182. -/
def stBusy : Byte := 2
/-- R182. -/
def stUnknownType : Byte := 3
/-- R182. -/
def stBadLength : Byte := 4
/-- R182. -/
def stBadValue : Byte := 5
/-- R182. -/
def stWrongState : Byte := 6
/-- R182. -/
def stNotPresent : Byte := 7
/-- R182. -/
def stBusFailed : Byte := 8
/-- R182. -/
def stFull : Byte := 9

/-- The status of a request that was done (R182). -/
def doneStatus (adjusted : Bool) : Byte := if adjusted then stAdjusted else stOk

/-- A reply's type: the request type with its highest bit set (R182). -/
def replyType (t : Byte) : Byte := t ||| 0x80

/-! ## Link errors -/

/-- One link error: the counter rises unless it holds at 65535, and at each multiple of 64 LINK_ERRORS is detected
(R178). -/
def countError (detail : Byte) (s : State) : State :=
  if 65535 ≤ s.lkp.errors then s
  else
    let s1 := { s with lkp.errors := s.lkp.errors + 1 }
    if s1.lkp.errors % 64 = 0 then detectMild .linkErrors detail s1 else s1

/-- `n` link errors of one kind. -/
def countErrors (detail : Byte) : Nat → State → State
  | 0, s => s
  | n + 1, s => countErrors detail n (countError detail s)

/-- The assembly buffer holds a frame that waits for room in the reply queue (R181). -/
def assemblyWaits (s : State) : Bool :=
  match s.lkp.assembly with
  | .waiting _ => true
  | _ => false

/-- The phase is HUNT with nothing assembled, and no gap timer runs (R179). -/
def huntAgain (s : State) : State := { s with lkp.assembly := .hunt, lkp.gapLeft := 0 }

/-! ## The reply queue -/

/-- The reply queue holds two frames (R181). -/
def repliesFull (s : State) : Bool := decide (2 ≤ s.lkp.replies.length)

/-- A reply made by a block enters the reply queue, or keeps the service slot until there is room; the reply of a
CONTROLLER_RESTART keeps the slot in either case (R181, R188). -/
def deliver (o : Outgoing) (s : State) : State :=
  if repliesFull s then { s with lkp.service := .finished o }
  else
    { s with
      lkp.replies := s.lkp.replies ++ [o]
      lkp.service := if o.restarts then .restart else .empty }

/-- The reply of a request of the given type. -/
def replyTo (type : Byte) (payload : List Byte) : Outgoing := ⟨⟨replyType type, payload⟩, false⟩

/-- The outcome of a passthrough is answered; after a link reset its reply is discarded (R34, R184). -/
def answerPassthrough (payload : List Byte) (s : State) : State :=
  match s.lkp.service with
  | .passthrough type discard =>
    if discard then { s with lkp.service := .empty } else deliver (replyTo type payload) s
  | _ => s

/-- A BUSY reply or a LINK_FAULT frame enters the reply queue, or waits in the assembly buffer for room (R180, R181). -/
def disposeFrame (f : Frame) (s : State) : State :=
  if repliesFull s then { s with lkp.assembly := .waiting f, lkp.gapLeft := 0 }
  else { huntAgain s with lkp.replies := s.lkp.replies ++ [⟨f, false⟩] }

/-- The service slot is empty. -/
def serviceFree (s : State) : Bool :=
  match s.lkp.service with
  | .empty => true
  | _ => false

/-- A request frame is complete with a good check (R181): served when the slot is empty, else answered BUSY. While a
frame waits in the assembly buffer its bytes are overruns (R178; log 6). -/
def receive (type : Byte) (payload : List Byte) (serve : State → State) (s : State) : State :=
  if assemblyWaits s then countErrors 1 (4 + payload.length) s
  else if serviceFree s then serve (huntAgain s)
  else disposeFrame ⟨replyType type, [stBusy]⟩ s

/-- A request that is served at once (R181): the block takes its effects and makes the reply payload in one step. -/
def request (type : Byte) (serve : List Byte → State → State × List Byte) (payload : List Byte) (s : State) : State :=
  receive type payload
    (fun t =>
      let (t1, reply) := serve payload t
      deliver (replyTo type reply) t1) s

/-! ## Faulty frames -/

/-- The LINK_FAULT frame (R180). -/
def linkFault (cause type length : Byte) : Frame := ⟨0xFF, [cause, type, length]⟩

/-- A faulty frame of `bytes` bytes on the line counts one error and makes a LINK_FAULT frame (R180); while a frame
waits its bytes are overruns (log 6). -/
def faultyFrame (detail : Byte) (bytes : Nat) (f : Frame) (s : State) : State :=
  if assemblyWaits s then countErrors 1 bytes s else disposeFrame f (countError detail s)

/-- One byte of a frame being assembled (R179). A CHECK byte ends the frame; the commands carry whole frames, so its
judgement is theirs (log 5). -/
def takeByte (s : State) (b : Byte) : State :=
  match s.lkp.assembly with
  | .hunt => if b = 0x5A then { s with lkp.assembly := .type, lkp.gapLeft := Config.gapMs } else countError 3 s
  | .type => { s with lkp.assembly := .length b, lkp.gapLeft := Config.gapMs }
  | .length type =>
    if Config.payloadMax < b.toNat then faultyFrame 5 3 (linkFault 2 type b) s
    else
      { s with
        lkp.assembly := if b = 0 then .check type b [] else .payload type b []
        lkp.gapLeft := Config.gapMs }
  | .payload type length taken =>
    { s with
      lkp.assembly :=
        if length.toNat ≤ taken.length + 1 then .check type length (taken ++ [b])
        else .payload type length (taken ++ [b])
      lkp.gapLeft := Config.gapMs }
  | .check _ _ _ => huntAgain s
  | .waiting _ => countError 1 s

/-- A frame is being assembled: its gap timer runs (R179). -/
def assembling (s : State) : Bool :=
  match s.lkp.assembly with
  | .hunt | .waiting _ => false
  | _ => true

/-- The gap timer runs out: the partial frame is discarded, with one error (R179). -/
def gapRunsOut (s : State) : State := if assembling s then countError 2 (huntAgain s) else s

/-! ## Room in the reply queue -/

/-- The room that a sent frame leaves is taken by a finished request's reply, else by a waiting disposal (R181). -/
def takeRoom (s : State) : State :=
  match s.lkp.service with
  | .finished o => deliver o s
  | _ =>
    match s.lkp.assembly with
    | .waiting f => disposeFrame f s
    | _ => s

/-- The reply of a CONTROLLER_RESTART is in the reply queue or waits for room in it (R188). -/
def restartPending (s : State) : Bool :=
  match s.lkp.service with
  | .restart => true
  | .finished o => o.restarts
  | _ => false

/-- A link reset, but for a restart that it brings (R184). -/
def linkReset (s : State) : State :=
  { s with
    lkp.assembly := .hunt
    lkp.gapLeft := 0
    lkp.replies := []
    lkp.service :=
      match s.lkp.service with
      | .passthrough type _ => .passthrough type true
      | _ => .empty }

end Sys2Proof.Machine
end

