-- ==== Sys2Proof/Machine/Packs.lean ====
section
/-! DEFINITION. PKS, the Pack Supervisor (chapter 2): the discharge switches (R30), the platform RSOC (R31), presence
(R23), good and failed polls (R24, R25, R27), alarms (R28) and the removal of alarm causes (R29). -/

namespace Sys2Proof

/-- The bus device of a pack. -/
def PackId.device : PackId → Machine.BusDevice
  | .a => .packA
  | .b => .packB

/-- The bus device of a port controller. -/
def PortId.device : PortId → Machine.BusDevice
  | .port1 => .port1
  | .port2 => .port2

end Sys2Proof

namespace Sys2Proof.Machine

/-- PKS with one pack record changed. -/
def modRecord (p : PackId) (f : PackRecord → PackRecord) (s : State) : State :=
  { s with pks.record := s.pks.record.set p (f (s.pks.record.get p)) }

/-- PKS with one poller's schedule changed. -/
def modSchedule (p : PackId) (f : PackSchedule → PackSchedule) (s : State) : State :=
  { s with pks.schedule := s.pks.schedule.set p (f (s.pks.schedule.get p)) }

/-! ## Discharge switches -/

/-- A pack wants its switch on (R30). -/
def wantsOn (r : PackRecord) : Bool :=
  r.state != .absent && r.state != .faulted && !r.alarm.terminateDischarge

/-- A pack is present and wants its switch off. -/
def wantsOff (r : PackRecord) : Bool := r.state != .absent && !wantsOn r

/-- The switch of a pack is held on: `first` breaks the tie of two packs that both want off (R30). -/
def switchHeldOn (active first : Bool) (r other : PackRecord) : Bool :=
  wantsOff r && !active &&
    (other.state == .absent ||
      (wantsOff other && if r.switchOn == other.switchOn then first else r.switchOn))

/-- A record with its switch set: a change of the switch makes a switch write due (R30). -/
def withSwitch (on held : Bool) (r : PackRecord) : PackRecord :=
  if r.switchOn = on then { r with switchHeld := held }
  else { r with switchOn := on, switchHeld := held, switchWritten := false }

/-- PKS sets both discharge switches afresh (R30), and FLT judges THROTTLE from them (R168). -/
def setSwitches (s : State) : State :=
  let a := s.pks.record.a
  let b := s.pks.record.b
  let active := s.srs.active.isSome
  let heldA := switchHeldOn active true a b
  let heldB := switchHeldOn active false b a
  judgeThrottle
    { s with pks.record := ⟨withSwitch (wantsOn a || heldA) heldA a, withSwitch (wantsOn b || heldB) heldB b⟩ }

/-! ## The platform RSOC -/

/-- A field of a pack that is present, else 0. -/
def ifPresent (r : PackRecord) (n : Nat) : Nat := if r.present then n else 0

/-- The platform RSOC (R31). -/
def rsocOf (a b : PackRecord) : Nat :=
  let remaining := ifPresent a a.remaining + ifPresent b b.remaining
  let full := ifPresent a a.full + ifPresent b b.full
  if full = 0 then 0 else if full < remaining then 100 else remaining * 100 / full

/-- PKS recomputes the platform RSOC and hands it to PSQ, which judges critical energy (R31, R159). -/
def updateRsoc (s : State) : State :=
  judgeCritical { s with pks.rsoc := rsocOf s.pks.record.a s.pks.record.b }

/-! ## Conditions and kept faults -/

/-- The over-charge condition at the latest good poll (R28). -/
def overChargeHolds (r : PackRecord) : Bool := r.alarm.overCharged

/-- The over-temperature condition at the latest good poll (R28). -/
def overTempHolds (r : PackRecord) : Bool := r.alarm.overTemp || decide (600 ≤ r.temperature)

/-- PKS tells FLT that a pack fault is no longer active, unless `holds` for the other pack, or that one is still to be
judged after a controller restart (R29, R37, R177; log 14). -/
def endPackFault (k : FaultKind) (holds : PackRecord → Bool) (p : PackId) (s : State) : State :=
  if holds (s.pks.record.get p.other) || s.pks.unjudged.get p.other then s else endFault k s

/-- PACK_COMM_LOST is no longer active when no pack holds COMM (R27). -/
def endCommLost (p : PackId) (s : State) : State :=
  if (s.pks.record.get p).causes.comm then s else endPackFault .packCommLost (fun r => r.causes.comm) p s

/-- The pack has been judged after a controller restart. -/
def judged (p : PackId) (s : State) : State := { s with pks.unjudged := s.pks.unjudged.set p false }

/-! ## Handing a record on -/

/-- A change of presence or state is handed on (R23, R27, R29): to CHC, IND and THU, to the switches and to PSQ. -/
def handRecord (p : PackId) (s : State) : State :=
  updateRsoc (setSwitches (handToThermal p (handToCharge p s)))

/-- The record of a good poll or identification is handed on (R27): CHC also judges its stage from it, against the
target current `target` that was in force when the poll ended (R49). -/
def handPoll (p : PackId) (target : Nat) (s : State) : State :=
  let s1 := { s with chc.handed := s.chc.handed.set p (s.pks.record.get p) }
  updateRsoc (setSwitches (handToThermal p (chargeAtPoll p target s1)))

/-! ## Moves of the pack state -/

/-- No cause is left. -/
def noCauses (c : CauseSet) : Bool := !c.comm && !c.overCharged && !c.overTemp

/-- A pack in IDENTIFY or FAULTED with an empty cause set moves to READY, with its notice (R24, R29). -/
def settleReady (p : PackId) (s : State) : State :=
  let r := s.pks.record.get p
  if noCauses r.causes && (r.state == .identify || r.state == .faulted) then
    raise (.pack p r.state .ready) (modRecord p (fun x => { x with state := .ready }) s)
  else s

/-- A pack with a cause moves to FAULTED, with its notice (R24, R27, R28). R24 names no notice for the move from IDENTIFY,
and R27 only one for a pack that was READY: the model raises it for both (DESIGN CHOICE,
log 47). -/
def settleFaulted (p : PackId) (s : State) : State :=
  let r := s.pks.record.get p
  if r.state == .ready || r.state == .identify then
    raise (.pack p r.state .faulted) (modRecord p (fun x => { x with state := .faulted }) s)
  else s

/-! ## Alarms -/

/-- The over-charge condition is judged at a good poll: a new cause, its detection and its wake (R28). -/
def judgeOverCharge (p : PackId) (s : State) : State :=
  let r := s.pks.record.get p
  if overChargeHolds r && !r.causes.overCharged then
    let s1 := modRecord p (fun x => { x with causes.overCharged := true }) s
    settingEvent .packAlarm (settleFaulted p (detect .packOverCharged (byteOf p.code) s1))
  else s

/-- The over-temperature condition is judged at a good poll (R28). -/
def judgeOverTemp (p : PackId) (s : State) : State :=
  let r := s.pks.record.get p
  if overTempHolds r && !r.causes.overTemp then
    let s1 := modRecord p (fun x => { x with causes.overTemp := true }) s
    settingEvent .packAlarm (settleFaulted p (detect .packOverTemp (byteOf p.code) s1))
  else s

/-- How many of the flags other than FULLY_CHARGED went from clear to set (R28). -/
def alarmsRisen (old new : AlarmFlags) : Nat :=
  [!old.terminateDischarge && new.terminateDischarge, !old.terminateCharge && new.terminateCharge,
    !old.overTemp && new.overTemp, !old.overCharged && new.overCharged].countP id

/-- One pack alarm: a PACK_ALARM notice with the flags now set, and the wake status with it (R28). -/
def packAlarm (p : PackId) (s : State) : State :=
  settingEvent .packAlarm (raise (.packAlarm p (s.pks.record.get p).alarm) s)

/-- Each flag that rises at one poll is an alarm of its own, with its notice and then its wake (R28, R134); the order of the
two within an alarm is the model's (DESIGN CHOICE, log 47). -/
def judgeAlarm (p : PackId) (old : AlarmFlags) (s : State) : State :=
  (alarmsRisen old (s.pks.record.get p).alarm).repeat (packAlarm p) s

/-- An over-charge cause is removed once its condition has gone and the fault's status is clear (R29). -/
def dropOverCharge (p : PackId) (s : State) : State :=
  if overChargeHolds (s.pks.record.get p) || (s.flt.get .packOverCharged).status then s
  else modRecord p (fun x => { x with causes.overCharged := false }) s

/-- An over-temperature cause is removed likewise (R29). -/
def dropOverTemp (p : PackId) (s : State) : State :=
  if overTempHolds (s.pks.record.get p) || (s.flt.get .packOverTemp).status then s
  else modRecord p (fun x => { x with causes.overTemp := false }) s

/-- The end of a condition is reported (R29). -/
def endAlarms (p : PackId) (s : State) : State :=
  let s1 :=
    if overChargeHolds (s.pks.record.get p) then s else endPackFault .packOverCharged overChargeHolds p s
  if overTempHolds (s1.pks.record.get p) then s1 else endPackFault .packOverTemp overTempHolds p s1

/-- A FAULT_CLEAR that names over-charge (`charged`) or over-temperature (`hot`) removes that cause of a pack whose
condition has gone (R29, R173 step 2). The hand-off that follows derives the charge LED from the statuses that step 1 has
cleared, before step 4 hands them to IND (DESIGN CHOICE, log 65). -/
def clearCauses (charged hot : Bool) (p : PackId) (s : State) : State :=
  let before := s.pks.record.get p
  let s1 := if charged then dropOverCharge p s else s
  let s2 := if hot then dropOverTemp p s1 else s1
  if (s2.pks.record.get p).causes = before.causes then s2 else handRecord p (settleReady p s2)

/-! ## Good and failed polls -/

/-- The flags of an alarm word (R28). -/
def alarmOf (w : Word16) : AlarmFlags :=
  { fullyCharged := w.getLsbD 0, terminateDischarge := w.getLsbD 1, terminateCharge := w.getLsbD 2,
    overTemp := w.getLsbD 3, overCharged := w.getLsbD 4 }

/-- A temperature word in tenths of a degree (R25). -/
def temperatureOf (w : Word16) : Int := clampInt (-400) 1500 ((w.toNat : Int) - 2732)

/-- Word `i` of a turn's reads. -/
def wordAt (ws : List Word16) (i : Nat) : Word16 := ws.getD i 0

/-- The record after nine good poll reads (R25, R27). -/
def polledRecord (ws : List Word16) (now : Stamp) (r : PackRecord) : PackRecord :=
  { r with
    voltage := (wordAt ws 0).toNat, current := (wordAt ws 1).toInt, temperature := temperatureOf (wordAt ws 2),
    rsoc := min 100 (wordAt ws 3).toNat, remaining := (wordAt ws 4).toNat, full := (wordAt ws 5).toNat,
    alarm := alarmOf (wordAt ws 6), reqCurrent := (wordAt ws 7).toNat, reqVoltage := (wordAt ws 8).toNat,
    failRun := 0, stale := false, lastGood := now, causes.comm := false }

/-- The poll interval of a pack, ms (R26). -/
def pollInterval (s : State) (p : PackId) : Nat := if pollFast s p then Config.pollFastMs else Config.pollSlowMs

/-- The pack's next poll falls due one interval from now (R26). -/
def schedulePoll (p : PackId) (s : State) : State :=
  modSchedule p (fun _ => { idleSchedule with pollLeft := some (pollInterval s p) }) s

/-- A good poll, or a good identification with its two words stored already (R24, R27 to R29): the record, the loss of
COMM, the alarms, the ends, and the hand-off. R28 does not order what begins at one poll: over-charge, over-temperature and
then the alarm flags are taken (DESIGN CHOICE, log 47). A pack FAULTED with COMM alone that now shows an alarm condition
moves to READY and then to FAULTED, as R24 gives it for an identification (DESIGN CHOICE, log 47). The detections, the
PACK_ALARM notices and their wake offers of R28 all come before R29's report that another condition has ended, so that an
offer in OFF can be refused by the fault not yet ended (DESIGN CHOICE, log 47: R28 and R29 give the two no order). The
target current of R49 is read first, since an offer taken here can recompute the budget. -/
def goodPoll (p : PackId) (ws : List Word16) (s : State) : State :=
  let target := (s.chc.context.get p).targetCurrent
  let old := (s.pks.record.get p).alarm
  let s1 := judged p (modRecord p (polledRecord ws s.uptime) s)
  let s2 := settleReady p (endCommLost p s1)
  let s3 := judgeAlarm p old (judgeOverTemp p (judgeOverCharge p s2))
  let s4 := settleReady p (dropOverTemp p (dropOverCharge p (endAlarms p s3)))
  schedulePoll p (handPoll p target s4)

/-- A good identification (R24): the two identification words come first. -/
def goodIdentification (p : PackId) (ws : List Word16) (s : State) : State :=
  goodPoll p (ws.drop 2)
    (modRecord p
      (fun r => { r with
        identified := true, cycleCount := (wordAt ws 0).toNat, designCapacity := (wordAt ws 1).toNat }) s)

/-- A pack not yet judged after a controller restart is judged as its fail run reaches 3 (R37). -/
def judgeAtFailure (p : PackId) (s : State) : State :=
  if s.pks.unjudged.get p then
    let other := s.pks.record.get p.other
    let s1 := if other.causes.overCharged then s else endFault .packOverCharged s
    judged p (if other.causes.overTemp then s1 else endFault .packOverTemp s1)
  else s

/-- A poll or identification fails (R27): the fail run rises, and at 3 the pack takes COMM. -/
def failedPoll (p : PackId) (s : State) : State :=
  let r := s.pks.record.get p
  let run := min 3 (r.failRun + 1)
  let s1 := modRecord p (fun x => { x with failRun := run }) s
  if run = 3 ∧ r.causes.comm = false then
    let s2 := judgeAtFailure p (modRecord p (fun x => { x with causes.comm := true, stale := true }) s1)
    handRecord p (settleFaulted p (detectMild .packCommLost (byteOf p.code) s2))
  else s1

/-! ## Presence -/

/-- The presence input goes active (R23). -/
def packInserted (p : PackId) (s : State) : State :=
  let populated := (s.pks.record.get p).populated
  let s1 := modRecord p (fun _ => { absentPack populated with present := true, state := .identify }) s
  let s2 := modSchedule p (fun _ => { idleSchedule with identDue := true }) s1
  handRecord p (raise (.pack p .absent .identify) s2)

/-- The pack poller's turn is abandoned, and its transaction on the bus runs on to a discarded outcome (R23). -/
def abandonTurn (p : PackId) (b : BusController) : BusController :=
  { b with
    turn := b.turn.filter fun t => t.poller != p.device
    running := b.running.map fun t => if t.device = p.device ∧ !t.passthrough then { t with abandoned := true } else t }

/-- A passthrough to a removed pack (R35): one that waits is answered at once, one that runs is marked. -/
def removePassthrough (p : PackId) (s : State) : State :=
  match s.pbc.slot with
  | none => s
  | some q =>
    if q.device ≠ p.device then s
    else if q.running then { s with pbc.slot := some { q with packGone := true } }
    else answerPassthrough [stNotPresent] { s with pbc.slot := none }

/-- The presence input goes inactive, in the order of R23. -/
def packRemoved (p : PackId) (s : State) : State :=
  let old := s.pks.record.get p
  let s1 := modSchedule p (fun _ => idleSchedule) (modRecord p (fun r => absentPack r.populated) s)
  let s2 := removePassthrough p { judged p s1 with pbc := abandonTurn p s1.pbc }
  let s3 := handRecord p s2
  let s4 := endCommLost p (endAlarms p s3)
  raise (.pack p old.state .absent) s4

end Sys2Proof.Machine
end

