-- ==== Sys2Proof/Machine/Sources.lean ====
section
/-! DEFINITION. SRS, the Source Selector (chapter 1): the barrel (R4), contract blocks (R6), SOURCE_INVALID (R7), settling
and eligibility (R8, R9), selection and the change of the active source (R10 to R12), and overload (R15). -/

namespace Sys2Proof.Machine

/-- SRS with one source record replaced. -/
def setSource (i : SourceId) (r : SourceRecord) (s : State) : State := { s with srs := s.srs.set i r }

/-! ## Eligibility and selection -/

/-- A source is eligible (R9). -/
def eligible (r : SourceRecord) : Bool :=
  r.present && r.settled && r.valid && !r.disabled && decide (Config.eligibleMw ≤ r.power)

/-- The better of two eligible sources: the higher power, and the first on equal power (R10). -/
def better (x : Selector) (best : Option SourceId) (i : SourceId) : Option SourceId :=
  if !eligible (x.get i) then best
  else
    match best with
    | none => some i
    | some j => if (x.get j).power < (x.get i).power then some i else some j

/-- The best eligible source (R10). -/
def bestSource (x : Selector) : Option SourceId := [SourceId.barrel, .port1, .port2].foldl (better x) none

/-- The source policy pins an eligible source (R10 case 1). -/
def pinned (x : Selector) : Option SourceId := x.pin.filter fun i => eligible (x.get i)

/-- The active source is kept against the best one (R10 case 2). -/
def stays (x : Selector) (active best : SourceId) : Bool :=
  eligible (x.get active) &&
    (active == best || decide ((x.get best).power * 100 < (x.get active).power * 110))

/-- The outcome of a selection (R10). -/
def outcome (x : Selector) : Option SourceId :=
  match pinned x with
  | some i => some i
  | none =>
    match x.active, bestSource x with
    | some a, some b => if stays x a b then some a else some b
    | _, best => best

/-! ## Overload -/

/-- An overload in force ends: notice, end of the fault, and THROTTLE (R15). -/
def endOverload (s : State) : State :=
  judgeThrottle
    (endFault .sourceOverload
      (raise (.overload true s.srs.active s.srs.pSys) { s with srs.overload := false, srs.overloadRun := 0 }))

/-- The overload comes into force: notice, detection, and THROTTLE (R15; the detail byte is unstated, log 38). -/
def beginOverload (s : State) : State :=
  judgeThrottle
    (detectMild .sourceOverload (Config.overloadDetail (sourceCode s.srs.active))
      (raise (.overload false s.srs.active s.srs.pSys) { s with srs.overload := true, srs.overloadRun := 0 }))

/-- One P_sys sample is judged for overload (R15). -/
def judgeOverload (s : State) : State :=
  if s.srs.active.isNone || s.srs.switching then s
  else
    let counts := decide (pInMax s.srs < s.srs.pSys) != s.srs.overload
    if !counts then { s with srs.overloadRun := 0 }
    else if s.srs.overloadRun + 1 < 3 then { s with srs.overloadRun := s.srs.overloadRun + 1 }
    else if s.srs.overload then endOverload s
    else beginOverload s

/-! ## The active source -/

/-- The wake source that a change of the active source sets (R11). -/
def sourceWake : Option SourceId → Option SourceId → Option WakeSource
  | none, some _ => some .sourceAttach
  | some _, none => some .sourceDetach
  | _, _ => none

/-- The active source and switch state are handed on (R11): to CHC and IND, to PKS and to PSQ. -/
def handSource (s : State) : State := judgeCritical (setSwitches (chargeRefresh true [] s))

/-- The active source changes (R11, R12; the order of its effects is log 11). A SWITCHING interval in progress is
abandoned or restarted. -/
def changeActive (new : Option SourceId) (s : State) : State :=
  let old := s.srs.active
  let s1 :=
    { s with
      srs.active := new
      srs.switching := new.isSome
      srs.switchLeft := if new.isSome then Config.switchingMs else 0
      srs.switchReplaced := s.srs.switching || s.srs.switchReplaced }
  let s2 :=
    match sourceWake old new with
    | some i => settingEvent i s1
    | none => s1
  let s3 := handSource (raise (.source new old new.isSome) s2)
  if s3.srs.overload then endOverload s3 else { s3 with srs.overloadRun := 0 }

/-- SRS makes a selection (R11). -/
def selectSource (s : State) : State :=
  if outcome s.srs = s.srs.active then s else changeActive (outcome s.srs) s

/-! ## Source records -/

/-- A change of a record asks for a selection (R11). -/
def asksSelection (old new : SourceRecord) : Bool :=
  eligible old != eligible new || (eligible new && old.power != new.power)

/-- A record is in a condition of SOURCE_INVALID (R7). -/
def invalidNow (i : SourceId) (r : SourceRecord) : Bool :=
  match i with
  | .barrel => r.present && r.cls == .unknown
  | _ => r.present && !r.valid

/-- Some record is in a condition of SOURCE_INVALID, or some port has still to be read after a controller restart (R7,
R177; log 14). -/
def invalidStands (x : Selector) : Bool :=
  invalidNow .barrel x.barrel || invalidNow .port1 x.port1 || invalidNow .port2 x.port2 || x.awaitRead.port1 ||
    x.awaitRead.port2

/-- SOURCE_INVALID is judged as a record changes (R7). -/
def judgeInvalid (i : SourceId) (old new : SourceRecord) (s : State) : State :=
  if invalidNow i new && !invalidNow i old then detectMild .sourceInvalid i.detail s
  else if invalidStands s.srs then s
  else endFault .sourceInvalid s

/-- The contract voltage or current differs: inputs of the budget, when the source is the active one (R14, R53). -/
def contractMoved (old new : SourceRecord) : Bool := old.voltage != new.voltage || old.current != new.current

/-- A record changes by its source's own inputs (R7, R9, R11). The manual gives no order between a SOURCE_INVALID
detection and the selection that the same change asks for: SOURCE_INVALID, with its FAULT notice, comes first (DESIGN
CHOICE, log 44). A new contract of a source that is and stays the active one is handed to CHC, which recomputes the budget
(R14, R53; log 40). -/
def updateSource (i : SourceId) (new : SourceRecord) (s : State) : State :=
  let old := s.srs.get i
  let s1 := judgeInvalid i old new (setSource i new s)
  let s2 := if asksSelection old new then selectSource s1 else s1
  if s.srs.active = some i ∧ s2.srs.active = some i ∧ contractMoved old new then chargeRefresh true [] s2 else s2

/-- The class that a reading gives (R4). -/
def classOf : AdapterReading → AdapterClass
  | .w45 => .w45
  | .w65 => .w65
  | .w90 => .w90
  | .w135 => .w135
  | .noMatch => .unknown

/-- The contract current of a class, mA (R4). -/
def barrelCurrent : AdapterReading → Nat
  | .w45 | .noMatch => 2250
  | .w65 => 3250
  | .w90 => 4500
  | .w135 => 6750

/-- The record takes a contract: a record that stays present and valid keeps its settle time (R3, R8). -/
def withContract (voltage current : Nat) (valid : Bool) (cls : AdapterClass) (r : SourceRecord) : SourceRecord :=
  let kept := r.present && r.valid && valid
  { r with
    present := true, valid, voltage, current, power := voltage * current / 1000, cls,
    settle := if kept then r.settle else 0, settled := kept && r.settled }

/-- The barrel record from an identification reading (R4). -/
def barrelRecord (reading : AdapterReading) (r : SourceRecord) : SourceRecord :=
  withContract 20000 (barrelCurrent reading) true (classOf reading) r

/-- The absent form of a record (R3). -/
def goneSource (r : SourceRecord) : SourceRecord := absentSource r.populated r.disabled

/-- A port record from a contract block (R6). -/
def portRecord (block : List Byte) (r : SourceRecord) : SourceRecord :=
  if byteAt block 0 = 0 then goneSource r
  else
    let mV := le16At block 1 * 50
    withContract mV (min 5000 (le16At block 3 * 10)) (decide (5000 ≤ mV) && decide (mV ≤ 20000)) .none r

/-- What is left of a port's 2 s interval after a delivery: it runs while the record is present (R5). It counts from the
delivery that makes the record present, and a read made at an alert does not restart it (DESIGN CHOICE, log 59: R5 gives
only 'every 2 s while present'). -/
def portWaitAfter (old new : SourceRecord) (left : Nat) : Nat :=
  if !new.present then 0 else if old.present then left else Config.portReadMs

/-- A contract block is delivered for a port (R5, R6). -/
def contractDelivered (p : PortId) (block : List Byte) (s : State) : State :=
  let old := s.srs.get p.source
  let new := portRecord block old
  updateSource p.source new
    { s with
      srs.awaitRead := s.srs.awaitRead.set p false
      srs.portWait := s.srs.portWait.set p (portWaitAfter old new (s.srs.portWait.get p)) }

/-- The settle time of a record reaches 500 ms (R8). -/
def sourceSettled (i : SourceId) (s : State) : State :=
  let old := s.srs.get i
  if old.present && old.valid && !old.settled then
    let new := { old with settle := Config.settleMs, settled := true }
    let s1 := setSource i new s
    if asksSelection old new then selectSource s1 else s1
  else s

/-- The SWITCHING interval expires (R12); the expiry of an interval that has been abandoned or restarted does nothing
(how the model knows that expiry: DESIGN CHOICE, log 51). -/
def switchingExpired (s : State) : State :=
  if s.srs.switchReplaced then { s with srs.switchReplaced := false }
  else if s.srs.switching then
    selectSource (chargeRefresh true [] { s with srs.switching := false, srs.switchLeft := 0 })
  else s

/-- SRS asks PBC for a contract read of a port: requests merge into one (R5). -/
def requestRead (p : PortId) (s : State) : State := { s with pbc.portDue := s.pbc.portDue.set p true }

end Sys2Proof.Machine
end

