-- ==== Sys2Proof/Machine/Bus.lean ====
section
/-! DEFINITION. PBC, the Pack Bus Controller (chapter 2): attempts and recoveries (R19, R20), the arbiter's turns (R21), the
delivery of outcomes to the pollers (R24 to R27, R30, R6) and to the passthrough slot (R34, R35). -/

namespace Sys2Proof.Machine

/-! ## Attempts -/

/-- The data line was found high: the count of failed recoveries returns to 0 (R20). -/
def lineFound (s : State) : State := endFault .busStuck { s with pbc.recoveryFails := 0 }

/-- An attempt begins: at once when the data line is high, else after a recovery (R19, R20). -/
def startAttempt (t : Transaction) (s : State) : State :=
  if s.inputs.busLineHigh then
    lineFound { s with pbc.running := some { t with recovering := false, left := Config.attemptMs } }
  else { s with pbc.running := some { t with recovering := true, left := 0 } }

/-- A transaction begins with its first attempt (R19). -/
def startTransaction (device : BusDevice) (passthrough : Bool) (op : BusOp) (s : State) : State :=
  startAttempt
    { device, passthrough, op, second := false, recovering := false, left := Config.attemptMs, abandoned := false } s

/-- A good attempt's bytes fit the transaction: a read gives as many as it asked for (R19; log 30). -/
def fits (op : BusOp) (data : List Byte) : Bool :=
  match op with
  | .readWord _ => data.length == 2
  | .readBlock _ n => data.length == n
  | .writeWord _ _ | .writeBlock _ _ => true

/-- A pack-bus word from its two bytes, low byte first (R19). -/
def wordOf (data : List Byte) : Word16 := BitVec.ofNat 16 (le16At data 0)

/-! ## Turns -/

/-- The nine poll reads (R25). -/
def pollReads : List BusOp :=
  [.readWord 0x20, .readWord 0x21, .readWord 0x22, .readWord 0x23, .readWord 0x24, .readWord 0x25, .readWord 0x26,
   .readWord 0x27, .readWord 0x28]

/-- The eleven identification reads (R24). -/
def identReads : List BusOp := .readWord 0x29 :: .readWord 0x2A :: pollReads

/-- The word of a discharge-switch write (R30). -/
def switchWord (on : Bool) : Word16 := if on then 1 else 0

/-- A discharge-switch write is due: the pack is present and has not acknowledged its switch (R30). -/
def switchDue (r : PackRecord) : Bool := r.present && !r.switchWritten

/-- A pack's poller is due (R21). -/
def packDue (s : State) (p : PackId) : Bool :=
  let r := s.pks.record.get p
  let d := s.pks.schedule.get p
  r.present && (!r.switchWritten || d.identDue || d.pollDue)

/-- The switch write that a turn of the pack's poller begins with, when one is due. -/
def switchOps (r : PackRecord) : List BusOp := if switchDue r then [.writeWord 0x2B (switchWord r.switchOn)] else []

/-- What a turn of the pack's poller reads, and why (R21). -/
def turnReads (d : PackSchedule) : TurnWork × List BusOp :=
  if d.identDue then (.identification, identReads)
  else if d.pollDue then (.poll, pollReads)
  else (.switchOnly, [])

/-- A turn begins with its first transaction. -/
def beginTurn (poller : BusDevice) (work : TurnWork) (ops : List BusOp) (s : State) : State :=
  match ops with
  | [] => s
  | op :: rest =>
    startTransaction poller false op
      { s with pbc.turn := some { poller, work, todo := rest, words := [] }, pbc.lastTurn := poller }

/-- The pack's poller begins its turn: its due work is taken (R21; fixed at the beginning, log 20). -/
def beginPackTurn (p : PackId) (s : State) : State :=
  let d := s.pks.schedule.get p
  beginTurn p.device (turnReads d).1 (switchOps (s.pks.record.get p) ++ (turnReads d).2)
    (modSchedule p (fun x => { x with identDue := false, pollDue := false }) s)

/-- The port's poller begins its turn: one contract block read (R21, R6). -/
def beginPortTurn (p : PortId) (s : State) : State :=
  beginTurn p.device .contract [.readBlock 0x40 5] { s with pbc.portDue := s.pbc.portDue.set p false }

/-- A poller is due (R21). -/
def pollerDue (s : State) : BusDevice → Bool
  | .packA => packDue s .a
  | .packB => packDue s .b
  | .port1 => s.pbc.portDue.port1
  | .port2 => s.pbc.portDue.port2

/-- A poller begins its turn. -/
def beginPollerTurn : BusDevice → State → State
  | .packA => beginPackTurn .a
  | .packB => beginPackTurn .b
  | .port1 => beginPortTurn .port1
  | .port2 => beginPortTurn .port2

/-- The rotation, counted from the poller after the one that had the last turn (R21). -/
def rotation : BusDevice → List BusDevice
  | .packA => [.packB, .port1, .port2, .packA]
  | .packB => [.port1, .port2, .packA, .packB]
  | .port1 => [.port2, .packA, .packB, .port1]
  | .port2 => [.packA, .packB, .port1, .port2]

/-- The next due poller begins its turn, else the bus idles (R21 cases 3 and 4). -/
def grantPoller (s : State) : State :=
  match (rotation s.pbc.lastTurn).find? (pollerDue s) with
  | some d => beginPollerTurn d s
  | none => s

/-- A turn in progress goes on, or the next due poller begins one (R21 cases 2 to 4). -/
def grantTurn (s : State) : State :=
  match s.pbc.turn with
  | some t =>
    match t.todo with
    | op :: rest => startTransaction t.poller false op { s with pbc.turn := some { t with todo := rest } }
    | [] => grantPoller { s with pbc.turn := none }
  | none => grantPoller s

/-- The arbiter gives out a free bus (R21). -/
def busGrant (s : State) : State :=
  if s.pbc.running.isSome then s
  else
    match s.pbc.slot with
    | some q =>
      if q.running then grantTurn s
      else startTransaction q.device true q.op { s with pbc.slot := some { q with running := true } }
    | none => grantTurn s

/-! ## Outcomes -/

/-- The turn in progress ends. -/
def endTurn (s : State) : State := { s with pbc.turn := none }

/-- The outcome of a discharge-switch write (R30): the pack has acknowledged the present switch position only when that
is what was written. -/
def switchWritten (p : PackId) (w : Word16) (good : Bool) (s : State) : State :=
  if good then modRecord p (fun r => if switchWord r.switchOn = w then { r with switchWritten := true } else r) s else s

/-- All reads of a turn have succeeded (R24, R27). -/
def readsGood (p : PackId) (work : TurnWork) (ws : List Word16) (s : State) : State :=
  match work with
  | .identification => goodIdentification p ws s
  | _ => goodPoll p ws s

/-- A read of a turn has failed (R24, R26, R27). -/
def readsFailed (p : PackId) (work : TurnWork) (s : State) : State :=
  match work with
  | .identification => modSchedule p (fun x => { x with identLeft := some Config.identMs }) (failedPoll p s)
  | _ => schedulePoll p (failedPoll p s)

/-- The outcome of a transaction of a pack's poller (R21, R24, R27, R30). -/
def packOutcome (p : PackId) (t : Turn) (op : BusOp) (result : Option (List Byte)) (s : State) : State :=
  match op with
  | .writeWord _ w =>
    let s1 := switchWritten p w result.isSome s
    if t.todo.isEmpty then endTurn s1 else s1
  | _ =>
    match result with
    | none => readsFailed p t.work (endTurn s)
    | some data =>
      let ws := t.words ++ [wordOf data]
      if t.todo.isEmpty then readsGood p t.work ws (endTurn s)
      else { s with pbc.turn := some { t with words := ws } }

/-- The outcome of a port's contract read (R6): a failure leaves the record as it was. -/
def portOutcome (p : PortId) (result : Option (List Byte)) (s : State) : State :=
  match result with
  | none => endTurn s
  | some block => contractDelivered p block (endTurn s)

/-- The outcome of a poller's transaction is handed to it. -/
def pollerOutcome (device : BusDevice) (op : BusOp) (result : Option (List Byte)) (s : State) : State :=
  match s.pbc.turn with
  | none => s
  | some t =>
    match device with
    | .packA => packOutcome .a t op result s
    | .packB => packOutcome .b t op result s
    | .port1 => portOutcome .port1 result s
    | .port2 => portOutcome .port2 result s

/-- The command byte of a transaction. -/
def opCommand : BusOp → Byte
  | .readWord c | .writeWord c _ | .readBlock c _ | .writeBlock c _ => c

/-- The count of a passthrough's reply and its data: the bytes read, or the count written (R34). -/
def opData (op : BusOp) (data : List Byte) : List Byte :=
  match op with
  | .writeBlock _ d => [byteOf d.length]
  | .writeWord _ _ => [2]
  | _ => byteOf data.length :: data

/-- The reply payload of a passthrough (R34, R35). -/
def passthroughReply (q : Passthrough) (result : Option (List Byte)) : List Byte :=
  if q.packGone then [stNotPresent]
  else
    match result with
    | none => [stBusFailed, byteOf q.device.code, opCommand q.op]
    | some data => doneStatus q.adjusted :: byteOf q.device.code :: opCommand q.op :: opData q.op data

/-- The outcome of the passthrough makes its reply, and the slot is empty (R34). -/
def passthroughOutcome (result : Option (List Byte)) (s : State) : State :=
  match s.pbc.slot with
  | none => s
  | some q => answerPassthrough (passthroughReply q result) { s with pbc.slot := none }

/-- A transaction has its outcome: the bus is free, and the outcome goes to the requester (R19). -/
def endTransaction (t : Transaction) (result : Option (List Byte)) (s : State) : State :=
  let s1 := { s with pbc.running := none }
  if t.passthrough then passthroughOutcome result s1
  else if t.abandoned then s1
  else pollerOutcome t.device t.op result s1

/-- An attempt fails: the second follows at once, or the transaction has failed (R19). -/
def attemptFails (t : Transaction) (s : State) : State :=
  if t.second then endTransaction t none s else startAttempt { t with second := true } s

/-- An attempt on the bus ends (R19). -/
def attemptEnded (result : AttemptResult) (s : State) : State :=
  match s.pbc.running with
  | none => s
  | some t =>
    if t.recovering then s
    else
      match result with
      | .notAcked => attemptFails t s
      | .acked data => if fits t.op data then endTransaction t (some data) s else attemptFails t s

/-- A failed recovery is a detection of BUS_STUCK: the second in a row where BUS_STUCK is not active (R20), and the first
where it is, as only a controller restart leaves it beside a count of 0, and this is then PBC's first judgement of it (R177;
DEDUCED, log 14). -/
def stuckDetected (s : State) : Bool :=
  s.pbc.recoveryFails == if (s.flt.get .busStuck).active then 0 else 1

/-- A recovery fails, and with it the attempt (R20). -/
def recoveryFailed (t : Transaction) (s : State) : State :=
  let s1 := { s with pbc.recoveryFails := min 2 (s.pbc.recoveryFails + 1) }
  attemptFails t (if stuckDetected s then detectMild .busStuck (byteOf t.device.code) s1 else s1)

/-- A recovery of the bus ends, and PBC looks at the data line again (R20). -/
def recoveryEnded (lineHigh : Bool) (s : State) : State :=
  match s.pbc.running with
  | none => s
  | some t =>
    if !t.recovering then s
    else if lineHigh then
      lineFound { s with pbc.running := some { t with recovering := false, left := Config.attemptMs } }
    else recoveryFailed t s

/-- PBC has looked at the data line (R20; log 19). -/
def lineLevel (high : Bool) (s : State) : State := { s with inputs.busLineHigh := high }

/-! ## The end of a command -/

/-- What every command leaves for its end: the offer of a wake that is due at an arrival in OFF (R138; log 15), and the
grant of a free bus (R21). -/
def conclude (before after : State) : State := busGrant (offerAtOff before after)

end Sys2Proof.Machine
end

