-- ==== Sys2Proof/Machine/PowerRequests.lean ====
section
/-! DEFINITION. The requests of chapters 1 to 3: SOURCE_POLICY and SOURCE_STATUS_GET (R16, R17), the pack requests (R32 to
R34), the profile requests (R60 to R63), CHARGE_POLICY and BUDGET_GET (R64, R66). A `serve…` takes the payload and the state
and answers the state after the request with the reply's payload. -/

namespace Sys2Proof.Machine

/-- What a meaning answers: the next state, with what every command leaves for its end. -/
def finish (before after : State) : Host.Outcome State Fault Refusal := .next (conclude before after)

/-- A request refused with a status changes nothing (R182). -/
def refuse (status : Byte) (s : State) : State × List Byte := (s, [status])

/-! ## SOURCE_POLICY, SOURCE_STATUS_GET -/

/-- The pin of a SOURCE_POLICY by its number (R16). -/
def pinOf (n : Nat) : Option SourceId :=
  match n with
  | 1 => some .barrel
  | 2 => some .port1
  | 3 => some .port2
  | _ => none

/-- The selector under a policy (R16). -/
def withPolicy (pin mask margin : Nat) (x : Selector) : Selector :=
  { x with
    barrel := { x.barrel with disabled := bitOf mask 0 }
    port1 := { x.port1 with disabled := bitOf mask 1 }
    port2 := { x.port2 with disabled := bitOf mask 2 }
    pin := pinOf pin
    margin }

/-- The disable mask in force (R16). -/
def disableMask (x : Selector) : Byte := flagByte [x.barrel.disabled, x.port1.disabled, x.port2.disabled]

/-- The policy fields of a reply (R16, R17). -/
def policyBytes (x : Selector) : List Byte := [byteOf (sourceCode x.pin), disableMask x, byteOf x.margin]

/-- SOURCE_POLICY (R16). -/
def serveSourcePolicy (p : List Byte) (s : State) : State × List Byte :=
  let pin := byteAt p 0
  let mask := byteAt p 1
  let margin := min 20 (byteAt p 2)
  if p.length ≠ 3 then refuse stBadLength s
  else if 3 < pin ∨ 7 < mask then refuse stBadValue s
  else
    let x := withPolicy pin mask margin s.srs
    if outcome x = none ∧ dischargeCapable s = false then refuse stWrongState s
    else
      let t := selectSource (chargeRefresh true [] { s with srs := x })
      (t, doneStatus (decide (20 < byteAt p 2)) :: policyBytes t.srs ++
        [byteOf (sourceCode t.srs.active), boolByte t.srs.switching])

/-- The ten bytes of a source record (R17). -/
def sourceBytes (r : SourceRecord) : List Byte :=
  flagByte [r.populated, r.present, r.valid, r.settled, r.disabled, eligible r] :: byteOf r.cls.code ::
    (le16 r.voltage ++ le16 r.current ++ le32 r.power)

/-- SOURCE_STATUS_GET (R17). -/
def serveSourceStatusGet (p : List Byte) (s : State) : State × List Byte :=
  if p.length ≠ 0 then refuse stBadLength s
  else
    let x := s.srs
    (s, [stOk, byteOf (sourceCode x.active), boolByte x.switching] ++ policyBytes x ++ sourceBytes x.barrel ++
      sourceBytes x.port1 ++ sourceBytes x.port2 ++ le32 x.pSys ++ le32 (pInMax x) ++
      [boolByte x.overload, byteOf x.overloadRun])

/-! ## PACK_STATUS_GET, PACK_SNAPSHOT -/

/-- The pack of a pack byte of 0 or 1. -/
def packOf (n : Nat) : PackId := if n = 0 then .a else .b

/-- The fields of a pack record in PACK_STATUS_GET (R33). -/
def packBytes (r : PackRecord) : List Byte :=
  [byteOf r.state.code, flagByte r.causes.flags,
    flagByte [r.present, r.identified, r.stale, r.switchOn, r.switchHeld, r.switchWritten], byteOf r.failRun] ++
    le16 r.voltage ++ les16 r.current ++ les16 r.temperature ++ [byteOf r.rsoc] ++ le16 r.remaining ++ le16 r.full ++
    mask16 r.alarm.flags ++ le16 r.reqCurrent ++ le16 r.reqVoltage ++ le16 r.cycleCount ++ le16 r.designCapacity ++
    stampBytes r.lastGood

/-- PACK_STATUS_GET (R33). -/
def servePackStatusGet (p : List Byte) (s : State) : State × List Byte :=
  if p.length ≠ 2 then refuse stBadLength s
  else if 1 < byteAt p 0 ∨ 1 < byteAt p 1 then refuse stBadValue s
  else
    let pack := packOf (byteAt p 0)
    if (s.pks.record.get pack).populated = false then refuse stNotPresent s
    else
      let head := [stOk, byteOf pack.code, byteOf (byteAt p 1)]
      if byteAt p 1 = 0 then
        (s, head ++ stampBytes 0 ++ packBytes (s.pks.record.get pack) ++ [byteOf s.pks.rsoc])
      else
        match s.pks.snapshot with
        | none => refuse stNotPresent s
        | some n => (s, head ++ stampBytes n.stamp ++ packBytes (n.packs.get pack) ++ [byteOf n.rsoc])

/-- PACK_SNAPSHOT (R32). -/
def servePackSnapshot (p : List Byte) (s : State) : State × List Byte :=
  if p.length ≠ 0 then refuse stBadLength s
  else
    ({ s with
        pks.snapshot := some { packs := s.pks.record, budget := s.chc.budget, rsoc := s.pks.rsoc, stamp := s.uptime } },
      stOk :: stampBytes s.uptime)

/-! ## PACK_READ, PACK_WRITE -/

/-- The device of a device byte (R34). -/
def deviceOf (n : Nat) : Option BusDevice :=
  match n with
  | 0 => some .packA
  | 1 => some .packB
  | 2 => some .port1
  | 3 => some .port2
  | _ => none

/-- The device is there: a pack that is not ABSENT, or a port controller (R34). -/
def devicePresent (s : State) : BusDevice → Bool
  | .packA => s.pks.record.a.state != .absent
  | .packB => s.pks.record.b.state != .absent
  | .port1 | .port2 => true

/-- The request enters the passthrough slot and keeps the service slot (R34, R181). -/
def enterSlot (type : Byte) (device : BusDevice) (op : BusOp) (adjusted : Bool) (s : State) : State :=
  { s with
    pbc.slot := some { device, op, adjusted, running := false, packGone := false }
    lkp.service := .passthrough type false }

/-- A passthrough request whose length is good: value, presence and slot (R34). -/
def servePassthrough (type : Byte) (device : Option BusDevice) (op : Option BusOp) (adjusted : Bool) (s : State) :
    State :=
  match device, op with
  | some d, some o =>
    if devicePresent s d then enterSlot type d o adjusted s else deliver (replyTo type [stNotPresent]) s
  | _, _ => deliver (replyTo type [stBadValue]) s

/-- The block read of a PACK_READ: none for a count of 0, and 32 for a count above it (R34). -/
def readOp (command : Byte) (count : Nat) : Option BusOp :=
  if count = 0 then none else some (.readBlock command (min 32 count))

/-- PACK_READ (R34). -/
def servePackRead (p : List Byte) (s : State) : State :=
  if p.length ≠ 3 then deliver (replyTo 0x22 [stBadLength]) s
  else
    servePassthrough 0x22 (deviceOf (byteAt p 0)) (readOp (byteOf (byteAt p 1)) (byteAt p 2))
      (decide (32 < byteAt p 2)) s

/-- PACK_WRITE (R34). -/
def servePackWrite (p : List Byte) (s : State) : State :=
  if p.length < 3 ∨ 34 < p.length then deliver (replyTo 0x23 [stBadLength]) s
  else
    servePassthrough 0x23 (deviceOf (byteAt p 0)) (some (.writeBlock (byteOf (byteAt p 1)) (p.drop 2))) false s

/-! ## The profile requests -/

/-- The checks of the pack byte that the profile requests share, once the length is good (section 3.6). -/
def profileCheck (p : List Byte) (s : State) : Option Byte :=
  if 1 < byteAt p 0 then some stBadValue
  else if (s.pks.record.get (packOf (byteAt p 0))).populated = false then some stNotPresent
  else none

/-- A context under a new list: pointer and counts at 0, complete and timeout latches clear (R60, R63). -/
def reloaded (stages : List Stage) (c : ChargeContext) : ChargeContext :=
  { freshStage c with stages, pointer := 0, completeLatch := false, timeoutLatch := false }

/-- A context is replaced, and states and budget are made again (R60, R61, R63). -/
def putContext (p : PackId) (c : ChargeContext) (s : State) : State :=
  chargeRefresh true [] { s with chc.context := s.chc.context.set p c }

/-- The charge state of a pack as a reply carries it. -/
def chargeByte (s : State) (p : PackId) : Byte := byteOf (s.chc.context.get p).state.code

/-- PROFILE_LOAD (R60). A pack B that is not populated is answered NOT_PRESENT also where a stage code is above 7; the two
refusals have no stated order (DESIGN CHOICE, log 55). -/
def serveProfileLoad (p : List Byte) (s : State) : State × List Byte :=
  let n := (p.length - 1) / 9
  if p.length ≠ 1 + 9 * n ∨ n = 0 ∨ 6 < n then refuse stBadLength s
  else
    match profileCheck p s, stagesAt p 1 n with
    | some e, _ => refuse e s
    | none, none => refuse stBadValue s
    | none, some given =>
      let pack := packOf (byteAt p 0)
      let t := putContext pack (reloaded (given.map storeStage) (s.chc.context.get pack)) s
      (t, [doneStatus (given.any stageAdjusted), byteOf pack.code, byteOf n, flagByte (given.map stageAdjusted),
        chargeByte t pack])

/-- A context with a stage appended: a COMPLETE one goes on at the new stage (R61). -/
def extended (g : Stage) (c : ChargeContext) : ChargeContext :=
  let c1 := { c with stages := c.stages ++ [g] }
  if c.state = .complete then { freshStage c1 with completeLatch := false, pointer := c.stages.length } else c1

/-- PROFILE_EXTEND (R61), with NOT_PRESENT before a stage code above 7 as in PROFILE_LOAD (DESIGN CHOICE, log 55). -/
def serveProfileExtend (p : List Byte) (s : State) : State × List Byte :=
  if p.length ≠ 10 then refuse stBadLength s
  else
    match profileCheck p s, stageAt p 1 with
    | some e, _ => refuse e s
    | none, none => refuse stBadValue s
    | none, some g =>
      let pack := packOf (byteAt p 0)
      let c := s.chc.context.get pack
      if 8 ≤ c.stages.length then refuse stFull s
      else
        let t := putContext pack (extended (storeStage g) c) s
        (t, [doneStatus (stageAdjusted g), byteOf pack.code, byteOf (c.stages.length + 1), chargeByte t pack] ++
          stageBytes (storeStage g))

/-- Stage `i` of a context as PROFILE_GET carries it: the FOLLOW stage in force shows its working values (R62). -/
def shownStage (c : ChargeContext) (i : Nat) (g : Stage) : Stage :=
  if i = c.pointer ∧ g.mode = .follow then { g with current := c.workCurrent, voltage := c.workVoltage } else g

/-- The stages that a PROFILE_GET returns: up to four from the first index on (R62). -/
def returnedStages (c : ChargeContext) (first : Nat) : List Stage :=
  ((c.stages.zipIdx.map fun (g, i) => shownStage c i g).drop first).take 4

/-- The header of a PROFILE_GET (R62). -/
def profileHeader (p : PackId) (c : ChargeContext) : List Byte :=
  [byteOf p.code, byteOf c.state.code, flagByte c.causes.flags,
    flagByte [c.heldLatch, c.completeLatch, c.timeoutLatch], byteOf c.pointer, byteOf (endIndex c)] ++
    le32 c.elapsed ++ [byteOf c.taperRun] ++ le16 c.targetCurrent ++ le16 c.targetVoltage

/-- PROFILE_GET (R62), with NOT_PRESENT before a first index above 7 (DESIGN CHOICE, log 55). -/
def serveProfileGet (p : List Byte) (s : State) : State × List Byte :=
  if p.length ≠ 2 then refuse stBadLength s
  else
    match profileCheck p s with
    | some e => refuse e s
    | none =>
      if 7 < byteAt p 1 then refuse stBadValue s
      else
        let pack := packOf (byteAt p 0)
        let c := s.chc.context.get pack
        let stages := returnedStages c (byteAt p 1)
        (s, stOk :: profileHeader pack c ++ [byteOf (byteAt p 1), byteOf stages.length] ++
          (stages.map stageBytes).flatten)

/-- PROFILE_ABORT (R63). -/
def serveProfileAbort (p : List Byte) (s : State) : State × List Byte :=
  if p.length ≠ 1 then refuse stBadLength s
  else
    match profileCheck p s with
    | some e => refuse e s
    | none =>
      let pack := packOf (byteAt p 0)
      let t := putContext pack (reloaded [defaultStage] (s.chc.context.get pack)) s
      (t, [stOk, byteOf pack.code, chargeByte t pack])

/-! ## CHARGE_POLICY, BUDGET_GET -/

/-- The charge order of its number (R64). -/
def orderOf (n : Nat) : Option ChargeOrder :=
  match n with
  | 0 => some .balanced
  | 1 => some .aFirst
  | 2 => some .bFirst
  | _ => none

/-- The four bytes of a charge policy (R64). -/
def chargePolicyBytes (x : ChargePolicy) : List Byte :=
  [byteOf x.order.code, byteOf x.limit, byteOf x.preset, byteOf x.recharge]

/-- CHARGE_POLICY (R64). -/
def serveChargePolicy (p : List Byte) (s : State) : State × List Byte :=
  if p.length = 0 then (s, stOk :: chargePolicyBytes s.chc.policy)
  else if p.length ≠ 4 then refuse stBadLength s
  else
    match orderOf (byteAt p 0) with
    | none => refuse stBadValue s
    | some order =>
      let policy : ChargePolicy :=
        { order, limit := clampNat 50 100 (byteAt p 1), preset := clampNat 50 100 (byteAt p 2),
          recharge := clampNat 50 99 (byteAt p 3) }
      let adjusted := chargePolicyBytes policy != p
      (judgePolicy true { s with chc.policy := policy }, doneStatus adjusted :: chargePolicyBytes policy)

/-- Part 0 of the budget record (R66). -/
def budgetCommon (b : BudgetRecord) : List Byte :=
  stampBytes b.stamp ++
    [byteOf (sourceCode b.active), boolByte b.switching, byteOf b.margin, byteOf b.order.code, byteOf b.level.code,
      byteOf b.derate] ++
    le16 b.vSrc ++ le16 b.iSrc ++ le32 b.pSys ++ le32 b.pInMax ++ le32 b.pAvail ++ le32 b.pChg ++ le32 b.pBudget

/-- The per-pack group of the budget record (R66). -/
def budgetPack (b : PackBudget) : List Byte :=
  [byteOf b.state.code, boolByte b.eligible, byteOf b.mode.code] ++ le16 b.iReq ++ le16 b.vX ++ le32 b.need ++
    le32 b.share ++ le32 b.allotted ++ le16 b.targetCurrent ++ le16 b.targetVoltage

/-- The part of a budget record asked for (R66). -/
def budgetPart (part : Nat) (b : BudgetRecord) : List Byte :=
  if part = 0 then budgetCommon b else budgetPack b.packs.a ++ budgetPack b.packs.b

/-- BUDGET_GET (R66). -/
def serveBudgetGet (p : List Byte) (s : State) : State × List Byte :=
  if p.length ≠ 2 then refuse stBadLength s
  else if 1 < byteAt p 0 ∨ 1 < byteAt p 1 then refuse stBadValue s
  else
    let head := [stOk, byteOf (byteAt p 0), byteOf (byteAt p 1)]
    if byteAt p 0 = 0 then (s, head ++ stampBytes 0 ++ budgetPart (byteAt p 1) s.chc.budget)
    else
      match s.pks.snapshot with
      | none => refuse stNotPresent s
      | some n => (s, head ++ stampBytes n.stamp ++ budgetPart (byteAt p 1) n.budget)

/-! ## The meanings -/

/-- SOURCE_POLICY (R16, R181). -/
def execSourcePolicy (payload : List Byte) (s : State) : Host.Outcome State Fault Refusal :=
  finish s (request 0x10 serveSourcePolicy payload s)

/-- SOURCE_STATUS_GET (R17, R181). -/
def execSourceStatusGet (payload : List Byte) (s : State) : Host.Outcome State Fault Refusal :=
  finish s (request 0x11 serveSourceStatusGet payload s)

/-- PACK_STATUS_GET (R33, R181). -/
def execPackStatusGet (payload : List Byte) (s : State) : Host.Outcome State Fault Refusal :=
  finish s (request 0x20 servePackStatusGet payload s)

/-- PACK_SNAPSHOT (R32, R181). -/
def execPackSnapshot (payload : List Byte) (s : State) : Host.Outcome State Fault Refusal :=
  finish s (request 0x21 servePackSnapshot payload s)

/-- PACK_READ (R34, R181). -/
def execPackRead (payload : List Byte) (s : State) : Host.Outcome State Fault Refusal :=
  finish s (receive 0x22 payload (servePackRead payload) s)

/-- PACK_WRITE (R34, R181). -/
def execPackWrite (payload : List Byte) (s : State) : Host.Outcome State Fault Refusal :=
  finish s (receive 0x23 payload (servePackWrite payload) s)

/-- PROFILE_LOAD (R60, R181). -/
def execProfileLoad (payload : List Byte) (s : State) : Host.Outcome State Fault Refusal :=
  finish s (request 0x30 serveProfileLoad payload s)

/-- PROFILE_EXTEND (R61, R181). -/
def execProfileExtend (payload : List Byte) (s : State) : Host.Outcome State Fault Refusal :=
  finish s (request 0x31 serveProfileExtend payload s)

/-- PROFILE_GET (R62, R181). -/
def execProfileGet (payload : List Byte) (s : State) : Host.Outcome State Fault Refusal :=
  finish s (request 0x32 serveProfileGet payload s)

/-- PROFILE_ABORT (R63, R181). -/
def execProfileAbort (payload : List Byte) (s : State) : Host.Outcome State Fault Refusal :=
  finish s (request 0x33 serveProfileAbort payload s)

/-- CHARGE_POLICY (R64, R181). -/
def execChargePolicy (payload : List Byte) (s : State) : Host.Outcome State Fault Refusal :=
  finish s (request 0x34 serveChargePolicy payload s)

/-- BUDGET_GET (R66, R181). -/
def execBudgetGet (payload : List Byte) (s : State) : Host.Outcome State Fault Refusal :=
  finish s (request 0x35 serveBudgetGet payload s)

end Sys2Proof.Machine
end

