-- ==== Sys2Proof/Machine/ThermalCommands.lean ====
section
/-! DEFINITION. The requests and events of chapter 4: TEMP_SUPPLY (R85), THERMAL_CONFIG (R86), FAN_CURVE_SET (R87),
FAN_OVERRIDE (R88), THERMAL_STATUS_GET (R89), board conversions (R69), freshness (R70), evaluations (R77), spin-up (R81),
tachometer windows (R82) and override expiry (R83). -/

namespace Sys2Proof.Machine

/-! ## TEMP_SUPPLY -/

/-- One field of a TEMP_SUPPLY: -32768 leaves the sensor as it is (R85). -/
def supplyField (i : Fin 8) (v : Int) (s : State) : State :=
  if v = -32768 then s else applySupply i (clampInt (-400) 1500 v) s

/-- A field of a TEMP_SUPPLY was set to an end of its range (R85). -/
def supplyClamped (v : Int) : Bool := v != -32768 && clampInt (-400) 1500 v != v

/-- The reply fields of a TEMP_SUPPLY (R85). -/
def supplyBytes (u : ThermalUnit) : List Byte :=
  les16 u.sensors[4].value ++ les16 u.sensors[5].value ++
    [flagByte [u.sensors[4].valid, u.sensors[4].stale, u.sensors[4].takesPart, u.sensors[5].valid, u.sensors[5].stale,
      u.sensors[5].takesPart]]

/-- TEMP_SUPPLY (R85, R70, R73). -/
def serveTempSupply (p : List Byte) (s : State) : State × List Byte :=
  if p.length ≠ 4 then refuse stBadLength s
  else
    let t := judgeTrip (supplyField 5 (signed16At p 2) (supplyField 4 (signed16At p 0) s))
    (t, doneStatus (supplyClamped (signed16At p 0) || supplyClamped (signed16At p 2)) :: supplyBytes t.thu)

/-! ## THERMAL_CONFIG -/

/-- The settings of a THERMAL_CONFIG, each set to the nearer end of its range (R86). -/
def settingsOf (p : List Byte) : ThermalSettings :=
  { freshness := clampNat 1 30 (byteAt p 0)
    staleSubstitute := clampInt (-400) 1500 (signed16At p 1)
    criticalFan := clampInt 600 1000 (signed16At p 3)
    offThreshold := clampInt 400 1000 (signed16At p 5)
    trip := clampInt 800 1250 (signed16At p 7)
    wake := clampInt 400 1250 (signed16At p 9) }

/-- One entry of the derate table of a THERMAL_CONFIG, from byte `i` (R86). -/
def entryOf (p : List Byte) (i : Nat) : DerateEntry :=
  ⟨clampInt (-400) 1500 (signed16At p i), min 100 (byteAt p (i + 2))⟩

/-- The derate table of a THERMAL_CONFIG (R86). -/
def tableOf (p : List Byte) : Vector DerateEntry 4 := #v[entryOf p 11, entryOf p 14, entryOf p 17, entryOf p 20]

/-- The thresholds strictly increase and the factors do not increase (R74, R86). -/
def tableSound (t : Vector DerateEntry 4) : Bool :=
  decide (t[0].threshold < t[1].threshold) && decide (t[1].threshold < t[2].threshold) &&
    decide (t[2].threshold < t[3].threshold) && decide (t[1].factor ≤ t[0].factor) &&
    decide (t[2].factor ≤ t[1].factor) && decide (t[3].factor ≤ t[2].factor)

/-- An entry of the derate table in a payload. -/
def entryBytes (e : DerateEntry) : List Byte := les16 e.threshold ++ [byteOf e.factor]

/-- The 23-byte form of the thermal settings (R86). -/
def thermalBytes (u : ThermalUnit) : List Byte :=
  byteOf u.settings.freshness ::
    (les16 u.settings.staleSubstitute ++ les16 u.settings.criticalFan ++ les16 u.settings.offThreshold ++
      les16 u.settings.trip ++ les16 u.settings.wake ++ entryBytes u.table[0] ++ entryBytes u.table[1] ++
      entryBytes u.table[2] ++ entryBytes u.table[3])

/-- A supplied sensor under new settings (R70): a stale one takes the new substitute; an age at or past the freshness time
makes it stale, in every platform state (log 35). -/
def supplyUnderSettings (i : Fin 8) (s : State) : State :=
  let r := s.thu.sensors[i]
  if r.stale then setSensor i { r with value := s.thu.settings.staleSubstitute } s
  else if s.thu.settings.freshness * 1000 ≤ r.age then goStale i s
  else s

/-- THU and FNC take new settings and a new table (R86 step 3, R74); where both supplied sensors become stale, SUP0 comes
first (DESIGN CHOICE, log 45). The judgements follow R86's list, the trip before the wake condition (DESIGN CHOICE, log
52). -/
def takeThermal (settings : ThermalSettings) (table : Vector DerateEntry 4) (s : State) : State :=
  let s1 := supplyUnderSettings 5 (supplyUnderSettings 4 { s with thu.settings := settings, thu.table := table })
  let s2 := judgeWakeCondition (judgeTrip s1)
  let s3 := applyDerate { s2 with thu.heldEntry := heatingEntry s2.thu.table (chargeTemp s2.thu) }
  remakeDuties s3

/-- THERMAL_CONFIG (R86). -/
def serveThermalConfig (p : List Byte) (s : State) : State × List Byte :=
  if p.length = 0 then (s, stOk :: thermalBytes s.thu)
  else if p.length ≠ 23 then refuse stBadLength s
  else if !tableSound (tableOf p) then refuse stBadValue s
  else
    let t := takeThermal (settingsOf p) (tableOf p) s
    (t, doneStatus (thermalBytes { s.thu with settings := settingsOf p, table := tableOf p } != p) :: thermalBytes t.thu)

/-! ## FAN_CURVE_SET -/

/-- The fan of a fan byte of 0 or 1. -/
def fanOf (n : Nat) : FanId := if n = 0 then .fan0 else .fan1

/-- Point `i` of a FAN_CURVE_SET as given (R87). -/
def givenPoint (p : List Byte) (i : Nat) : CurvePoint := ⟨signed16At p (4 + 4 * i), le16At p (6 + 4 * i)⟩

/-- A point with its values set to their ranges (R87 step 3). -/
def clampPoint (c : CurvePoint) : CurvePoint := ⟨clampInt (-400) 1500 c.temp, min 1000 c.duty⟩

/-- Temperatures strictly increase and duties do not decrease along a curve (R76, R87). -/
def curveSound : List CurvePoint → Bool
  | a :: b :: rest => decide (a.temp < b.temp) && decide (a.duty ≤ b.duty) && curveSound (b :: rest)
  | _ => true

/-- A point of a curve in a payload. -/
def pointBytes (c : CurvePoint) : List Byte := les16 c.temp ++ le16 c.duty

/-- The reply fields of a FAN_CURVE_SET (R87). -/
def curveBytes (i : FanId) (f : FanRecord) : List Byte :=
  [byteOf i.code, byteOf f.hysteresis, f.mask, byteOf f.curve.length] ++ (f.curve.map pointBytes).flatten ++
    le16 f.curveValue

/-- A fan takes a curve, hysteresis and mask (R87). -/
def takeCurve (i : FanId) (curve : List CurvePoint) (hysteresis : Nat) (mask : Byte) (s : State) : State :=
  let t := controlTempOf s.thu.sensors mask
  let f := { s.fnc.fan.get i with curve, hysteresis, mask, controlTemp := t, curveValue := curveAt curve t }
  remakeFan i { s with fnc.fan := s.fnc.fan.set i f }

/-- FAN_CURVE_SET (R87). -/
def serveFanCurveSet (p : List Byte) (s : State) : State × List Byte :=
  let count := byteAt p 3
  let i := fanOf (byteAt p 0)
  if p.length ≠ 1 ∧ (p.length < 12 ∨ p.length ≠ 4 + 4 * count ∨ count < 2 ∨ 6 < count) then refuse stBadLength s
  else if 1 < byteAt p 0 then refuse stBadValue s
  else if (s.fnc.fan.get i).populated = false then refuse stNotPresent s
  else if p.length = 1 then (s, stOk :: curveBytes i (s.fnc.fan.get i))
  else
    let given := (List.range count).map (givenPoint p)
    let curve := given.map clampPoint
    let mask := byteOf (byteAt p 2)
    if mask = 0 ∨ curveSound curve = false then refuse stBadValue s
    else
      let t := takeCurve i curve (min 100 (byteAt p 1)) mask s
      (t, doneStatus (decide (100 < byteAt p 1) || curve != given) :: curveBytes i (t.fnc.fan.get i))

/-! ## FAN_OVERRIDE -/

/-- The override mode of its number (R88). -/
def modeOf (n : Nat) : OverrideMode :=
  match n with
  | 0 => .auto
  | 1 => .boost
  | _ => .manual

/-- The fans that a FAN_OVERRIDE names: 2 stands for every populated fan (R88). -/
def namedFans (s : State) (n : Nat) : List FanId :=
  if n = 2 then [FanId.fan0, .fan1].filter fun i => (s.fnc.fan.get i).populated else [fanOf n]

/-- The duty and time of a FAN_OVERRIDE reply: as applied; for AUTO both are ignored, and what the reply carries is not
stated (R88; log 33). -/
def overrideFields (mode : OverrideMode) (duty time : Nat) : List Byte :=
  match mode with
  | .auto => wordBytes Config.autoDuty ++ wordBytes Config.autoTime
  | _ => le16 duty ++ le16 time

/-- FAN_OVERRIDE (R88, R83). -/
def serveFanOverride (p : List Byte) (s : State) : State × List Byte :=
  let fan := byteAt p 0
  let mode := modeOf (byteAt p 1)
  if p.length ≠ 6 then refuse stBadLength s
  else if 2 < fan ∨ 2 < byteAt p 1 then refuse stBadValue s
  else if fan = 1 ∧ s.fnc.fan.fan1.populated = false then refuse stNotPresent s
  else if mode ≠ .auto ∧ isOn s = false then refuse stWrongState s
  else
    let duty := min 1000 (le16At p 2)
    let time := min 3600 (le16At p 4)
    let fans := namedFans s fan
    let t := fans.foldl (fun u i => setOverride i mode duty (if time = 0 then none else some time) u) s
    (t, [doneStatus (decide (1000 < le16At p 2) || decide (3600 < le16At p 4)), byteOf fan, byteOf mode.code] ++
      overrideFields mode duty time ++ (fans.map fun i => le16 (t.fnc.fan.get i).duty).flatten)

/-! ## THERMAL_STATUS_GET -/

/-- The three bytes of a sensor record (R89). -/
def sensorBytes (r : SensorRecord) : List Byte :=
  flagByte [r.valid, r.stale, r.substitute, r.takesPart] :: les16 r.value

/-- The override time left of a fan, 65535 for unlimited (R89). -/
def overrideTime (f : FanRecord) : Nat := f.overrideLeft.getD 65535

/-- The twelve bytes of a fan record; an unpopulated fan reports zeros (R89). -/
def fanBytes (f : FanRecord) : List Byte :=
  if f.populated then
    [flagByte [true, f.failed, decide (0 < f.spinLeft)], byteOf f.mode.code] ++ le16 f.applied ++ le16 f.curveValue ++
      les16 f.controlTemp ++ le16 f.rpm ++ le16 (overrideTime f)
  else List.replicate 12 0

/-- THERMAL_STATUS_GET (R89). -/
def serveThermalStatusGet (p : List Byte) (s : State) : State × List Byte :=
  if p.length ≠ 0 then refuse stBadLength s
  else
    (s, [stOk, byteOf s.thu.derate, byteOf s.thu.heldEntry.val, boolByte s.thu.trip] ++
      (s.thu.sensors.toList.map sensorBytes).flatten ++ fanBytes s.fnc.fan.fan0 ++ fanBytes s.fnc.fan.fan1)

/-! ## Board conversions and freshness -/

/-- The table is judged after a conversion that changes B1 or B2 (R74, R75). -/
def judgeDerate (before : ThermalUnit) (s : State) : State :=
  if before.sensors[1].value = s.thu.sensors[1].value ∧ before.sensors[2].value = s.thu.sensors[2].value then s
  else applyDerate { s with thu.heldEntry := nextHeldEntry s.thu }

/-- A board conversion: failures, then trip, wake condition and derate (R69, R73, R74), which no rule orders (DESIGN CHOICE,
log 52). -/
def boardConverted (cpu charger skin ambient : Int) (s : State) : State :=
  let s1 :=
    { s with
      inputs := { s.inputs with board0 := cpu, board1 := charger, board2 := skin, board3 := ambient } }
  judgeDerate s.thu (judgeWakeCondition (judgeTrip (convertBoard cpu charger skin ambient s1)))

/-- A supplied sensor's age reaches the freshness time: it runs in ON, for a sensor that is not stale (R70, R71, R73). -/
def freshnessReached (i : Fin 8) (s : State) : State :=
  if isOn s && !s.thu.sensors[i].stale then judgeTrip (goStale i s) else s

/-! ## Fan events -/

/-- FNC evaluates each populated fan, and the interval starts again (R77). -/
def evaluateFans (s : State) : State :=
  evaluateFan .fan1 (evaluateFan .fan0 { s with fnc.evalLeft := Config.evaluationMs })

/-- FNC with one fan record changed. -/
def modFan (i : FanId) (f : FanRecord → FanRecord) (s : State) : State :=
  { s with fnc.fan := s.fnc.fan.set i (f (s.fnc.fan.get i)) }

/-- The spin-up period ends: the applied duty becomes the duty (R81). -/
def spinUpEnded (i : FanId) (s : State) : State :=
  modFan i (fun f => if 0 < f.spinLeft then { f with spinLeft := 0, applied := f.duty } else f) s

/-- The runs of a fan after a window (R82): judged or not, with its rpm. -/
def countWindow (judged : Bool) (rpm : Nat) (f : FanRecord) : FanRecord :=
  let turning := decide (Config.stallRpm ≤ rpm)
  if f.failed then
    if judged && turning then
      if 3 ≤ f.recoveryRun + 1 then { f with failed := false, stallRun := 0, recoveryRun := 0 }
      else { f with recoveryRun := f.recoveryRun + 1 }
    else { f with recoveryRun := 0 }
  else if judged && !turning then
    if 3 ≤ f.stallRun + 1 then { f with failed := true, stallRun := 0, recoveryRun := 0 }
    else { f with stallRun := f.stallRun + 1 }
  else { f with stallRun := 0 }

/-- The window in progress counts for health: driven throughout, and no spin-up window (R82). -/
def windowJudged (f : FanRecord) : Bool := f.windowDriven && !f.windowSpin

/-- A window has ended: rpm, runs, and the next window (R82). -/
def windowEnded (pulses : Nat) (f : FanRecord) : FanRecord :=
  { countWindow (windowJudged f) (pulses * 30) f with
    rpm := pulses * 30, windowSpin := false, windowDriven := decide (0 < f.applied) }

/-- FAN_STALL is no longer active when no populated fan is FAILED (R82, R90). -/
def judgeStallEnd (s : State) : State := if anyFanFailed s.fnc then s else endFault .fanStall s

/-- What follows a change of health (R82): detection or end, notice, derate cap, duty. -/
def healthChanged (i : FanId) (failed : Bool) (s : State) : State :=
  let s1 :=
    if failed then raise (.fan i 0) (detectMild .fanStall (byteOf i.code) s)
    else raise (.fan i 1) (judgeStallEnd s)
  remakeFan i (applyDerate s1)

/-- A tachometer window of a populated fan ends (R82). A FAN_STALL kept over a controller restart with no fan FAILED ends
at the first window end of either populated fan, a window that is not judged for health among them (DESIGN CHOICE, log
60: R90 says 'from their first conversions and tachometer windows', R177 'at its first judgement', and neither says whether
a window that is not judged is one). -/
def tachEnded (i : FanId) (pulses : Nat) (s : State) : State :=
  let f := s.fnc.fan.get i
  if f.populated then
    let s1 := modFan i (windowEnded pulses) s
    let now := (windowEnded pulses f).failed
    if now = f.failed then judgeStallEnd s1 else healthChanged i now s1
  else s

/-- A timed override reaches its end (R83). -/
def overrideExpired (i : FanId) (s : State) : State :=
  let f := s.fnc.fan.get i
  if f.mode != .auto && f.overrideLeft.isSome then cancelOverride i s else s

/-! ## The meanings -/

/-- TEMP_SUPPLY (R85, R181). -/
def execTempSupply (payload : List Byte) (s : State) : Host.Outcome State Fault Refusal :=
  finish s (request 0x40 serveTempSupply payload s)

/-- THERMAL_CONFIG (R86, R181). -/
def execThermalConfig (payload : List Byte) (s : State) : Host.Outcome State Fault Refusal :=
  finish s (request 0x41 serveThermalConfig payload s)

/-- FAN_CURVE_SET (R87, R181). -/
def execFanCurveSet (payload : List Byte) (s : State) : Host.Outcome State Fault Refusal :=
  finish s (request 0x42 serveFanCurveSet payload s)

/-- FAN_OVERRIDE (R88, R181). -/
def execFanOverride (payload : List Byte) (s : State) : Host.Outcome State Fault Refusal :=
  finish s (request 0x43 serveFanOverride payload s)

/-- THERMAL_STATUS_GET (R89, R181). -/
def execThermalStatusGet (payload : List Byte) (s : State) : Host.Outcome State Fault Refusal :=
  finish s (request 0x44 serveThermalStatusGet payload s)

/-- BOARD_CONVERSION (R69, R73 to R75). -/
def execBoardConversion (cpu charger skin ambient : Int) (s : State) : Host.Outcome State Fault Refusal :=
  finish s (boardConverted cpu charger skin ambient s)

/-- FRESHNESS_TIME_REACHED (R70). -/
def execFreshnessTimeReached (sensor : SupplyId) (s : State) : Host.Outcome State Fault Refusal :=
  finish s (freshnessReached sensor.sensor s)

/-- FAN_EVALUATION (R77). -/
def execFanEvaluation (s : State) : Host.Outcome State Fault Refusal := finish s (evaluateFans s)

/-- SPIN_UP_END (R81). -/
def execSpinUpEnd (fan : FanId) (s : State) : Host.Outcome State Fault Refusal := finish s (spinUpEnded fan s)

/-- TACH_WINDOW_END (R82). -/
def execTachWindowEnd (fan : FanId) (pulses : Nat) (s : State) : Host.Outcome State Fault Refusal :=
  finish s (tachEnded fan pulses s)

/-- OVERRIDE_EXPIRY (R83). -/
def execOverrideExpiry (fan : FanId) (s : State) : Host.Outcome State Fault Refusal := finish s (overrideExpired fan s)

end Sys2Proof.Machine
end

