-- ==== Sys2Proof/Machine/KeyCommands.lean ====
section
/-! DEFINITION. The requests and events of chapters 5 and 6: KEY_CONFIG (R107), KEY_STATE_GET (R105), KEYMAP_SET and
KEYMAP_GET (R112, R113), BACKLIGHT_SET (R127), scan passes (R91, R92) and typematic expiry (R121). -/

namespace Sys2Proof.Machine

/-! ## KEY_CONFIG -/

/-- The number of positions that exist on the board: 144 or 128 (R91). -/
def positionCount (s : State) : Nat := if s.straps.columns18 then 144 else 128

/-- A position by its number, `none` from 144 on. -/
def positionOf (n : Nat) : Option Position := if h : n < 144 then some ⟨n, h⟩ else none

/-- The settings of a KEY_CONFIG, each set to the nearer end of its range (R106, R107). -/
def keySettingsOf (p : List Byte) : KeySettings :=
  { fn := positionOf (byteAt p 0)
    pressDebounce := clampNat 1 15 (byteAt p 1)
    releaseDebounce := clampNat 1 15 (byteAt p 2)
    rollover := clampNat 2 16 (byteAt p 3)
    scanPeriod := clampNat 1 8 (byteAt p 4)
    typeDelay := clampNat 250 1000 (le16At p 5)
    typePeriod := clampNat 30 500 (le16At p 7) }

/-- The Fn position of a payload: 255 for none (R107). -/
def fnByte (x : Option Position) : Byte :=
  match x with
  | none => 255
  | some p => byteOf p.val

/-- The 9-byte form of the settings (R107). -/
def keySettingsBytes (x : KeySettings) : List Byte :=
  [fnByte x.fn, byteOf x.pressDebounce, byteOf x.releaseDebounce, byteOf x.rollover, byteOf x.scanPeriod] ++
    le16 x.typeDelay ++ le16 x.typePeriod

/-- A scan pass begins (R91, R92). -/
def beginPass (s : State) : State := { s with kbs.passRunning := true, kbs.sinceStart := 0 }

/-- KBS takes its settings; a shorter scan period whose moment has gone by begins the next pass at once (R92, R107). A pass
in progress runs on, and the next begins at the first tick or SCAN_PASS_START after its end (DESIGN CHOICE, log 50). -/
def takeKeySettings (x : KeySettings) (s : State) : State :=
  let s1 := { s with kbs.settings := x }
  if s.kbs.mode = .active ∧ s.kbs.passRunning = false ∧ x.scanPeriod ≤ s.kbs.sinceStart then beginPass s1 else s1

/-- KEY_CONFIG (R107). -/
def serveKeyConfig (p : List Byte) (s : State) : State × List Byte :=
  let fn := byteAt p 0
  let x := keySettingsOf p
  if p.length = 0 then (s, stOk :: keySettingsBytes s.kbs.settings)
  else if p.length ≠ 9 then refuse stBadLength s
  else if positionCount s ≤ fn ∧ fn ≠ 255 then refuse stBadValue s
  else if x.rollover < (reportedSet s.kbs).length then refuse stWrongState s
  else (takeKeySettings x s, doneStatus (keySettingsBytes x != p) :: keySettingsBytes x)

/-! ## KEY_STATE_GET -/

/-- The eight positions of a column, as one byte of the reported-down set (R105). -/
def columnByte (x : Scanner) (c : Fin 18) : Byte :=
  flagByte ((List.finRange 8).map fun r => reportedDown x ⟨c.val * 8 + r.val, by omega⟩)

/-- The flags of the suppression causes (R105). -/
def Suppression.flags (x : Suppression) : List Bool := [x.closed, x.tablet, x.notOn]

/-- KEY_STATE_GET (R105). -/
def serveKeyStateGet (p : List Byte) (s : State) : State × List Byte :=
  if p.length ≠ 0 then refuse stBadLength s
  else
    (s, stOk :: (List.finRange 18).map (columnByte s.kbs) ++ le16 s.krp.keyLost ++
      [byteOf s.kbs.mode.code, flagByte s.kbs.suppression.flags])

/-! ## KEYMAP_SET, KEYMAP_GET -/

/-- The key-map entry of three bytes at byte `i` (R112). -/
def mapEntryAt (p : List Byte) (i : Nat) : MapEntry :=
  { base := byteOf (byteAt p i), fn := byteOf (byteAt p (i + 1)), modifier := bitOf (byteAt p (i + 2)) 0,
    isolated := bitOf (byteAt p (i + 2)) 1, repeats := bitOf (byteAt p (i + 2)) 2, wake := bitOf (byteAt p (i + 2)) 3 }

/-- The three bytes of a key-map entry (R112). -/
def mapEntryBytes (e : MapEntry) : List Byte := [e.base, e.fn, flagByte [e.modifier, e.isolated, e.repeats, e.wake]]

/-- The map with the entry of position `n` replaced. -/
def putEntry (m : Vector MapEntry 144) (n : Nat) (e : MapEntry) : Vector MapEntry 144 :=
  if h : n < 144 then m.set n e else m

/-- `n` entries of a payload, from byte `i` on, are written from position `first` on (R112). -/
def writeEntries (p : List Byte) (first : Nat) (m : Vector MapEntry 144) (n : Nat) : Vector MapEntry 144 :=
  (List.range n).foldl (fun m i => putEntry m (first + i) (mapEntryAt p (1 + 3 * i))) m

/-- KEYMAP_SET (R112). -/
def serveKeymapSet (p : List Byte) (s : State) : State × List Byte :=
  let n := (p.length - 1) / 3
  let first := byteAt p 0
  if p.length < 4 ∨ 49 < p.length ∨ p.length ≠ 1 + 3 * n then refuse stBadLength s
  else if positionCount s < first + n then refuse stBadValue s
  else if (List.range n).any fun i => decide (15 < byteAt p (3 + 3 * i)) then refuse stBadValue s
  else ({ s with kbs.map := writeEntries p first s.kbs.map n }, [stOk, byteOf first, byteOf n])

/-- KEYMAP_GET (R113). -/
def serveKeymapGet (p : List Byte) (s : State) : State × List Byte :=
  let first := byteAt p 0
  let asked := byteAt p 1
  let count := min (min 16 asked) (positionCount s - first)
  if p.length ≠ 2 then refuse stBadLength s
  else if positionCount s ≤ first ∨ asked = 0 then refuse stBadValue s
  else
    (s, [doneStatus (decide (count < asked)), byteOf first, byteOf count] ++
      (((s.kbs.map.toList.drop first).take count).map mapEntryBytes).flatten)

/-! ## BACKLIGHT_SET -/

/-- The reply fields of a BACKLIGHT_SET (R127). -/
def backlightBytes (s : State) : List Byte := [byteOf s.krp.backlight, boolByte (!suppressed s.kbs.suppression)]

/-- BACKLIGHT_SET (R127). -/
def serveBacklightSet (p : List Byte) (s : State) : State × List Byte :=
  if p.length = 0 then (s, stOk :: backlightBytes s)
  else if p.length ≠ 1 then refuse stBadLength s
  else
    let t := setBacklight (min 3 (byteAt p 0)) s
    (t, doneStatus (decide (3 < byteAt p 0)) :: backlightBytes t)

/-! ## Scan passes -/

/-- The pass period has gone by: a new pass begins (R92). -/
def passStarts (s : State) : State :=
  if s.kbs.mode ≠ .stopped ∧ s.kbs.passRunning = false then beginPass s else s

/-- `n` keyboard wakes are handed to LWU (R104, R134). -/
def keyboardWakes : Nat → State → State
  | 0, s => s
  | n + 1, s => keyboardWakes n (settingEvent .keyboard s)

/-- A scan pass ends with its samples and is evaluated; its keyboard wakes follow (R91, R104; log 17). A pass that was
abandoned is not evaluated (R92). -/
def passEnds (raw : Samples) (s : State) : State :=
  let s1 := { s with inputs.matrix := raw }
  if s.kbs.passRunning then
    let (s2, wakes) := evaluatePass raw s1
    keyboardWakes wakes s2
  else s1

/-! ## The meanings -/

/-- KEY_CONFIG (R107, R181). -/
def execKeyConfig (payload : List Byte) (s : State) : Host.Outcome State Fault Refusal :=
  finish s (request 0x50 serveKeyConfig payload s)

/-- KEY_STATE_GET (R105, R181). -/
def execKeyStateGet (payload : List Byte) (s : State) : Host.Outcome State Fault Refusal :=
  finish s (request 0x51 serveKeyStateGet payload s)

/-- KEYMAP_SET (R112, R181). -/
def execKeymapSet (payload : List Byte) (s : State) : Host.Outcome State Fault Refusal :=
  finish s (request 0x52 serveKeymapSet payload s)

/-- KEYMAP_GET (R113, R181). -/
def execKeymapGet (payload : List Byte) (s : State) : Host.Outcome State Fault Refusal :=
  finish s (request 0x53 serveKeymapGet payload s)

/-- BACKLIGHT_SET (R127, R181). -/
def execBacklightSet (payload : List Byte) (s : State) : Host.Outcome State Fault Refusal :=
  finish s (request 0x54 serveBacklightSet payload s)

/-- SCAN_PASS_START (R92). -/
def execScanPassStart (s : State) : Host.Outcome State Fault Refusal := finish s (passStarts s)

/-- SCAN_PASS_END (R91). -/
def execScanPassEnd (samples : Samples) (s : State) : Host.Outcome State Fault Refusal := finish s (passEnds samples s)

/-- TYPEMATIC_EXPIRY (R121). -/
def execTypematicExpiry (s : State) : Host.Outcome State Fault Refusal := finish s (typeExpired s)

end Sys2Proof.Machine
end

