-- ==== Sys2Proof/Machine/PlatformCommands.lean ====
section
/-! DEFINITION. The requests and events of chapters 7 and 8: WAKE_CONFIG, WAKE_STATUS and WAKE_TIMER_SET (R141 to R143),
lid and hinges (R129 to R132), external inputs (R135), the wake timer (R140), PLATFORM_REQUEST (R151, R161), the steps of the
sequencer (R149 to R154), power-good loss (R156), the button (R157, R158), the grace (R160) and the restart hold (R159). -/

namespace Sys2Proof.Machine

/-! ## WAKE_CONFIG -/

/-- LWU with one enable of every source set from a mask (R141). -/
def putEnables (standby off : Nat) (t : Vector WakeEntry 11) : Vector WakeEntry 11 :=
  t.mapIdx fun i e => { e with standbyEnable := bitOf standby i, offEnable := bitOf off i }

/-- The STANDBY enables as flags, or the OFF enables, in index order. -/
def enableFlags (pick : WakeEntry → Bool) (w : WakeUnit) : List Bool := w.table.toList.map pick

/-- The five-byte form of the wake settings (R141). -/
def wakeConfigBytes (w : WakeUnit) : List Byte :=
  mask16 (enableFlags (fun e => e.standbyEnable) w) ++ mask16 (enableFlags (fun e => e.offEnable) w) ++
    [flagByte [w.ext0.level, w.ext0.invert, w.ext1.level, w.ext1.invert]]

/-- An external input is taken under new settings: to LEVEL at the active level is a setting event (R135). -/
def takeExtSettings (i : WakeSource) (old new : ExtSettings) (high : Bool) (s : State) : State :=
  if old ≠ new ∧ new.level ∧ extActive new high then settingEvent i s else s

/-- A pending source has its enable for the present state turned on (R138). -/
def newlyEnabled (before after : State) : Bool :=
  allWakeSources.any fun i =>
    (before.lwu.get i).pending && !enabledIn before.psq.state (before.lwu.get i) &&
      enabledIn before.psq.state (after.lwu.get i)

/-- LWU takes the enables and the external settings (R141 step 4). Where both inputs become LEVEL at their active level, EXT0
has its event, and its wake judged, before EXT1 (DESIGN CHOICE, log 46). -/
def takeWakeConfig (standby off ext : Nat) (s : State) : State :=
  let ext0 : ExtSettings := ⟨bitOf ext 0, bitOf ext 1⟩
  let ext1 : ExtSettings := ⟨bitOf ext 2, bitOf ext 3⟩
  let s1 := { s with lwu := { s.lwu with table := putEnables standby off s.lwu.table, ext0, ext1 } }
  let s2 := takeExtSettings .ext1 s.lwu.ext1 ext1 s.inputs.ext1 (takeExtSettings .ext0 s.lwu.ext0 ext0 s.inputs.ext0 s1)
  if newlyEnabled s s1 then offerWake s2 else s2

/-- A mask with the POWER_BUTTON bit taken as set (R141 step 3). -/
def withButton (mask : Nat) : Nat := if mask % 2 = 0 then mask + 1 else mask

/-- WAKE_CONFIG (R141). -/
def serveWakeConfig (p : List Byte) (s : State) : State × List Byte :=
  let standby := le16At p 0
  let off := le16At p 2
  let ext := byteAt p 4
  if p.length = 0 then (s, stOk :: wakeConfigBytes s.lwu)
  else if p.length ≠ 5 then refuse stBadLength s
  else if 2047 < standby ∨ 2047 < off ∨ 15 < ext then refuse stBadValue s
  else
    let t := takeWakeConfig (withButton standby) (withButton off) ext s
    (t, doneStatus (decide (standby % 2 = 0) || decide (off % 2 = 0)) :: wakeConfigBytes t.lwu)

/-! ## WAKE_STATUS -/

/-- The sources that a clear mask names, in index order (R142). -/
def namedSources (mask : Nat) : List WakeSource := allWakeSources.filter fun i => bitOf mask i.index.val

/-- A named source's status and pending field are cleared (R142 step 2). -/
def clearSource (s : State) (i : WakeSource) : State :=
  { s with lwu := s.lwu.set i { s.lwu.get i with status := false, pending := false } }

/-- A held source is set again, with the wake judged (R136, R142 step 3). -/
def eventIfHeld (s : State) (i : WakeSource) : State := if sourceHeld s i then settingEvent i s else s

/-- LWU takes a WAKE_STATUS (R142): all named sources are cleared, then each held one is set again and its wake judged,
in index order (DESIGN CHOICE, log 46). -/
def takeWakeStatus (mask : Nat) (s : State) : State :=
  (namedSources mask).foldl eventIfHeld ((namedSources mask).foldl clearSource s)

/-- The statuses as flags in index order. -/
def statusFlags (w : WakeUnit) : List Bool := w.table.toList.map fun e => e.status

/-- The fields of a WAKE_STATUS reply after the statuses before the clear (R142). -/
def wakeStatusBytes (s : State) : List Byte :=
  mask16 (statusFlags s.lwu) ++ mask16 (s.lwu.table.toList.map fun e => e.pending) ++ [boolByte (wakeDue s)] ++
    wordBytes (s.lwu.cause.setWidth 16) ++ stampBytes s.lwu.causeStamp ++
    le32 (match s.lwu.wakeTimer with | some ms => secondsUp ms | none => 0) ++
    [boolByte s.lwu.lidClosed, byteOf s.lwu.posture.code]

/-- WAKE_STATUS (R142). -/
def serveWakeStatus (p : List Byte) (s : State) : State × List Byte :=
  if p.length ≠ 2 then refuse stBadLength s
  else if 2047 < le16At p 0 then refuse stBadValue s
  else
    let t := takeWakeStatus (le16At p 0) s
    (t, stOk :: mask16 (statusFlags s.lwu) ++ wakeStatusBytes t)

/-! ## The wake timer -/

/-- The wake timer counts in STANDBY and OFF (R140). -/
def timerCounts (p : PlatformState) : Bool := p == .standby || p == .off

/-- WAKE_TIMER_SET (R143). -/
def serveWakeTimerSet (p : List Byte) (s : State) : State × List Byte :=
  if p.length ≠ 4 then refuse stBadLength s
  else
    let time := min Config.wakeTimerMax (le32At p 0)
    let armed := decide (0 < time)
    ({ s with lwu.wakeTimer := if armed then some (time * 1000) else none },
      doneStatus (decide (Config.wakeTimerMax < le32At p 0)) :: le32 time ++
        [boolByte (armed && timerCounts s.psq.state)])

/-- The wake timer reaches 0: it is cancelled, and TIMER is set (R140). -/
def wakeTimerRunsOut (s : State) : State := settingEvent .timer { s with lwu.wakeTimer := none }

/-- The wake timer expires where it is armed and counts (R140). -/
def wakeTimerExpired (s : State) : State :=
  if s.lwu.wakeTimer.isSome && timerCounts s.psq.state then wakeTimerRunsOut s else s

/-! ## Lid and hinges -/

/-- A settle timer after the raw input has changed: it starts when the input differs from the filtered level, and is
cancelled when it returns to it (R129). -/
def settleTimer (raw filtered : Bool) (ms : Nat) : Option Nat := if raw = filtered then none else some ms

/-- The raw lid input changes (R129). -/
def lidInput (closed : Bool) (s : State) : State :=
  if s.inputs.lidClosed = closed then s
  else
    { s with
      inputs.lidClosed := closed, lwu.lidTimer := settleTimer closed s.lwu.lidClosed Config.lidSettleMs }

/-- The posture of a lid state and a hinge posture (R131). -/
def postureOf (lidClosed : Bool) (hinge : Posture) : Posture := if lidClosed then .closed else hinge

/-- Steps 2 and 3 of R132: the posture has changed from `old` to the one now in force. -/
def postureChanged (old : Posture) (s : State) : State :=
  if s.lwu.posture = old then s else updateKeyboard (raise (.posture old s.lwu.posture) s)

/-- A lid change (R132). -/
def lidChanged (closed : Bool) (s : State) : State :=
  let posture := postureOf closed s.lwu.hingePosture
  let s1 := raise (.lid closed posture) { s with lwu.lidClosed := closed, lwu.posture := posture }
  postureChanged s.lwu.posture (if closed then s1 else settingEvent .lidOpen s1)

/-- The lid settle timer expires (R129). -/
def lidSettled (s : State) : State :=
  if s.lwu.lidTimer.isNone then s
  else
    let s1 := { s with lwu.lidTimer := none }
    if s.inputs.lidClosed = s.lwu.lidClosed then s1 else lidChanged s.inputs.lidClosed s1

/-- The raw input of a hinge sensor changes (R130). -/
def hingeInput (h : HingeId) (active : Bool) (s : State) : State :=
  match h with
  | .h1 =>
    if s.inputs.hinge1 = active then s
    else
      { s with
        inputs.hinge1 := active, lwu.hinge1Timer := settleTimer active s.lwu.hinge1 Config.hingeSettleMs }
  | .h2 =>
    if s.inputs.hinge2 = active then s
    else
      { s with
        inputs.hinge2 := active, lwu.hinge2Timer := settleTimer active s.lwu.hinge2 Config.hingeSettleMs }

/-- The hinge posture of a pair, `none` for the invalid pair (0,1) (R131). -/
def hingePair : Bool → Bool → Option Posture
  | false, false => some .laptop
  | true, false => some .tent
  | true, true => some .tablet
  | false, true => none

/-- A hinge filter has completed: LWU decodes the pair and derives the posture (R131, R132). -/
def hingeDecoded (oldPair : Option Posture) (s : State) : State :=
  let pair := hingePair s.lwu.hinge1 s.lwu.hinge2
  let hinge := pair.getD s.lwu.hingePosture
  let s1 := { s with lwu.hingePosture := hinge, lwu.posture := postureOf s.lwu.lidClosed hinge }
  let s2 :=
    if pair.isNone && oldPair.isSome then detectMild .postureInput 2 s1
    else if pair.isSome && oldPair.isNone then endFault .postureInput s1
    else s1
  postureChanged s.lwu.posture s2

/-- A hinge settle timer expires (R130). -/
def hingeSettled (h : HingeId) (s : State) : State :=
  let old := hingePair s.lwu.hinge1 s.lwu.hinge2
  match h with
  | .h1 =>
    if s.lwu.hinge1Timer.isNone then s
    else hingeDecoded old { s with lwu.hinge1Timer := none, lwu.hinge1 := s.inputs.hinge1 }
  | .h2 =>
    if s.lwu.hinge2Timer.isNone then s
    else hingeDecoded old { s with lwu.hinge2Timer := none, lwu.hinge2 := s.inputs.hinge2 }

/-! ## External inputs -/

/-- An external wake input changes; a change to its active level is a setting event under both triggers (R135). -/
def extInput (i : ExtId) (high : Bool) (s : State) : State :=
  match i with
  | .ext0 =>
    if s.inputs.ext0 = high then s
    else
      let s1 := { s with inputs.ext0 := high }
      if extActive s.lwu.ext0 high then settingEvent .ext0 s1 else s1
  | .ext1 =>
    if s.inputs.ext1 = high then s
    else
      let s1 := { s with inputs.ext1 := high }
      if extActive s.lwu.ext1 high then settingEvent .ext1 s1 else s1

/-! ## PLATFORM_REQUEST -/

/-- A transition out of ON that was accepted: 0 for STANDBY, else OFF (R151 step 3). -/
def takeTransition (request : Nat) (s : State) : State :=
  if request = 0 then
    changeState .suspending { s with psq.step := .delay, psq.stepLeft := s.psq.settings.standbyDelay }
  else
    changeState .stopping
      { s with
        psq.step := .delay, psq.stepLeft := s.psq.settings.offDelay, psq.stopKind := .requested,
        psq.lastStop := .requested }

/-- PLATFORM_REQUEST with one byte (R151). -/
def serveTransition (p : List Byte) (s : State) : State × List Byte :=
  if 1 < byteAt p 0 then refuse stBadValue s
  else if isOn s = false then refuse stWrongState s
  else
    let t := takeTransition (byteAt p 0) s
    (t, [stOk, byteOf t.psq.state.code])

/-- The settings of a PLATFORM_REQUEST, each set to the nearer end of its range (R161). -/
def seqSettingsOf (p : List Byte) : SeqSettings :=
  { standbyDelay := clampNat 10 1000 (le16At p 0), offDelay := clampNat 10 1000 (le16At p 2),
    override := clampNat 2 10 (byteAt p 4), grace := clampNat 5 300 (le16At p 5), critical := clampNat 1 10 (byteAt p 7),
    start := clampNat 1 20 (byteAt p 8) }

/-- The 9-byte form of the settings (R161). -/
def seqSettingsBytes (x : SeqSettings) : List Byte :=
  le16 x.standbyDelay ++ le16 x.offDelay ++ [byteOf x.override] ++ le16 x.grace ++ [byteOf x.critical, byteOf x.start]

/-- The grace time left in s, rounded up; 0 while not running (R161). -/
def graceSeconds (s : State) : Nat :=
  match s.psq.grace with
  | some ms => secondsUp ms
  | none => 0

/-- The fields of the platform record in a PLATFORM_REQUEST reply (R161). -/
def platformBytes (s : State) : List Byte :=
  [byteOf s.psq.state.code, byteOf s.psq.step.code] ++ le16 s.psq.stepLeft ++
    [byteOf s.psq.lastStop.code,
      flagByte [s.psq.sre, s.psq.mre, s.psq.prst, s.inputs.spg, s.inputs.mpg, s.psq.pressed],
      flagByte [s.psq.grace.isSome, s.psq.critical, s.psq.restartHold.isSome]] ++
    le16 (graceSeconds s) ++ le16 s.psq.hold ++ seqSettingsBytes s.psq.settings

/-- The hold time has reached the override time (R158). -/
def overrideTaken (s : State) : State :=
  let s1 := { s with psq.overrideReached := true }
  if s.psq.state = .off then s1
  else
    detectMild .buttonOverride (byteOf s.psq.state.code) (forcedStop .button { s1 with psq.overrideFired := true })

/-- PSQ compares the hold time with the override time: the button is PRESSED by a press, and this press has not reached
the override time before (R158; log 23). -/
def overrideOpen (s : State) : Bool :=
  s.psq.pressed && s.psq.holding && !s.psq.overrideFired && !s.psq.overrideReached

/-- PSQ takes all six settings (R161): a hold time at or past a new override time fires it, and critical energy is then
judged, an order that R161 does not state (DESIGN CHOICE, log 56). -/
def takeSeqSettings (x : SeqSettings) (s : State) : State :=
  let s1 := { s with psq.settings := x }
  judgeCritical (if overrideOpen s1 && decide (x.override * 1000 ≤ s1.psq.hold) then overrideTaken s1 else s1)

/-- PLATFORM_REQUEST with any other payload (R161). -/
def servePlatformSettings (p : List Byte) (s : State) : State × List Byte :=
  let x := seqSettingsOf p
  if p.length = 0 then (s, stOk :: platformBytes s)
  else if p.length = 1 then serveTransition p s
  else if p.length ≠ 9 then refuse stBadLength s
  else (takeSeqSettings x s, doneStatus (seqSettingsBytes x != p) :: seqSettingsBytes x)

/-! ## The steps of the sequencer -/

/-- SPG rises (R149). -/
def spgRises (s : State) : State :=
  let s1 := { s with inputs.spg := true }
  if s.psq.state = .starting ∧ s.psq.step = .spgWait then enterMpgWait s1 else s1

/-- PSQ waits for MPG (R149, R153). -/
def waitsForMpg (s : State) : Bool :=
  (s.psq.state == .starting || s.psq.state == .resuming) && s.psq.step == .mpgWait

/-- MPG rises (R149, R153). -/
def mpgRises (s : State) : State :=
  let s1 := { s with inputs.mpg := true }
  if waitsForMpg s then mpgArrived s1 else s1

/-- SPG_WAIT or MPG_WAIT runs out (R149, R153). -/
def stepWaitExpired (s : State) : State :=
  match s.psq.state, s.psq.step with
  | .starting, .spgWait => railFail 0 s
  | .starting, .mpgWait => railFail 1 s
  | .resuming, .mpgWait => railFail 2 s
  | _, _ => s

/-- SPG is watched (R156). -/
def spgWatched (x : Sequencer) : Bool := x.sre && !(x.state == .starting && x.step == .spgWait)

/-- MPG is watched (R156). -/
def mpgWatched (x : Sequencer) : Bool := x.mre && x.step != .mpgWait

/-- A power-good input falls (R156). -/
def powerGoodFalls (i : GoodId) (s : State) : State :=
  match i with
  | .spg =>
    let s1 := { s with inputs.spg := false }
    if spgWatched s.psq then railFail 3 s1 else s1
  | .mpg =>
    let s1 := { s with inputs.mpg := false }
    if mpgWatched s.psq then railFail 4 s1 else s1

/-- RESET_HOLD runs out (R149, R150). -/
def resetHoldExpired (s : State) : State := if s.psq.step = .resetHold then arriveOn s else s

/-- The standby delay runs out (R152). -/
def standbyDelayExpired (s : State) : State := if s.psq.state = .suspending then arriveStandby s else s

/-- The off delay runs out (R154). -/
def offDelayExpired (s : State) : State :=
  if s.psq.state = .stopping ∧ s.psq.step = .delay then arriveOff (dropAll s) else s

/-! ## The button -/

/-- The raw button input changes (R157). -/
def buttonInput (pressed : Bool) (s : State) : State :=
  if s.inputs.button = pressed then s
  else
    { s with
      inputs.button := pressed, psq.buttonTimer := settleTimer pressed s.psq.pressed Config.buttonSettleMs }

/-- A press (R157). -/
def buttonPressed (s : State) : State :=
  settingEvent .powerButton
    { s with
      psq.pressed := true, psq.hold := 0, psq.holding := true, psq.overrideFired := false,
      psq.overrideReached := false, psq.pressInOn := isOn s }

/-- A release (R157). -/
def buttonReleased (s : State) : State :=
  let s1 := { s with psq.pressed := false, psq.holding := false }
  if !s.psq.overrideFired && s.psq.pressInOn && isOn s then raise (.powerButton s.psq.hold) s1 else s1

/-- The button settle timer expires (R157). -/
def buttonSettled (s : State) : State :=
  if s.psq.buttonTimer.isNone then s
  else
    let s1 := { s with psq.buttonTimer := none }
    if s.inputs.button = s.psq.pressed then s1 else if s.inputs.button then buttonPressed s1 else buttonReleased s1

/-- The hold time reaches the override time (R158). -/
def overrideTimeReached (s : State) : State :=
  if overrideOpen s then overrideTaken { s with psq.hold := max s.psq.hold (s.psq.settings.override * 1000) } else s

/-! ## The grace and the restart hold -/

/-- The grace expires (R160). -/
def graceExpired (s : State) : State :=
  if s.psq.grace.isNone then s
  else
    let s1 := forcedStop .grace (endGrace 2 false { s with psq.grace := some 0 })
    detectMild .criticalShutdown (byteOf s1.pks.rsoc) s1

/-- The restart hold ends, and critical energy is judged (R159). -/
def restartHoldEnded (s : State) : State :=
  if s.psq.restartHold.isNone then s else judgeCritical { s with psq.restartHold := none }

/-! ## The meanings -/

/-- WAKE_CONFIG (R141, R181). -/
def execWakeConfig (payload : List Byte) (s : State) : Host.Outcome State Fault Refusal :=
  finish s (request 0x60 serveWakeConfig payload s)

/-- WAKE_STATUS (R142, R181). -/
def execWakeStatus (payload : List Byte) (s : State) : Host.Outcome State Fault Refusal :=
  finish s (request 0x61 serveWakeStatus payload s)

/-- WAKE_TIMER_SET (R143, R181). -/
def execWakeTimerSet (payload : List Byte) (s : State) : Host.Outcome State Fault Refusal :=
  finish s (request 0x62 serveWakeTimerSet payload s)

/-- PLATFORM_REQUEST with one byte (R151, R181). -/
def execPlatformRequestTransition (value : Byte) (s : State) : Host.Outcome State Fault Refusal :=
  finish s (request 0x68 serveTransition [value] s)

/-- PLATFORM_REQUEST with any other payload (R161, R181). -/
def execPlatformRequestSettings (payload : List Byte) (s : State) : Host.Outcome State Fault Refusal :=
  finish s (request 0x68 servePlatformSettings payload s)

/-- LID_INPUT_CHANGE (R129). -/
def execLidInputChange (closed : Bool) (s : State) : Host.Outcome State Fault Refusal := finish s (lidInput closed s)

/-- LID_SETTLE_EXPIRY (R129, R132). -/
def execLidSettleExpiry (s : State) : Host.Outcome State Fault Refusal := finish s (lidSettled s)

/-- HINGE_INPUT_CHANGE (R130). -/
def execHingeInputChange (hinge : HingeId) (active : Bool) (s : State) : Host.Outcome State Fault Refusal :=
  finish s (hingeInput hinge active s)

/-- HINGE_SETTLE_EXPIRY (R130, R131). -/
def execHingeSettleExpiry (hinge : HingeId) (s : State) : Host.Outcome State Fault Refusal :=
  finish s (hingeSettled hinge s)

/-- EXT_INPUT_CHANGE (R135). -/
def execExtInputChange (input : ExtId) (high : Bool) (s : State) : Host.Outcome State Fault Refusal :=
  finish s (extInput input high s)

/-- WAKE_TIMER_EXPIRY (R140). -/
def execWakeTimerExpiry (s : State) : Host.Outcome State Fault Refusal := finish s (wakeTimerExpired s)

/-- BUTTON_INPUT_CHANGE (R157). -/
def execButtonInputChange (pressed : Bool) (s : State) : Host.Outcome State Fault Refusal :=
  finish s (buttonInput pressed s)

/-- BUTTON_SETTLE_EXPIRY (R157). -/
def execButtonSettleExpiry (s : State) : Host.Outcome State Fault Refusal := finish s (buttonSettled s)

/-- OVERRIDE_TIME_REACHED (R158). -/
def execOverrideTimeReached (s : State) : Host.Outcome State Fault Refusal := finish s (overrideTimeReached s)

/-- SPG_RISE (R149). -/
def execSpgRise (s : State) : Host.Outcome State Fault Refusal := finish s (spgRises s)

/-- MPG_RISE (R149, R153). -/
def execMpgRise (s : State) : Host.Outcome State Fault Refusal := finish s (mpgRises s)

/-- STEP_WAIT_EXPIRY (R149, R153). -/
def execStepWaitExpiry (s : State) : Host.Outcome State Fault Refusal := finish s (stepWaitExpired s)

/-- POWER_GOOD_LOSS (R156). -/
def execPowerGoodLoss (input : GoodId) (s : State) : Host.Outcome State Fault Refusal :=
  finish s (powerGoodFalls input s)

/-- RESET_HOLD_EXPIRY (R150). -/
def execResetHoldExpiry (s : State) : Host.Outcome State Fault Refusal := finish s (resetHoldExpired s)

/-- STANDBY_DELAY_EXPIRY (R152). -/
def execStandbyDelayExpiry (s : State) : Host.Outcome State Fault Refusal := finish s (standbyDelayExpired s)

/-- OFF_DELAY_EXPIRY (R154). -/
def execOffDelayExpiry (s : State) : Host.Outcome State Fault Refusal := finish s (offDelayExpired s)

/-- GRACE_EXPIRY (R160). -/
def execGraceExpiry (s : State) : Host.Outcome State Fault Refusal := finish s (graceExpired s)

/-- RESTART_HOLD_END (R159). -/
def execRestartHoldEnd (s : State) : Host.Outcome State Fault Refusal := finish s (restartHoldEnded s)

end Sys2Proof.Machine
end

