-- ==== Sys2Proof/Machine/FaultCommands.lean ====
section
/-! DEFINITION. The requests and events of chapter 9: FAULT_GET (R172), FAULT_CLEAR (R173), FAULT_MASK_SET (R174),
CONTAINMENT_SET (R175), INDICATOR_SET (R176) and the LED phases (R169, R171). -/

namespace Sys2Proof.Machine

/-! ## FAULT_GET -/

/-- The flags of one field of all twenty records, in index order. -/
def faultFlags (pick : FaultRecord → Bool) (f : FaultUnit) : List Bool := f.record.toList.map pick

/-- The statuses (R172, R173). -/
def faultStatuses (f : FaultUnit) : List Byte := mask24 (faultFlags (fun r => r.status) f)

/-- The masks (R172, R174). -/
def faultMasks (f : FaultUnit) : List Byte := mask24 (faultFlags (fun r => r.masked) f)

/-- The summary of a FAULT_GET (R172). -/
def faultSummary (s : State) : List Byte :=
  faultStatuses s.flt ++ mask24 (faultFlags (fun r => r.active) s.flt) ++ faultMasks s.flt ++
    [byteOf s.flt.mode.code, byteOf s.flt.level.code,
      flagByte [s.flt.throttle, s.srs.overload, dischargeCapable s]]

/-- The seven bytes of a fault record (R172). -/
def faultBytes (r : FaultRecord) : List Byte :=
  [flagByte [r.status, r.active, r.masked], byteOf r.count] ++ stampBytes r.firstStamp ++ [r.detail]

/-- FAULT_GET (R172). -/
def serveFaultGet (p : List Byte) (s : State) : State × List Byte :=
  let first := byteAt p 0
  let asked := byteAt p 1
  let count := min (min 5 asked) (20 - first)
  if p.length = 0 then (s, stOk :: faultSummary s ++ [0, 0])
  else if p.length ≠ 2 then refuse stBadLength s
  else if 19 < first ∨ asked = 0 then refuse stBadValue s
  else
    (s, doneStatus (decide (count < asked)) :: faultSummary s ++ [byteOf first, byteOf count] ++
      (((s.flt.record.toList.drop first).take count).map faultBytes).flatten)

/-! ## FAULT_CLEAR -/

/-- A mask names a kind (section 9.4). -/
def named (mask : Nat) (k : FaultKind) : Bool := bitOf mask k.index.val

/-- The record of a kind that FAULT_CLEAR names (R173 step 1). -/
def clearedFault (r : FaultRecord) : FaultRecord := { r with status := false, count := 0, firstStamp := 0 }

/-- Step 1 of R173. -/
def clearNamed (mask : Nat) (s : State) : State :=
  { s with flt.record := s.flt.record.mapIdx fun i r => if bitOf mask i then clearedFault r else r }

/-- Step 2 of R173 at both packs: pack A loses its causes before pack B, where R29 and R173 give no order (DESIGN CHOICE,
log 53). -/
def clearPackCauses (mask : Nat) (s : State) : State :=
  let charged := named mask .packOverCharged
  let hot := named mask .packOverTemp
  clearCauses charged hot .b (clearCauses charged hot .a s)

/-- A kind that is named and still active is detected again with its last detail (R173 step 3). -/
def redetect (mask : Nat) (s : State) (k : FaultKind) : State :=
  if named mask k && (s.flt.get k).active then detect k (s.flt.get k).detail s else s

/-- Step 5 of R173. -/
def releaseAtClear (mask : Nat) (s : State) : State :=
  if mask = 0 ∨ severeStatus s.flt ∨ severeActive s.flt then s else setLevel .none s

/-- Steps 1 to 3 of R173. -/
def clearAndRedetect (mask : Nat) (s : State) : State :=
  allFaultKinds.foldl (redetect mask) (clearPackCauses mask (clearNamed mask s))

/-- FAULT_CLEAR (R173). -/
def serveFaultClear (p : List Byte) (s : State) : State × List Byte :=
  let mask := le24At p 0
  if p.length ≠ 3 then refuse stBadLength s
  else if 1048575 < mask then refuse stBadValue s
  else
    let t := clearAndRedetect mask s
    let u := releaseAtClear mask (refreshChargeLed t)
    (u, stOk :: faultStatuses t.flt ++ [byteOf u.flt.level.code])

/-! ## FAULT_MASK_SET, CONTAINMENT_SET -/

/-- FAULT_MASK_SET (R174). -/
def serveFaultMaskSet (p : List Byte) (s : State) : State × List Byte :=
  let mask := le24At p 0
  if p.length = 0 then (s, stOk :: faultMasks s.flt)
  else if p.length ≠ 3 then refuse stBadLength s
  else if 1048575 < mask then refuse stBadValue s
  else
    let t := { s with flt.record := s.flt.record.mapIdx fun i r => { r with masked := bitOf mask i } }
    (t, stOk :: faultMasks t.flt)

/-- The containment mode of its number (R175). -/
def containmentOf (n : Nat) : Option ContainmentMode :=
  match n with
  | 0 => some .notify
  | 1 => some .stopCharge
  | 2 => some .shed
  | 3 => some .forceOff
  | _ => none

/-- The reply fields of a CONTAINMENT_SET (R175). -/
def containmentBytes (f : FaultUnit) : List Byte := [byteOf f.mode.code, byteOf f.level.code]

/-- CONTAINMENT_SET (R175). -/
def serveContainmentSet (p : List Byte) (s : State) : State × List Byte :=
  if p.length = 0 then (s, stOk :: containmentBytes s.flt)
  else if p.length ≠ 1 then refuse stBadLength s
  else
    match containmentOf (byteAt p 0) with
    | none => refuse stBadValue s
    | some mode =>
      let t := { s with flt.mode := mode }
      (t, stOk :: containmentBytes t.flt)

/-! ## INDICATOR_SET -/

/-- The pattern of its number; AUTO, 0, is none (R176). -/
def patternOf (n : Nat) : Option Pattern :=
  match n with
  | 1 => some .off
  | 2 => some .solid
  | 3 => some .slow
  | 4 => some .fast
  | _ => none

/-- The colour byte of a reply; where the manual names no colour it is a free value (log 22). -/
def colourByte (c : Option Colour) : Byte :=
  match c with
  | some x => byteOf x.code
  | none => Config.unnamedColour

/-- The override in force as a reply carries it: 0 for none, else the pattern (R176). -/
def overrideByte (x : Option Show) : Byte :=
  match x with
  | none => 0
  | some w => byteOf w.pattern.code

/-- The fields of an LED after an INDICATOR_SET (R176). -/
def ledBytes (led : LedRecord) : List Byte :=
  [overrideByte led.override, boolByte led.invert, byteOf led.shown.pattern.code, colourByte led.shown.colour]

/-- An LED takes an override, or none, and an invert (R176). -/
def setLed (power : Bool) (override : Option Show) (invert : Bool) (s : State) : State :=
  if power then refreshPowerLed { s with ind.power := { s.ind.power with override, invert } }
  else refreshChargeLed { s with ind.charge := { s.ind.charge with override, invert } }

/-- INDICATOR_SET (R176): the colour is ignored for the power LED and for AUTO. -/
def serveIndicatorSet (p : List Byte) (s : State) : State × List Byte :=
  let led := byteAt p 0
  if p.length ≠ 4 then refuse stBadLength s
  else if 1 < led ∨ 4 < byteAt p 1 ∨ 1 < byteAt p 2 ∨ 1 < byteAt p 3 then refuse stBadValue s
  else
    let colour := if led = 0 then none else some (colourOf (byteAt p 2))
    let override := (patternOf (byteAt p 1)).map fun x => ⟨x, colour⟩
    let t := setLed (led = 0) override (byteAt p 3 = 1) s
    (t, [stOk, byteOf led] ++ ledBytes (if led = 0 then t.ind.power else t.ind.charge))

/-! ## LED phases -/

/-- The pattern has phases (R169). -/
def blinks (x : Pattern) : Bool := x == .slow || x == .fast

/-- The next phase of an LED (R169). -/
def nextPhase (led : LedRecord) : LedRecord := { led with lit := !led.lit, left := phaseMs led.shown.pattern }

/-- A phase of the charge LED ends; a dark phase that ends lowers blink left, and at 0 the LED returns to the pattern of
R169 (R171). -/
def chargePhaseEnds (s : State) : State :=
  let s1 := { s with ind.charge := nextPhase s.ind.charge }
  if !s.ind.charge.lit && decide (0 < s.ind.blink) then
    let s2 := { s1 with ind.blink := s.ind.blink - 1 }
    if s2.ind.blink = 0 then refreshChargeLed s2 else s2
  else s1

/-- A phase of an LED ends (R169, R171). -/
def phaseEnds (led : LedId) (s : State) : State :=
  match led with
  | .power => if blinks s.ind.power.shown.pattern then { s with ind.power := nextPhase s.ind.power } else s
  | .charge => if blinks s.ind.charge.shown.pattern then chargePhaseEnds s else s

/-! ## The meanings -/

/-- FAULT_GET (R172, R181). -/
def execFaultGet (payload : List Byte) (s : State) : Host.Outcome State Fault Refusal :=
  finish s (request 0x70 serveFaultGet payload s)

/-- FAULT_CLEAR (R173, R181). -/
def execFaultClear (payload : List Byte) (s : State) : Host.Outcome State Fault Refusal :=
  finish s (request 0x71 serveFaultClear payload s)

/-- FAULT_MASK_SET (R174, R181). -/
def execFaultMaskSet (payload : List Byte) (s : State) : Host.Outcome State Fault Refusal :=
  finish s (request 0x72 serveFaultMaskSet payload s)

/-- CONTAINMENT_SET (R175, R181). -/
def execContainmentSet (payload : List Byte) (s : State) : Host.Outcome State Fault Refusal :=
  finish s (request 0x73 serveContainmentSet payload s)

/-- INDICATOR_SET (R176, R181). -/
def execIndicatorSet (payload : List Byte) (s : State) : Host.Outcome State Fault Refusal :=
  finish s (request 0x74 serveIndicatorSet payload s)

/-- LED_PHASE_END (R169, R171). -/
def execLedPhaseEnd (led : LedId) (s : State) : Host.Outcome State Fault Refusal := finish s (phaseEnds led s)

end Sys2Proof.Machine
end

