-- ==== Sys2Proof/Machine/BusCommands.lean ====
section
/-! DEFINITION. The events of chapters 1 to 3: the barrel (R4), port alerts and intervals (R5), settling (R8), SWITCHING
(R12), P_sys samples (R13, R15), the pack bus (R19, R20), presence (R23), schedules (R24, R26), channel fault inputs (R58)
and the stage timers (R50). -/

namespace Sys2Proof.Machine

/-! ## Sources -/

/-- The barrel detect input changes, and the identification input is read (R4). An unpopulated barrel is not watched. -/
def barrelDetect (active : Bool) (reading : AdapterReading) (s : State) : State :=
  if s.inputs.barrelDetect = active then s
  else
    let s1 := { s with inputs.barrelDetect := active, inputs.adapter := reading }
    let r := s.srs.barrel
    if !r.populated then s1
    else updateSource .barrel (if active then barrelRecord reading r else goneSource r) s1

/-- The adapter identification input changes (R4). -/
def adapterChanges (reading : AdapterReading) (s : State) : State :=
  let s1 := { s with inputs.adapter := reading }
  if s.srs.barrel.present then updateSource .barrel (barrelRecord reading s.srs.barrel) s1 else s1

/-- A port's 2 s interval ends (R5). -/
def portIntervalEnds (p : PortId) (s : State) : State :=
  if (s.srs.get p.source).present then
    requestRead p { s with srs.portWait := s.srs.portWait.set p Config.portReadMs }
  else s

/-- A P_sys sample: stored, handed to CHC, and judged for overload, in the order of R13's text (R13, R15; log 58). -/
def pSysSampled (reading : Nat) (s : State) : State :=
  judgeOverload (chargeRefresh true [] { s with srs.pSys := min Config.pSysMax reading })

/-! ## The pack bus -/

/-- An attempt on the bus ends, with the data line as PBC then finds it (R19, R20). -/
def busAttemptEnds (result : AttemptResult) (lineHigh : Bool) (s : State) : State :=
  attemptEnded result (lineLevel lineHigh s)

/-- An attempt has not finished 25 ms after it began (R19). -/
def attemptTimesOut (lineHigh : Bool) (s : State) : State := attemptEnded .notAcked (lineLevel lineHigh s)

/-- A recovery of the bus ends (R20). -/
def busRecovers (lineHigh : Bool) (s : State) : State := recoveryEnded lineHigh (lineLevel lineHigh s)

/-! ## Packs -/

/-- The presence inputs with one pack's level replaced. -/
def withPresence (p : PackId) (active : Bool) (i : Inputs) : Inputs :=
  match p with
  | .a => { i with packA := active }
  | .b => { i with packB := active }

/-- A pack presence input changes (R23). An unpopulated pack's input is not watched. -/
def presenceChanges (p : PackId) (active : Bool) (s : State) : State :=
  let s1 := { s with inputs := withPresence p active s.inputs }
  let r := s.pks.record.get p
  if !r.populated || r.present == active then s1
  else if active then packInserted p s1
  else packRemoved p s1

/-- The identification interval of a pack ends (R24). -/
def identificationFalls (p : PackId) (s : State) : State :=
  if (s.pks.schedule.get p).identLeft.isSome then
    modSchedule p (fun x => { x with identLeft := none, identDue := true }) s
  else s

/-- The poll interval of a pack ends (R26). -/
def pollFalls (p : PackId) (s : State) : State :=
  if (s.pks.schedule.get p).pollLeft.isSome then
    modSchedule p (fun x => { x with pollLeft := none, pollDue := true }) s
  else s

/-! ## Charge channels and stage timers -/

/-- The channel fault inputs with one pack's level replaced. -/
def withChannelFault (p : PackId) (active : Bool) (i : Inputs) : Inputs :=
  match p with
  | .a => { i with channelFaultA := active }
  | .b => { i with channelFaultB := active }

/-- The fault input goes active: a detection while the channel is enabled, and the CHANNEL bar either way (R58, R42). -/
def channelFails (p : PackId) (s : State) : State :=
  if 0 < (s.chc.context.get p).targetCurrent then
    chargeRefresh false []
      (detect .chargerFault (byteOf p.code) { s with chc.channelDetected := s.chc.channelDetected.set p true })
  else chargeRefresh false [] s

/-- The fault input goes inactive (R58). -/
def channelRecovers (p : PackId) (s : State) : State :=
  let s1 := { s with chc.channelDetected := s.chc.channelDetected.set p false }
  chargeRefresh false [] (if s.chc.channelDetected.get p.other then s1 else endFault .chargerFault s1)

/-- A channel fault input changes (R58). -/
def channelFaultChanges (p : PackId) (active : Bool) (s : State) : State :=
  if channelFault s.inputs p = active then s
  else
    let s1 := { s with inputs := withChannelFault p active s.inputs }
    if active then channelFails p s1 else channelRecovers p s1

/-! ## The meanings -/

/-- BARREL_DETECT_CHANGE (R4). -/
def execBarrelDetectChange (active : Bool) (reading : AdapterReading) (s : State) : Host.Outcome State Fault Refusal :=
  finish s (barrelDetect active reading s)

/-- ADAPTER_IDENTIFICATION_CHANGE (R4). -/
def execAdapterIdentificationChange (reading : AdapterReading) (s : State) : Host.Outcome State Fault Refusal :=
  finish s (adapterChanges reading s)

/-- PORT_ALERT (R5). -/
def execPortAlert (port : PortId) (s : State) : Host.Outcome State Fault Refusal := finish s (requestRead port s)

/-- PORT_READ_INTERVAL (R5). -/
def execPortReadInterval (port : PortId) (s : State) : Host.Outcome State Fault Refusal :=
  finish s (portIntervalEnds port s)

/-- SETTLE_TIME_REACHED (R8). -/
def execSettleTimeReached (source : SourceId) (s : State) : Host.Outcome State Fault Refusal :=
  finish s (sourceSettled source s)

/-- SWITCHING_EXPIRY (R12). -/
def execSwitchingExpiry (s : State) : Host.Outcome State Fault Refusal := finish s (switchingExpired s)

/-- P_SYS_SAMPLE (R13). -/
def execPSysSample (reading : Nat) (s : State) : Host.Outcome State Fault Refusal := finish s (pSysSampled reading s)

/-- BUS_ATTEMPT_END (R19). -/
def execBusAttemptEnd (result : AttemptResult) (lineHigh : Bool) (s : State) : Host.Outcome State Fault Refusal :=
  finish s (busAttemptEnds result lineHigh s)

/-- ATTEMPT_TIMEOUT (R19). -/
def execAttemptTimeout (lineHigh : Bool) (s : State) : Host.Outcome State Fault Refusal :=
  finish s (attemptTimesOut lineHigh s)

/-- BUS_RECOVERY_END (R20). -/
def execBusRecoveryEnd (lineHigh : Bool) (s : State) : Host.Outcome State Fault Refusal :=
  finish s (busRecovers lineHigh s)

/-- PACK_PRESENCE_CHANGE (R23). -/
def execPackPresenceChange (pack : PackId) (active : Bool) (s : State) : Host.Outcome State Fault Refusal :=
  finish s (presenceChanges pack active s)

/-- IDENTIFICATION_DUE (R24). -/
def execIdentificationDue (pack : PackId) (s : State) : Host.Outcome State Fault Refusal :=
  finish s (identificationFalls pack s)

/-- POLL_DUE (R26). -/
def execPollDue (pack : PackId) (s : State) : Host.Outcome State Fault Refusal := finish s (pollFalls pack s)

/-- CHANNEL_FAULT_INPUT_CHANGE (R58). -/
def execChannelFaultInputChange (pack : PackId) (active : Bool) (s : State) : Host.Outcome State Fault Refusal :=
  finish s (channelFaultChanges pack active s)

/-- REST_END (R50). -/
def execRestEnd (pack : PackId) (s : State) : Host.Outcome State Fault Refusal := finish s (restEnded pack s)

/-- STAGE_LIMIT_EXPIRY (R50). -/
def execStageLimitExpiry (pack : PackId) (s : State) : Host.Outcome State Fault Refusal :=
  finish s (limitExpired pack s)

end Sys2Proof.Machine
end

