-- ==== Sys2Proof/Machine/Resets.lean ====
section
/-! DEFINITION. Power-on reset and the controller restart: the reset section of each chapter (R18, R36, R37, R67, R90,
R108, R128, R144, R162, R177, R188, R189, R200). Both put every block at its first values and then run one bring-up, in
which the blocks make their first judgements. -/

namespace Sys2Proof.Machine

/-! ## First values -/

/-- SRS before its first inputs (R18): `restart` holds back the judgement of SOURCE_INVALID until each port is re-read
(R177). -/
def firstSelector (straps : Straps) (restart : Bool) : Selector :=
  { barrel := absentSource straps.barrelFitted false, port1 := absentSource true false,
    port2 := absentSource true false, active := none, switching := false, switchLeft := 0, switchReplaced := false,
    pin := none, margin := 5, pSys := 0, overload := false, overloadRun := 0, portWait := ⟨0, 0⟩, awaitRead := ⟨restart, restart⟩ }

/-- PBC: the bus free, PORT2 as if it had had the last turn, and the first contract reads due (R36, R21, R5). -/
def firstBus : BusController :=
  { running := none, turn := none, slot := none, lastTurn := .port2, recoveryFails := 0, portDue := ⟨true, true⟩ }

/-- A pack record at start: IDENTIFY for a populated pack that is present, else ABSENT (R37). -/
def firstPack (populated active : Bool) : PackRecord :=
  if populated && active then { absentPack populated with present := true, state := .identify }
  else absentPack populated

/-- The schedule of a pack's poller at start (R37). -/
def firstSchedule (r : PackRecord) : PackSchedule := { idleSchedule with identDue := r.present }

/-- PKS at start, its switches still to be set (R37). -/
def firstPacks (straps : Straps) (i : Inputs) (restart : Bool) : PackSupervisor :=
  let a := firstPack true i.packA
  let b := firstPack straps.packs2 i.packB
  { record := ⟨a, b⟩, schedule := ⟨firstSchedule a, firstSchedule b⟩,
    unjudged := ⟨restart && a.present, restart && b.present⟩, rsoc := 0, snapshot := none }

/-- CHC at start, with the budget record's outputs 0 (R67). -/
def firstCharge : ChargeController :=
  { context := ⟨absentContext [defaultStage], absentContext [defaultStage]⟩, policy := defaultPolicy,
    budget :=
      { active := none, switching := false, vSrc := 0, iSrc := 0, margin := 5, pSys := 0, derate := 100, level := .none,
        order := .balanced, pInMax := 0, pAvail := 0, pChg := 0, pBudget := 0,
        packs := ⟨absentPackBudget, absentPackBudget⟩, stamp := 0 }
    handed := ⟨absentPack true, absentPack true⟩, channelDetected := ⟨false, false⟩ }

/-- THU before its first conversion (R90). -/
def firstThermal : ThermalUnit :=
  { sensors := Vector.replicate 8 emptySensor, settings := defaultThermal, table := defaultTable, heldEntry := 0,
    derate := 100, trip := false, wakeCondition := false }

/-- FNC before its first control temperatures (R90). -/
def firstFans (straps : Straps) : FanController :=
  { fan := ⟨restingFan true 0x11, restingFan straps.fans2 0x25⟩, evalLeft := Config.evaluationMs }

/-- KBS before its initial pass (R108). -/
def firstScanner : Scanner :=
  { keys := Vector.replicate 144 upKey, last := 0, map := Vector.ofFn defaultMapEntry, settings := defaultKeySettings,
    mode := .stopped, passRunning := false, sinceStart := 0, suppression := ⟨false, false, true⟩,
    freshStart := false }

/-- LWU from its raw inputs: filters at once, every settle timer stopped, and the posture decoded (R144). -/
def firstWake (i : Inputs) (table : Vector WakeEntry 11) (cause : WakeMask) (stamp : Stamp) : WakeUnit :=
  let hinge := (hingePair i.hinge1 i.hinge2).getD .laptop
  { lidClosed := i.lidClosed, lidTimer := none, hinge1 := i.hinge1, hinge1Timer := none, hinge2 := i.hinge2,
    hinge2Timer := none, hingePosture := hinge, posture := postureOf i.lidClosed hinge, table, ext0 := ⟨false, false⟩,
    ext1 := ⟨false, false⟩, cause, causeStamp := stamp, wakeTimer := none }

/-- PSQ after power-on reset (R162). -/
def firstSequencer (i : Inputs) : Sequencer :=
  { state := .off, step := .none, stepLeft := 0, stopKind := .none, lastStop := .none, lastRest := .off, sre := false,
    mre := false, prst := true, pressed := i.button, buttonTimer := none, pressInOn := false, overrideFired := false,
    overrideReached := false, hold := 0, holding := false, grace := none, critical := false, restartHold := none,
    settings := defaultSeqSettings }

/-- PSQ after a controller restart (R162). -/
def restartedSequencer (i : Inputs) (x : Sequencer) : Sequencer :=
  { firstSequencer i with
    state := x.state, step := x.step, stepLeft := x.stepLeft, stopKind := x.stopKind, lastStop := x.lastStop,
    lastRest := x.lastRest, sre := x.sre, mre := x.mre, prst := x.prst, grace := x.grace,
    restartHold := some Config.restartHoldMs }

/-- The wake-source table after a controller restart: statuses and pending fields kept, enables at their defaults
(R144). A kept pending source whose default enable is on is due at once (DESIGN CHOICE, log 63). -/
def restartedTable (t : Vector WakeEntry 11) : Vector WakeEntry 11 :=
  t.zipWith (fun kept fresh => { fresh with status := kept.status, pending := kept.pending }) defaultWakeTable

/-- FLT after power-on reset (R177). -/
def firstFaults : FaultUnit := { record := defaultFaults, mode := .stopCharge, level := .none, throttle := false }

/-- FLT after a controller restart: records and level kept, masks and mode at their defaults (R177). -/
def restartedFaults (f : FaultUnit) : FaultUnit :=
  { f with
    record := f.record.zipWith (fun kept fresh => { kept with masked := fresh.masked }) defaultFaults
    mode := .stopCharge }

/-! ## Bring-up -/

/-- A key position after the initial pass (R108). -/
def initialKey (closed : Bool) : KeyEntry := if closed then silentKey .latent else upKey

/-- KBS makes its initial pass, and takes its suppression causes and scan mode (R108). -/
def bringKeyboard (s : State) : State :=
  let last := scannedSamples s s.inputs.matrix
  let causes : Suppression := ⟨s.lwu.posture == .closed, s.lwu.posture == .tablet, !isOn s⟩
  let mode := scanModeOf s.psq.state causes
  { s with
    kbs :=
      { s.kbs with
        keys := Vector.ofFn fun p => initialKey (last.getLsbD p.val), last, suppression := causes, mode,
        passRunning := mode != .stopped, freshStart := s.psq.state == .starting } }

/-- LWU reports whether the pair is invalid (R144, R131). -/
def bringPosture (s : State) : State :=
  if (hingePair s.lwu.hinge1 s.lwu.hinge2).isNone then detectMild .postureInput 2 s else endFault .postureInput s

/-- SRS reads a populated barrel that is attached (R18, R4). -/
def bringBarrel (s : State) : State :=
  if s.srs.barrel.populated && s.inputs.barrelDetect then
    updateSource .barrel (barrelRecord s.inputs.adapter s.srs.barrel) s
  else s

/-- CHC takes the pack records and makes states and budget from them, with no notice (R67; log 26). -/
def bringCharge (s : State) : State :=
  let s1 := { s with chc.handed := s.pks.record }
  recompute { s1 with chc.context := ⟨derivedContext s1 .a, derivedContext s1 .b⟩ }

/-- PKS ends the kept pack faults when no pack is left to be judged (R177). -/
def bringPackFaults (s : State) : State :=
  if s.pks.unjudged.a || s.pks.unjudged.b then s
  else endFault .packCommLost (endFault .packOverTemp (endFault .packOverCharged s))

/-- THU makes its first conversion, and the held entry and D from it (R90). -/
def bringThermal (s : State) : State :=
  let i := s.inputs
  let s1 := convertBoard i.board0 i.board1 i.board2 i.board3 s
  let s2 := { s1 with thu.heldEntry := heatingEntry s1.thu.table (chargeTemp s1.thu) }
  { s2 with thu.derate := derateOf s2 }

/-- A fan's first control temperature and curve value (R90). -/
def bringFan (i : FanId) (s : State) : State :=
  let f := s.fnc.fan.get i
  if f.populated then
    let t := controlTempOf s.thu.sensors f.mask
    remakeFan i { s with fnc.fan := s.fnc.fan.set i { f with controlTemp := t, curveValue := curveAt f.curve t } }
  else s

/-- THU reports the trip and the wake condition as they are first judged (R90). -/
def bringConditions (s : State) : State :=
  let s1 := if tripHolds s.thu then s else endFault .thermalTrip s
  judgeWakeCondition (judgeTrip (endFault .supplyStale s1))

/-- SRS and CHC report what is not in force at start (R177). -/
def bringEnds (s : State) : State := endFault .chargerFault (endFault .sourceOverload s)

/-- The blocks make their first judgements, in an order among the blocks that is the model's (DESIGN CHOICE, log 26); the
sources are judged while both ports are still to be read. -/
def bringUp (s : State) : State :=
  let s1 := bringEnds (bringPackFaults (setSwitches (bringBarrel (bringPosture (bringKeyboard s)))))
  let s2 := bringCharge (bringThermal s1)
  let s3 := bringFan .fan1 (bringFan .fan0 s2)
  bringConditions (refreshChargeLed (refreshPowerLed (judgeThrottle s3)))

/-! ## Power-on reset -/

/-- Every block at its power-on values. -/
def powerOnBase (straps : Straps) (i : Inputs) (pending : List Instr) : State :=
  { uptime := 0, straps, inputs := i, srs := firstSelector straps false, pbc := firstBus,
    pks := firstPacks straps i false, chc := firstCharge, thu := firstThermal, fnc := firstFans straps,
    kbs := firstScanner, krp := freshReporter, lwu := firstWake i defaultWakeTable 0 0, psq := firstSequencer i,
    flt := firstFaults, ind := { power := darkLed, charge := darkLed, blink := 0 }, lkp := freshLink, rpm := freshMemory,
    pending }

/-- Power-on reset (R2 and the reset sections): the straps are sampled and every block begins. -/
def powerOn (straps : Straps) (i : Inputs) (pending : List Instr) : State :=
  busGrant (bringUp (powerOnBase straps i pending))

/-! ## Controller restart -/

/-- Every block at its controller-restart values: uptime, straps, inputs and what the reset sections keep stand. Both
LEDs are derived from dark records, so a pattern that was shown before the restart too begins with a fresh lit phase (DESIGN
CHOICE, log 64: R177 has IND derive both LEDs and says nothing of their phases). -/
def restartBase (s : State) : State :=
  { uptime := s.uptime, straps := s.straps, inputs := s.inputs, srs := firstSelector s.straps true, pbc := firstBus,
    pks := firstPacks s.straps s.inputs true, chc := firstCharge, thu := firstThermal, fnc := firstFans s.straps,
    kbs := firstScanner, krp := freshReporter,
    lwu := firstWake s.inputs (restartedTable s.lwu.table) s.lwu.cause s.lwu.causeStamp,
    psq := restartedSequencer s.inputs s.psq, flt := restartedFaults s.flt,
    ind := { power := darkLed, charge := darkLed, blink := 0 },
    lkp := { freshLink with errors := s.lkp.errors, restarted := true },
    rpm := { freshMemory with corrected := s.rpm.corrected }, pending := s.pending }

/-- The controller restart (R188): it takes place once its reply has been sent or discarded. -/
def controllerRestart (s : State) : State := bringUp (restartBase s)

end Sys2Proof.Machine
end

