-- ==== Sys2Proof/Machine/LinkCommands.lean ====
section
/-! DEFINITION. The requests and events of chapters 10 and 11, with the two resets that a command can bring: PING (R186),
LINK_START (R185), STATUS_GET (R187), CONTROLLER_RESTART (R188), LINK_SETUP (R193), QUEUE_READ (R196, R197), ATTN_LEVEL_SET
(R199), unknown types (R181), link errors (R178 to R180), sent replies (R181) and line breaks (R184). -/

namespace Sys2Proof.Machine

/-! ## Link requests -/

/-- PING (R186). -/
def servePing (p : List Byte) (s : State) : State × List Byte :=
  if 55 < p.length then refuse stBadLength s else (s, stOk :: p)

/-- LINK_START (R185). -/
def serveLinkStart (p : List Byte) (s : State) : State × List Byte :=
  if p.length ≠ 0 then refuse stBadLength s else ({ s with lkp.run := true }, [stOk])

/-- The flags of the straps (R187). -/
def strapFlags (x : Straps) : List Bool := [x.packs2, x.fans2, x.columns18, x.baud1M, x.barrelFitted]

/-- STATUS_GET (R187). -/
def serveStatusGet (p : List Byte) (s : State) : State × List Byte :=
  if p.length ≠ 0 then refuse stBadLength s
  else
    (s, [stOk, boolByte s.lkp.run] ++ le16 s.lkp.errors ++ stampBytes s.uptime ++
      [boolByte s.lkp.restarted, flagByte (strapFlags s.straps), byteOf s.psq.state.code,
        byteOf (sourceCode s.srs.active), byteOf s.flt.level.code] ++
      le16 s.rpm.keys.length ++
      [byteOf s.rpm.notices.length, byteOf s.rpm.attnLevel, flagByte [s.rpm.attnLow, s.flt.throttle]])

/-- CONTROLLER_RESTART (R188): the reply is made, and the request keeps the service slot. -/
def serveRestart (p : List Byte) (s : State) : State :=
  if p.length ≠ 0 then deliver (replyTo 0x04 [stBadLength]) s
  else deliver ⟨⟨replyType 0x04, [stOk]⟩, true⟩ s

/-- A frame of a type that names no request (R181). -/
def serveUnknown (_ : List Byte) (s : State) : State × List Byte := refuse stUnknownType s

/-! ## LINK_SETUP -/

/-- The areas of a LINK_SETUP are sound: not empty, within 64 units, and disjoint (R193 step 3, R192). -/
def areasSound (key notice : Area) : Bool :=
  decide (key.start < key.stop) && decide (notice.start < notice.stop) && decide (key.stop ≤ 64) &&
    decide (notice.stop ≤ 64) && (decide (key.stop ≤ notice.start) || decide (notice.stop ≤ key.start))

/-- The six values of a LINK_SETUP as in force (R193). -/
def setupBytes (r : ReportMemory) : List Byte :=
  [byteOf r.keyArea.start, byteOf r.keyArea.stop, byteOf r.noticeArea.start, byteOf r.noticeArea.stop,
    byteOf r.attnLevel, byteOf r.correctedLimit]

/-- RPM lays the queues out (R193): both are emptied, and a corrected counter at or above the new limit is reported with
detail 2. ATTN is judged as the queues are emptied and goes high, and the detection comes after it: where it raises a
FAULT notice, that entry is queued and ATTN follows it low, if its level asks for it (DESIGN CHOICE, log 62). -/
def layOut (key notice : Area) (level limit : Nat) (s : State) : State :=
  let reached := decide (limit ≤ s.rpm.corrected)
  let s1 :=
    { s with
      rpm :=
        judgeAttn
          { s.rpm with
            keyArea := key, noticeArea := notice, keys := [], notices := [], attnLevel := level,
            correctedLimit := limit, corrected := if reached then 0 else s.rpm.corrected } }
  if reached then detectMild .ramCorrectedLimit 2 s1 else s1

/-- LINK_SETUP (R193, R185). -/
def serveLinkSetup (p : List Byte) (s : State) : State × List Byte :=
  let key : Area := ⟨byteAt p 0, byteAt p 1⟩
  let notice : Area := ⟨byteAt p 2, byteAt p 3⟩
  if p.length ≠ 6 then refuse stBadLength s
  else if s.lkp.run then refuse stWrongState s
  else if !areasSound key notice then refuse stBadValue s
  else
    let t := layOut key notice (min 7 (byteAt p 4)) (max 1 (byteAt p 5)) s
    (t, doneStatus (decide (7 < byteAt p 4) || decide (byteAt p 5 = 0)) ::
      (le16 s.rpm.keys.length ++ [byteOf s.rpm.notices.length] ++ setupBytes t.rpm))

/-! ## QUEUE_READ -/

/-- An entry's words are read: what RPM reports for them, and whether the entry is dropped (R197). RAM_CORRECTED_LIMIT is
reported before RAM_UNCORRECTABLE, whichever word comes first (DESIGN CHOICE, log 10). -/
def readWords (queue : Byte) (words : List WordCheck) (s : State) : State × Bool :=
  let (corrected, bad) := checkWords words
  let (r, reports) := correctWords queue corrected s.rpm
  (takeReports (if bad then reports ++ [(.ramUncorrectable, queue)] else reports) { s with rpm := r }, bad)

/-- The oldest key events are read and removed until `want` good ones are found or the queue is empty (R196). -/
def readKeys : Nat → Nat → State → State × List KeyEvent
  | 0, _, s => (s, [])
  | _, 0, s => (s, [])
  | fuel + 1, want + 1, s =>
    match s.rpm.keys with
    | [] => (s, [])
    | e :: rest =>
      let (t, bad) := readWords 0 [e.w0, e.w1] { s with rpm := judgeAttn { s.rpm with keys := rest } }
      if bad then readKeys fuel (want + 1) t
      else
        let (u, es) := readKeys fuel want t
        (u, e.event :: es)

/-- The oldest notices are read and removed likewise (R196). -/
def readNotices : Nat → Nat → State → State × List StoredNotice
  | 0, _, s => (s, [])
  | _, 0, s => (s, [])
  | fuel + 1, want + 1, s =>
    match s.rpm.notices with
    | [] => (s, [])
    | e :: rest =>
      let (t, bad) :=
        readWords 1 [e.w0, e.w1, e.w2, e.w3] { s with rpm := judgeAttn { s.rpm with notices := rest } }
      if bad then readNotices fuel (want + 1) t
      else
        let (u, es) := readNotices fuel want t
        (u, e :: es)

/-- QUEUE_READ of the KEY queue (R196). The status is OK_ADJUSTED for a maximum above the limit, also where the queue is
empty (DESIGN CHOICE, log 66: R196 gives a read of an empty queue the status OK too). -/
def readKeyQueue (most : Nat) (s : State) : State × List Byte :=
  let (t, es) := readKeys s.rpm.keys.length (min 6 most) s
  (t, [doneStatus (decide (6 < most)), 0, byteOf es.length] ++ le16 t.rpm.keys.length ++
    (es.map KeyEvent.bytes).flatten)

/-- QUEUE_READ of the NOTICE queue (R196). Reports made on the way may queue a FAULT notice, which the loop then finds:
the fuel allows for it. The status of a read of an empty queue is as for the KEY queue (DESIGN CHOICE, log 66). -/
def readNoticeQueue (most : Nat) (s : State) : State × List Byte :=
  let (t, es) := readNotices (s.rpm.notices.length + 4) (min 3 most) s
  (t, [doneStatus (decide (3 < most)), 1, byteOf es.length] ++ le16 t.rpm.notices.length ++
    (es.map StoredNotice.bytes).flatten)

/-- QUEUE_READ (R196). -/
def serveQueueRead (p : List Byte) (s : State) : State × List Byte :=
  let most := byteAt p 1
  if p.length ≠ 2 then refuse stBadLength s
  else if 1 < byteAt p 0 ∨ most = 0 then refuse stBadValue s
  else if byteAt p 0 = 0 then readKeyQueue most s
  else readNoticeQueue most s

/-! ## ATTN_LEVEL_SET -/

/-- The reply fields of an ATTN_LEVEL_SET (R199). -/
def attnBytes (r : ReportMemory) : List Byte :=
  [byteOf r.attnLevel] ++ le16 r.noticeLost ++
    [byteOf r.corrected, byteOf r.correctedLimit, byteOf r.keyArea.start, byteOf r.keyArea.stop,
      byteOf r.noticeArea.start, byteOf r.noticeArea.stop]

/-- ATTN_LEVEL_SET (R199). -/
def serveAttnLevelSet (p : List Byte) (s : State) : State × List Byte :=
  if p.length = 0 then (s, stOk :: attnBytes s.rpm)
  else if p.length ≠ 1 then refuse stBadLength s
  else
    let t := { s with rpm := judgeAttn { s.rpm with attnLevel := min 7 (byteAt p 0) } }
    (t, doneStatus (decide (7 < byteAt p 0)) :: attnBytes t.rpm)

/-! ## Events on the line -/

/-- A byte whose stop bit is at space is lost: the frame being assembled is discarded (R178). A frame that waits is
complete and stays. -/
def framingErrors (s : State) : State := countError 0 (if assemblyWaits s then s else huntAgain s)

/-- A byte completes while a frame waits for room: it is lost (R178). -/
def byteOverruns (s : State) : State := if assemblyWaits s then countError 1 s else s

/-- A byte other than the frame mark is taken in HUNT (R179); while a frame waits it is an overrun (R178). -/
def byteSkipped (s : State) : State := countError (if assemblyWaits s then 1 else 3) s

/-- 5 ms pass after the last of the bytes taken since a frame mark (R179). -/
def gapTimesOut (taken : List Byte) (s : State) : State := gapRunsOut (taken.foldl takeByte s)

/-- A length byte above 56 is taken (R180). -/
def lengthFaults (type length : Byte) (s : State) : State := faultyFrame 5 3 (linkFault 2 type length) s

/-- A completed frame's check byte differs from its CRC-8 (R180). -/
def checkFaults (type : Byte) (payload : List Byte) (s : State) : State :=
  faultyFrame 4 (4 + payload.length) (linkFault 1 type (byteOf payload.length)) s

/-- The transmitter finishes a frame (R181, R188). -/
def replySent (s : State) : State :=
  match s.lkp.replies with
  | [] => s
  | o :: rest => if o.restarts then controllerRestart s else takeRoom { s with lkp.replies := rest }

/-- A line break has lasted 2 ms (R184, R188). -/
def lineBreaks (s : State) : State := if restartPending s then controllerRestart s else linkReset s

/-! ## The meanings -/

/-- POWER_ON_RESET (R2 and the reset sections). -/
def execPowerOnReset (straps : Straps) (inputs : Inputs) (s : State) : Host.Outcome State Fault Refusal :=
  .next (powerOn straps inputs s.pending)

/-- PING (R186, R181). -/
def execPing (payload : List Byte) (s : State) : Host.Outcome State Fault Refusal :=
  finish s (request 0x01 servePing payload s)

/-- LINK_START (R185, R181). -/
def execLinkStart (payload : List Byte) (s : State) : Host.Outcome State Fault Refusal :=
  finish s (request 0x02 serveLinkStart payload s)

/-- STATUS_GET (R187, R181). -/
def execStatusGet (payload : List Byte) (s : State) : Host.Outcome State Fault Refusal :=
  finish s (request 0x03 serveStatusGet payload s)

/-- CONTROLLER_RESTART (R188, R181). -/
def execControllerRestart (payload : List Byte) (s : State) : Host.Outcome State Fault Refusal :=
  finish s (receive 0x04 payload (serveRestart payload) s)

/-- LINK_SETUP (R193, R181). -/
def execLinkSetup (payload : List Byte) (s : State) : Host.Outcome State Fault Refusal :=
  finish s (request 0x05 serveLinkSetup payload s)

/-- QUEUE_READ (R196, R181). -/
def execQueueRead (payload : List Byte) (s : State) : Host.Outcome State Fault Refusal :=
  finish s (request 0x06 serveQueueRead payload s)

/-- ATTN_LEVEL_SET (R199, R181). -/
def execAttnLevelSet (payload : List Byte) (s : State) : Host.Outcome State Fault Refusal :=
  finish s (request 0x07 serveAttnLevelSet payload s)

/-- UNKNOWN_TYPE (R181, R182). -/
def execUnknownType (type : Byte) (payload : List Byte) (s : State) : Host.Outcome State Fault Refusal :=
  finish s (request type serveUnknown payload s)

/-- FRAMING_ERROR (R178). -/
def execFramingError (s : State) : Host.Outcome State Fault Refusal := finish s (framingErrors s)

/-- BYTE_OVERRUN (R178). -/
def execByteOverrun (s : State) : Host.Outcome State Fault Refusal := finish s (byteOverruns s)

/-- SKIPPED_BYTE (R179): every value but the frame mark is skipped alike. -/
def execSkippedByte (_ : Byte) (s : State) : Host.Outcome State Fault Refusal := finish s (byteSkipped s)

/-- GAP_TIMEOUT (R179). -/
def execGapTimeout (taken : List Byte) (s : State) : Host.Outcome State Fault Refusal := finish s (gapTimesOut taken s)

/-- LENGTH_FAULT (R180). -/
def execLengthFault (type length : Byte) (s : State) : Host.Outcome State Fault Refusal :=
  finish s (lengthFaults type length s)

/-- CHECK_FAULT (R180): the check byte received decides only that the frame is faulty. -/
def execCheckFault (type : Byte) (payload : List Byte) (_ : Byte) (s : State) : Host.Outcome State Fault Refusal :=
  finish s (checkFaults type payload s)

/-- REPLY_SENT (R181). -/
def execReplySent (s : State) : Host.Outcome State Fault Refusal := finish s (replySent s)

/-- LINE_BREAK (R184). -/
def execLineBreak (s : State) : Host.Outcome State Fault Refusal := finish s (lineBreaks s)

end Sys2Proof.Machine
end

