-- ==== Sys2Proof/Machine/Clock.lean ====
section
/-! DEFINITION. One millisecond with no command (DESIGN CHOICE, log 1): every count and timer of the manual moves by 1 ms
(R1 and the rules named below), then each expiry that is due is taken in a fixed order (log 36). What brings data from
outside (a P_sys sample, a board conversion, a tachometer window, a scan pass's samples, the bus) is left to commands
(log 3). -/

namespace Sys2Proof.Machine

/-! ## Counting -/

/-- A wait that runs is 1 ms shorter. -/
def shorten (x : Option Nat) : Option Nat := x.map (· - 1)

/-- A record's settle time runs while it is present and valid (R8). -/
def countSettle (r : SourceRecord) : SourceRecord :=
  if r.present && r.valid && !r.settled then { r with settle := min Config.settleMs (r.settle + 1) } else r

/-- SRS: settle times, the SWITCHING interval, and the ports' 2 s intervals (R5, R8, R12). -/
def countSelector (x : Selector) : Selector :=
  { x with
    barrel := countSettle x.barrel, port1 := countSettle x.port1, port2 := countSettle x.port2,
    switchLeft := x.switchLeft - 1, switchReplaced := false, portWait := ⟨x.portWait.port1 - 1, x.portWait.port2 - 1⟩ }

/-- PBC: the 25 ms of an attempt (R19). -/
def countBus (b : BusController) : BusController :=
  { b with running := b.running.map fun t => { t with left := t.left - 1 } }

/-- A poller's waits (R24, R26). -/
def countSchedule (x : PackSchedule) : PackSchedule :=
  { x with identLeft := shorten x.identLeft, pollLeft := shorten x.pollLeft }

/-- The stage elapsed of a context counts (R47). -/
def elapsedCounts (c : ChargeContext) : Bool :=
  c.state == .charging && ((stageInForce c).mode == .rest || decide (0 < c.targetCurrent))

/-- The stage elapsed, with its part of a second (R47). -/
def countElapsed (c : ChargeContext) : ChargeContext :=
  if !elapsedCounts c || decide (Config.elapsedMax ≤ c.elapsed) then c
  else if c.elapsedPart + 1 < 1000 then { c with elapsedPart := c.elapsedPart + 1 }
  else { c with elapsed := c.elapsed + 1, elapsedPart := 0 }

/-- The age of a supplied sensor runs in ON while it is not stale (R70, R71). -/
def countAge (on : Bool) (r : SensorRecord) : SensorRecord := if on && !r.stale then { r with age := r.age + 1 } else r

/-- THU: the ages of the supplied sensors. -/
def countThermal (on : Bool) (u : ThermalUnit) : ThermalUnit :=
  { u with sensors := (u.sensors.set 4 (countAge on u.sensors[4])).set 5 (countAge on u.sensors[5]) }

/-- A fan: the spin-up period and the override's seconds (R81, R83). -/
def countFan (f : FanRecord) : FanRecord :=
  let f1 := { f with spinLeft := f.spinLeft - 1 }
  if f.mode == .auto || f.overrideLeft.isNone then f1
  else if f.overridePart + 1 < 1000 then { f1 with overridePart := f.overridePart + 1 }
  else { f1 with overrideLeft := shorten f.overrideLeft, overridePart := 0 }

/-- LWU: settle timers, and the wake timer in STANDBY and OFF (R129, R130, R140). -/
def countWake (p : PlatformState) (w : WakeUnit) : WakeUnit :=
  { w with
    lidTimer := shorten w.lidTimer, hinge1Timer := shorten w.hinge1Timer, hinge2Timer := shorten w.hinge2Timer,
    wakeTimer := if timerCounts p then shorten w.wakeTimer else w.wakeTimer }

/-- PSQ: the step wait, the button's settle and hold times, the grace and the restart hold (R145, R157, R159, R160). -/
def countSequencer (x : Sequencer) : Sequencer :=
  { x with
    stepLeft := x.stepLeft - 1, buttonTimer := shorten x.buttonTimer,
    hold := if x.holding then min 65535 (x.hold + 1) else x.hold,
    grace := if x.state = .off then x.grace else shorten x.grace, restartHold := shorten x.restartHold }

/-- An LED's phase (R169). -/
def countLed (x : LedRecord) : LedRecord := { x with left := x.left - 1 }

/-- Every count and timer moves by 1 ms. -/
def advance (s : State) : State :=
  { s with
    uptime := s.uptime + 1
    srs := countSelector s.srs
    pbc := countBus s.pbc
    pks.schedule := ⟨countSchedule s.pks.schedule.a, countSchedule s.pks.schedule.b⟩
    chc.context := ⟨countElapsed s.chc.context.a, countElapsed s.chc.context.b⟩
    thu := countThermal (isOn s) s.thu
    fnc := { fan := ⟨countFan s.fnc.fan.fan0, countFan s.fnc.fan.fan1⟩, evalLeft := s.fnc.evalLeft - 1 }
    kbs.sinceStart := if s.kbs.mode = .stopped then s.kbs.sinceStart else s.kbs.sinceStart + 1
    krp.left := s.krp.left - 1
    lwu := countWake s.psq.state s.lwu
    psq := countSequencer s.psq
    ind := { s.ind with power := countLed s.ind.power, charge := countLed s.ind.charge }
    lkp.gapLeft := s.lkp.gapLeft - 1 }

/-! ## Expiries -/

/-- An expiry is taken when it is due, with the offer of a wake at an arrival in OFF, as at the end of its command (R138,
R154; log 15). -/
def whenDue (due : State → Bool) (act : State → State) (s : State) : State :=
  if due s then offerAtOff s (act s) else s

/-- A wait has run out. -/
def ranOut (x : Option Nat) : Bool := x == some 0

/-- A record's settle time has reached 500 ms (R8). -/
def settleDue (i : SourceId) (s : State) : Bool :=
  let r := s.srs.get i
  r.present && r.valid && !r.settled && decide (Config.settleMs ≤ r.settle)

/-- The sources' expiries (R5, R8, R12). -/
def sourceExpiries (s : State) : State :=
  let s1 := [SourceId.barrel, .port1, .port2].foldl (fun t i => whenDue (settleDue i) (sourceSettled i) t) s
  let s2 := whenDue (fun t => t.srs.switching && decide (t.srs.switchLeft = 0)) switchingExpired s1
  [PortId.port1, .port2].foldl
    (fun t p => whenDue (fun u => decide (u.srs.portWait.get p = 0)) (portIntervalEnds p) t) s2

/-- The attempt on the bus has run for 25 ms (R19). -/
def attemptDue (s : State) : Bool :=
  match s.pbc.running with
  | some t => !t.recovering && decide (t.left = 0)
  | none => false

/-- The packs' expiries (R19, R24, R26). -/
def packExpiries (s : State) : State :=
  [PackId.a, .b].foldl
    (fun t p =>
      whenDue (fun u => ranOut (u.pks.schedule.get p).pollLeft) (pollFalls p)
        (whenDue (fun u => ranOut (u.pks.schedule.get p).identLeft) (identificationFalls p) t))
    (whenDue attemptDue (fun t => attemptTimesOut t.inputs.busLineHigh t) s)

/-- A REST stage has reached its duration (R50). -/
def restDue (p : PackId) (s : State) : Bool :=
  let c := s.chc.context.get p
  (stageInForce c).mode == .rest && decide ((stageInForce c).endValue * 60 ≤ c.elapsed)

/-- A stage has reached its limit (R50). -/
def limitDue (p : PackId) (s : State) : Bool :=
  let c := s.chc.context.get p
  limitRuns c && decide ((stageInForce c).limit * 60 ≤ c.elapsed)

/-- The charge stages' expiries (R50). -/
def chargeExpiries (s : State) : State :=
  [PackId.a, .b].foldl (fun t p => whenDue (limitDue p) (limitExpired p) (whenDue (restDue p) (restEnded p) t)) s

/-- A supplied sensor has aged to the freshness time (R70). -/
def freshnessDue (i : Fin 8) (s : State) : Bool :=
  isOn s && !s.thu.sensors[i].stale && decide (s.thu.settings.freshness * 1000 ≤ s.thu.sensors[i].age)

/-- A fan's override has no time left (R83). -/
def overrideDue (i : FanId) (s : State) : Bool :=
  (s.fnc.fan.get i).mode != .auto && ranOut (s.fnc.fan.get i).overrideLeft

/-- A fan's spin-up period has run out (R81). -/
def spinUpDue (i : FanId) (s : State) : Bool :=
  let f := s.fnc.fan.get i
  decide (0 < f.duty) && decide (f.spinLeft = 0) && decide (f.applied ≠ f.duty)

/-- A spin-up period that has run out ends: the applied duty becomes the duty (R81). -/
def spinUpRunsOut (i : FanId) (s : State) : State := modFan i (fun f => { f with applied := f.duty }) s

/-- The thermal expiries (R70, R77, R81, R83). -/
def thermalExpiries (s : State) : State :=
  let s1 := [4, 5].foldl (fun t i => whenDue (freshnessDue i) (freshnessReached i) t) s
  let s2 := whenDue (fun t => decide (t.fnc.evalLeft = 0)) evaluateFans s1
  [FanId.fan0, .fan1].foldl
    (fun t i => whenDue (overrideDue i) (overrideExpired i) (whenDue (spinUpDue i) (spinUpRunsOut i) t)) s2

/-- The keyboard's expiries (R92, R121). -/
def keyExpiries (s : State) : State :=
  whenDue (fun t => decide (t.krp.left = 0)) typeExpired
    (whenDue (fun t => decide (passPeriod t.kbs ≤ t.kbs.sinceStart)) passStarts s)

/-- The lid, hinge and button expiries, and the wake timer (R129, R130, R140, R157, R158). A wake timer that has counted to
0 runs out also where an expiry of the same ms has taken a wake. -/
def inputExpiries (s : State) : State :=
  let s1 := whenDue (fun t => ranOut t.lwu.lidTimer) lidSettled s
  let s2 := whenDue (fun t => ranOut t.lwu.hinge1Timer) (hingeSettled .h1) s1
  let s3 := whenDue (fun t => ranOut t.lwu.hinge2Timer) (hingeSettled .h2) s2
  let s4 := whenDue (fun t => ranOut t.psq.buttonTimer) buttonSettled s3
  let s5 := whenDue (fun t => ranOut t.lwu.wakeTimer) wakeTimerRunsOut s4
  whenDue (fun t => decide (t.psq.settings.override * 1000 ≤ t.psq.hold)) overrideTimeReached s5

/-- The sequencer's expiries (R149, R150, R152, R154, R159, R160). -/
def sequencerExpiries (s : State) : State :=
  let s1 := whenDue (fun t => decide (t.psq.stepLeft = 0)) stepWaitExpired s
  let s2 := whenDue (fun t => decide (t.psq.stepLeft = 0)) resetHoldExpired s1
  let s3 := whenDue (fun t => decide (t.psq.stepLeft = 0)) standbyDelayExpired s2
  let s4 := whenDue (fun t => decide (t.psq.stepLeft = 0)) offDelayExpired s3
  whenDue (fun t => ranOut t.psq.restartHold) restartHoldEnded (whenDue (fun t => ranOut t.psq.grace) graceExpired s4)

/-- The LEDs' phases and the gap timer (R169, R179). -/
def lineExpiries (s : State) : State :=
  whenDue (fun t => decide (t.lkp.gapLeft = 0)) gapRunsOut
    (whenDue (fun t => decide (t.ind.charge.left = 0)) (phaseEnds .charge)
      (whenDue (fun t => decide (t.ind.power.left = 0)) (phaseEnds .power) s))

/-- The expiries that are due, in the model's order (log 36). -/
def expiries (s : State) : State :=
  lineExpiries (sequencerExpiries (inputExpiries (keyExpiries (thermalExpiries (chargeExpiries (packExpiries
    (sourceExpiries s)))))))

/-- One millisecond goes by with no command. -/
def tick (s : State) : State := busGrant (expiries (advance s))

end Sys2Proof.Machine
end

