-- ==== Sys2Proof/Machine/Dispatch.lean ====
section
/-! DEFINITION. The dispatch: one arm for each command, each one direct call of the command's meaning. -/

namespace Sys2Proof.Machine

/-- The meaning of a command: its effect on everything but the queue of waiting commands. -/
def exec (i : Instr) (s : State) : Host.Outcome State Fault Refusal :=
  match i with
  | .powerOnReset straps inputs => Sys2Proof.Machine.execPowerOnReset straps inputs s
  | .ping payload => Sys2Proof.Machine.execPing payload s
  | .linkStart payload => Sys2Proof.Machine.execLinkStart payload s
  | .statusGet payload => Sys2Proof.Machine.execStatusGet payload s
  | .controllerRestart payload => Sys2Proof.Machine.execControllerRestart payload s
  | .linkSetup payload => Sys2Proof.Machine.execLinkSetup payload s
  | .queueRead payload => Sys2Proof.Machine.execQueueRead payload s
  | .attnLevelSet payload => Sys2Proof.Machine.execAttnLevelSet payload s
  | .sourcePolicy payload => Sys2Proof.Machine.execSourcePolicy payload s
  | .sourceStatusGet payload => Sys2Proof.Machine.execSourceStatusGet payload s
  | .packStatusGet payload => Sys2Proof.Machine.execPackStatusGet payload s
  | .packSnapshot payload => Sys2Proof.Machine.execPackSnapshot payload s
  | .packRead payload => Sys2Proof.Machine.execPackRead payload s
  | .packWrite payload => Sys2Proof.Machine.execPackWrite payload s
  | .profileLoad payload => Sys2Proof.Machine.execProfileLoad payload s
  | .profileExtend payload => Sys2Proof.Machine.execProfileExtend payload s
  | .profileGet payload => Sys2Proof.Machine.execProfileGet payload s
  | .profileAbort payload => Sys2Proof.Machine.execProfileAbort payload s
  | .chargePolicy payload => Sys2Proof.Machine.execChargePolicy payload s
  | .budgetGet payload => Sys2Proof.Machine.execBudgetGet payload s
  | .tempSupply payload => Sys2Proof.Machine.execTempSupply payload s
  | .thermalConfig payload => Sys2Proof.Machine.execThermalConfig payload s
  | .fanCurveSet payload => Sys2Proof.Machine.execFanCurveSet payload s
  | .fanOverride payload => Sys2Proof.Machine.execFanOverride payload s
  | .thermalStatusGet payload => Sys2Proof.Machine.execThermalStatusGet payload s
  | .keyConfig payload => Sys2Proof.Machine.execKeyConfig payload s
  | .keyStateGet payload => Sys2Proof.Machine.execKeyStateGet payload s
  | .keymapSet payload => Sys2Proof.Machine.execKeymapSet payload s
  | .keymapGet payload => Sys2Proof.Machine.execKeymapGet payload s
  | .backlightSet payload => Sys2Proof.Machine.execBacklightSet payload s
  | .wakeConfig payload => Sys2Proof.Machine.execWakeConfig payload s
  | .wakeStatus payload => Sys2Proof.Machine.execWakeStatus payload s
  | .wakeTimerSet payload => Sys2Proof.Machine.execWakeTimerSet payload s
  | .platformRequestTransition request => Sys2Proof.Machine.execPlatformRequestTransition request s
  | .platformRequestSettings payload => Sys2Proof.Machine.execPlatformRequestSettings payload s
  | .faultGet payload => Sys2Proof.Machine.execFaultGet payload s
  | .faultClear payload => Sys2Proof.Machine.execFaultClear payload s
  | .faultMaskSet payload => Sys2Proof.Machine.execFaultMaskSet payload s
  | .containmentSet payload => Sys2Proof.Machine.execContainmentSet payload s
  | .indicatorSet payload => Sys2Proof.Machine.execIndicatorSet payload s
  | .unknownType type payload => Sys2Proof.Machine.execUnknownType type payload s
  | .framingError => Sys2Proof.Machine.execFramingError s
  | .byteOverrun => Sys2Proof.Machine.execByteOverrun s
  | .skippedByte value => Sys2Proof.Machine.execSkippedByte value s
  | .gapTimeout taken => Sys2Proof.Machine.execGapTimeout taken s
  | .lengthFault type length => Sys2Proof.Machine.execLengthFault type length s
  | .checkFault type payload check => Sys2Proof.Machine.execCheckFault type payload check s
  | .replySent => Sys2Proof.Machine.execReplySent s
  | .lineBreak => Sys2Proof.Machine.execLineBreak s
  | .barrelDetectChange active reading => Sys2Proof.Machine.execBarrelDetectChange active reading s
  | .adapterIdentificationChange reading => Sys2Proof.Machine.execAdapterIdentificationChange reading s
  | .portAlert port => Sys2Proof.Machine.execPortAlert port s
  | .portReadInterval port => Sys2Proof.Machine.execPortReadInterval port s
  | .settleTimeReached source => Sys2Proof.Machine.execSettleTimeReached source s
  | .switchingExpiry => Sys2Proof.Machine.execSwitchingExpiry s
  | .pSysSample reading => Sys2Proof.Machine.execPSysSample reading s
  | .busAttemptEnd result lineHigh => Sys2Proof.Machine.execBusAttemptEnd result lineHigh s
  | .attemptTimeout lineHigh => Sys2Proof.Machine.execAttemptTimeout lineHigh s
  | .busRecoveryEnd lineHigh => Sys2Proof.Machine.execBusRecoveryEnd lineHigh s
  | .packPresenceChange pack active => Sys2Proof.Machine.execPackPresenceChange pack active s
  | .identificationDue pack => Sys2Proof.Machine.execIdentificationDue pack s
  | .pollDue pack => Sys2Proof.Machine.execPollDue pack s
  | .channelFaultInputChange pack active => Sys2Proof.Machine.execChannelFaultInputChange pack active s
  | .restEnd pack => Sys2Proof.Machine.execRestEnd pack s
  | .stageLimitExpiry pack => Sys2Proof.Machine.execStageLimitExpiry pack s
  | .boardConversion cpu charger skin ambient => Sys2Proof.Machine.execBoardConversion cpu charger skin ambient s
  | .freshnessTimeReached sensor => Sys2Proof.Machine.execFreshnessTimeReached sensor s
  | .fanEvaluation => Sys2Proof.Machine.execFanEvaluation s
  | .spinUpEnd fan => Sys2Proof.Machine.execSpinUpEnd fan s
  | .tachWindowEnd fan pulses => Sys2Proof.Machine.execTachWindowEnd fan pulses s
  | .overrideExpiry fan => Sys2Proof.Machine.execOverrideExpiry fan s
  | .scanPassStart => Sys2Proof.Machine.execScanPassStart s
  | .scanPassEnd samples => Sys2Proof.Machine.execScanPassEnd samples s
  | .typematicExpiry => Sys2Proof.Machine.execTypematicExpiry s
  | .lidInputChange closed => Sys2Proof.Machine.execLidInputChange closed s
  | .lidSettleExpiry => Sys2Proof.Machine.execLidSettleExpiry s
  | .hingeInputChange hinge active => Sys2Proof.Machine.execHingeInputChange hinge active s
  | .hingeSettleExpiry hinge => Sys2Proof.Machine.execHingeSettleExpiry hinge s
  | .extInputChange input high => Sys2Proof.Machine.execExtInputChange input high s
  | .wakeTimerExpiry => Sys2Proof.Machine.execWakeTimerExpiry s
  | .buttonInputChange pressed => Sys2Proof.Machine.execButtonInputChange pressed s
  | .buttonSettleExpiry => Sys2Proof.Machine.execButtonSettleExpiry s
  | .overrideTimeReached => Sys2Proof.Machine.execOverrideTimeReached s
  | .spgRise => Sys2Proof.Machine.execSpgRise s
  | .mpgRise => Sys2Proof.Machine.execMpgRise s
  | .stepWaitExpiry => Sys2Proof.Machine.execStepWaitExpiry s
  | .powerGoodLoss input => Sys2Proof.Machine.execPowerGoodLoss input s
  | .resetHoldExpiry => Sys2Proof.Machine.execResetHoldExpiry s
  | .standbyDelayExpiry => Sys2Proof.Machine.execStandbyDelayExpiry s
  | .offDelayExpiry => Sys2Proof.Machine.execOffDelayExpiry s
  | .graceExpiry => Sys2Proof.Machine.execGraceExpiry s
  | .restartHoldEnd => Sys2Proof.Machine.execRestartHoldEnd s
  | .ledPhaseEnd led => Sys2Proof.Machine.execLedPhaseEnd led s

end Sys2Proof.Machine
end

