-- ==== Sys2Proof/Safety.lean ====
section
/-! DEFINITION. The terms in which claims are stated: the conditions under which a command is served alone, the states that
the part can be in (invariants of every step), and the answers that requests leave in the reply queue. -/

namespace Sys2Proof.Safety

open Sys2Proof.Machine

/-! ## Serving -/

/-- The link is free to serve and to answer: an empty service slot, no frame that waits in the assembly buffer, and room
in the reply queue (R181). -/
def linkIdle (s : State) : Bool := serviceFree s && !assemblyWaits s && !repliesFull s

/-- The bus is at work, or it idles because nothing waits and nothing is due (R21 case 4). -/
def busSettled (s : State) : Bool :=
  s.pbc.running.isSome ||
    ((match s.pbc.slot with | some q => q.running | none => true) && s.pbc.turn.isNone &&
      !pollerDue s .packA && !pollerDue s .packB && !pollerDue s .port1 && !pollerDue s .port2)

/-- The part can serve a request at once, and no bus work waits for the end of the command. -/
def quiet (s : State) : Bool := linkIdle s && busSettled s

/-- The state after a request of this type has been answered with this payload and nothing else has changed (R181). -/
def answered (type : Byte) (payload : List Byte) (s : State) : State :=
  { s with
    lkp :=
      { s.lkp with
        assembly := .hunt, gapLeft := 0, service := .empty,
        replies := s.lkp.replies ++ [⟨⟨replyType type, payload⟩, false⟩] } }

/-- The last frame of the reply queue is the answer to a request of this type, whose slot is empty again. -/
def answers (type : Byte) (payload : List Byte) (before after : State) : Prop :=
  after.lkp.replies = before.lkp.replies ++ [⟨⟨replyType type, payload⟩, false⟩] ∧ after.lkp.service = .empty ∧
    after.lkp.assembly = .hunt

/-- The request that a command carries: its type and its payload (R183). -/
def requestOf : Instr → Option (Byte × List Byte)
  | .ping p => some (0x01, p)
  | .linkStart p => some (0x02, p)
  | .statusGet p => some (0x03, p)
  | .controllerRestart p => some (0x04, p)
  | .linkSetup p => some (0x05, p)
  | .queueRead p => some (0x06, p)
  | .attnLevelSet p => some (0x07, p)
  | .sourcePolicy p => some (0x10, p)
  | .sourceStatusGet p => some (0x11, p)
  | .packStatusGet p => some (0x20, p)
  | .packSnapshot p => some (0x21, p)
  | .packRead p => some (0x22, p)
  | .packWrite p => some (0x23, p)
  | .profileLoad p => some (0x30, p)
  | .profileExtend p => some (0x31, p)
  | .profileGet p => some (0x32, p)
  | .profileAbort p => some (0x33, p)
  | .chargePolicy p => some (0x34, p)
  | .budgetGet p => some (0x35, p)
  | .tempSupply p => some (0x40, p)
  | .thermalConfig p => some (0x41, p)
  | .fanCurveSet p => some (0x42, p)
  | .fanOverride p => some (0x43, p)
  | .thermalStatusGet p => some (0x44, p)
  | .keyConfig p => some (0x50, p)
  | .keyStateGet p => some (0x51, p)
  | .keymapSet p => some (0x52, p)
  | .keymapGet p => some (0x53, p)
  | .backlightSet p => some (0x54, p)
  | .wakeConfig p => some (0x60, p)
  | .wakeStatus p => some (0x61, p)
  | .wakeTimerSet p => some (0x62, p)
  | .platformRequestTransition value => some (0x68, [value])
  | .platformRequestSettings p => some (0x68, p)
  | .faultGet p => some (0x70, p)
  | .faultClear p => some (0x71, p)
  | .faultMaskSet p => some (0x72, p)
  | .containmentSet p => some (0x73, p)
  | .indicatorSet p => some (0x74, p)
  | .unknownType type p => some (type, p)
  | _ => none

/-- The length of a payload is one that its type allows, as each request's rule gives; every length, for a type that the
table of R183 does not give. -/
def lengthAllowed (type : Byte) (p : List Byte) : Bool :=
  let n := p.length
  match type.toNat with
  | 0x01 => decide (n ≤ 55)
  | 0x02 | 0x03 | 0x04 | 0x11 | 0x21 | 0x44 | 0x51 => n == 0
  | 0x05 => n == 6
  | 0x06 | 0x20 | 0x32 | 0x35 | 0x53 | 0x61 => n == 2
  | 0x07 | 0x54 | 0x73 => n == 0 || n == 1
  | 0x10 | 0x22 | 0x71 => n == 3
  | 0x23 => decide (3 ≤ n) && decide (n ≤ 34)
  | 0x30 => n == 10 || n == 19 || n == 28 || n == 37 || n == 46 || n == 55
  | 0x31 => n == 10
  | 0x33 => n == 1
  | 0x34 => n == 0 || n == 4
  | 0x40 | 0x62 | 0x74 => n == 4
  | 0x41 => n == 0 || n == 23
  | 0x42 => n == 1 || (n == 4 + 4 * byteAt p 3 && decide (2 ≤ byteAt p 3) && decide (byteAt p 3 ≤ 6))
  | 0x43 => n == 6
  | 0x50 => n == 0 || n == 9
  | 0x52 => decide (4 ≤ n) && decide (n ≤ 49) && n % 3 == 1
  | 0x60 => n == 0 || n == 5
  | 0x68 => n == 0 || n == 1 || n == 9
  | 0x70 => n == 0 || n == 2
  | 0x72 => n == 0 || n == 3
  | _ => true

/-- The entry stands in the report memory with no word in error (R197). -/
def soundKey (e : StoredKey) : Bool := e.w0 == .good && e.w1 == .good

/-- The same of a notice. -/
def soundNotice (e : StoredNotice) : Bool := e.w0 == .good && e.w1 == .good && e.w2 == .good && e.w3 == .good

/-- How many of an entry's words are corrected as it is read (R197). -/
def singles (words : List WordCheck) : Nat := words.countP (· == .single)

/-- A word of the entry has a double-bit error, so that the entry is dropped as it is read (R197). -/
def spoilt (words : List WordCheck) : Bool := words.any (· == .double)

/-- The contract current and power of the barrel for what the identification input reads (the table of R4). -/
def barrelContract : AdapterReading → Nat × Nat × AdapterClass
  | .w45 => (2250, 45000, .w45)
  | .w65 => (3250, 65000, .w65)
  | .w90 => (4500, 90000, .w90)
  | .w135 => (6750, 135000, .w135)
  | .noMatch => (2250, 45000, .unknown)

/-! ## Invariants -/

/-- The three outputs and the stop kind are those of R145 and R146 for the state and the step in force. -/
def railsOk (x : Sequencer) : Bool :=
  match x.state, x.step with
  | .off, .none => !x.sre && !x.mre && x.prst && x.stopKind == .none
  | .starting, .spgWait => x.sre && !x.mre && x.prst && x.stopKind == .none
  | .starting, .mpgWait | .starting, .resetHold | .resuming, .mpgWait | .resuming, .resetHold =>
    x.sre && x.mre && x.prst && x.stopKind == .none
  | .on, .none | .suspending, .delay => x.sre && x.mre && !x.prst && x.stopKind == .none
  | .standby, .none => x.sre && !x.mre && x.prst && x.stopKind == .none
  | .stopping, .delay => x.sre && x.mre && !x.prst && x.stopKind == .requested
  | _, _ => false

/-- A fault record: count and first stamp are 0 exactly while the status is clear, the count holds at 255, and a single
kind is never active (R163, R164). -/
def faultRecordOk (k : FaultKind) (r : FaultRecord) : Bool :=
  (r.status == decide (0 < r.count)) && decide (r.count ≤ 255) && (r.status || r.firstStamp == 0) &&
    (k.lasting || !r.active)

/-- Every fault record is sound, and a severe fault that is active holds containment (R164, R167). -/
def faultsOk (f : FaultUnit) : Bool :=
  (allFaultKinds.all fun k => faultRecordOk k (f.get k)) && (!severeActive f || f.level != .none)

/-- No two entries of a list of notices are of one kind (R195). -/
def kindsDistinct : List StoredNotice → Bool
  | [] => true
  | e :: es => es.all (fun x => x.notice.code != e.notice.code) && kindsDistinct es

/-- The report memory: sound areas, no queue beyond its capacity, one notice of a kind, and ATTN as R198 drives it. -/
def memoryOk (r : ReportMemory) : Bool :=
  areasSound r.keyArea r.noticeArea && decide (r.keys.length ≤ keyCapacity r) &&
    decide (r.notices.length ≤ noticeCapacity r) && kindsDistinct r.notices && (r.attnLow == attnWanted r)

/-- A pending wake source has its status set, and both enables of POWER_BUTTON are on (R133). -/
def wakeTableOk (w : WakeUnit) : Bool :=
  (allWakeSources.all fun i => !(w.get i).pending || (w.get i).status) &&
    (w.get .powerButton).standbyEnable && (w.get .powerButton).offEnable

/-- The charge state of a pack is what R41 derives, and its targets are within R57: a target current flows only while the
pack is CHARGING in a stage that charges, from a steady active source, under no containment. -/
def chargeOk (s : State) (p : PackId) : Bool :=
  let c := s.chc.context.get p
  let bars := barsOf s p
  (c.state == chargeStateOf (s.chc.handed.get p) c bars) && (c.causes == if c.state == .paused then bars else noBars) &&
    (c.targetCurrent == 0 ||
      (c.state == .charging && stageCharges c && s.srs.active.isSome && !s.srs.switching && s.flt.level == .none &&
        c.targetCurrent % 25 == 0 && decide (c.targetCurrent ≤ 4000) && decide (c.targetCurrent ≤ stageCurrent c)))

/-- A populated fan's duty is what R80 makes of the state, and outside a spin-up period it is the one applied (R81). -/
def dutyOk (s : State) (i : FanId) : Bool :=
  let f := s.fnc.fan.get i
  !f.populated ||
    (f.duty == dutyOf s f && (f.applied == if 0 < f.spinLeft then max f.duty 500 else f.duty) &&
      (decide (0 < f.duty) || f.spinLeft == 0))

/-- The keyboard: suppression and scan mode follow the posture and the platform state (R92, R101), the reported-down set
is within the rollover limit, while the keyboard is suppressed no position is held (R98, R102), and in STARTING a start is
under way whose held keys are still to be found (R109; log 49). -/
def keyboardOk (s : State) : Bool :=
  (s.kbs.suppression == ⟨s.lwu.posture == .closed, s.lwu.posture == .tablet, !isOn s⟩) &&
    (s.kbs.mode == scanModeOf s.psq.state s.kbs.suppression) && (!s.kbs.passRunning || s.kbs.mode != .stopped) &&
    decide ((reportedSet s.kbs).length ≤ s.kbs.settings.rollover) &&
    (!suppressed s.kbs.suppression || allPositions.all fun p => !keyHeld s.kbs.keys[p]) &&
    (s.psq.state != .starting || s.kbs.freshStart)

/-- The budget record is the computation of R53 to R57 on its present inputs, its stamp apart, and both channels drive its
targets (R53, R58). -/
def budgetOk (s : State) : Bool :=
  (s.chc.budget == { computeBudget s with stamp := s.chc.budget.stamp }) &&
    [PackId.a, .b].all fun p =>
      (s.chc.context.get p).targetCurrent == (s.chc.budget.packs.get p).targetCurrent &&
        (s.chc.context.get p).targetVoltage == (s.chc.budget.packs.get p).targetVoltage

/-- The platform RSOC of R31 from two pack records. -/
def rsocShare (a b : PackRecord) : Nat :=
  let remaining := (if a.present then a.remaining else 0) + if b.present then b.remaining else 0
  let full := (if a.present then a.full else 0) + if b.present then b.full else 0
  if full = 0 then 0 else min 100 (remaining * 100 / full)

/-- The discharge switches are those of R30: a pack that is not FAULTED and not told to stop is on, and a pack that wants
off is on only where it is held; with no source active, some present pack stays on. -/
def switchesOk (s : State) : Bool :=
  [PackId.a, .b].all (fun p =>
    let r := s.pks.record.get p
    let wants := r.present && r.state != .faulted && !r.alarm.terminateDischarge
    (r.switchOn == (wants || r.switchHeld)) && (!r.switchHeld || (r.present && !wants && s.srs.active.isNone)) &&
      (r.present == (r.state != .absent))) &&
    (s.srs.active.isSome || !(s.pks.record.a.present || s.pks.record.b.present) ||
      s.pks.record.a.switchOn || s.pks.record.b.switchOn) &&
    !(s.pks.record.a.switchHeld && s.pks.record.b.switchHeld)

/-- THROTTLE is asserted in SHED, and in an overload that no pack can carry (R168); both LEDs derive and show what R169 and
R170 give. -/
def outputsOk (s : State) : Bool :=
  (s.flt.throttle ==
      (s.flt.level == .shed || (s.srs.overload && !(s.pks.record.a.switchOn || s.pks.record.b.switchOn)))) &&
    (s.ind.power.derived == derivedPower s.psq.state) &&
    (s.ind.power.shown == s.ind.power.override.getD (derivedPower s.psq.state)) &&
    (s.ind.charge.derived == derivedCharge s) && (s.ind.charge.shown == chosenCharge s (derivedCharge s))

/-! ## Terms of single rules -/

/-- The best eligible source of R10: none has more power, and none of equal power comes before it. -/
def isBest (x : Selector) (b : SourceId) : Prop :=
  eligible (x.get b) = true ∧
    ∀ j, eligible (x.get j) = true →
      (x.get j).power < (x.get b).power ∨
        ((x.get j).power = (x.get b).power ∧ sourceCode (some b) ≤ sourceCode (some j))

/-- No wake source that is enabled for OFF is left pending by a stop: none is held by its condition, and in STOPPING, where
the clear of R137 has been made, none is pending (R136 to R138). -/
def noWakeAfterStop (s : State) : Bool :=
  allWakeSources.all fun i =>
    !(s.lwu.get i).offEnable || (!((s.lwu.get i).pending && s.psq.state == .stopping) && !sourceHeld s i)

/-- The active source has changed to `new` (R11, R12): SWITCHING begins or begins again, or is abandoned for NONE; the
input power is 0, an overload has ended, and the wake source of a change from or to NONE is set. -/
def sourceChanged (old : Selector) (new : Option SourceId) (t : State) : Prop :=
  t.srs.active = new ∧ t.srs.switching = new.isSome ∧ t.srs.switchLeft = (if new.isSome then 30 else 0) ∧
    t.srs.switchReplaced = (old.switching || old.switchReplaced) ∧ t.srs.overload = false ∧ t.srs.overloadRun = 0 ∧
    t.chc.budget.pInMax = 0 ∧
    (old.active = none → new.isSome = true → (t.lwu.get .sourceAttach).status = true) ∧
    (old.active.isSome = true → new = none → (t.lwu.get .sourceDetach).status = true)

/-- A source's record has become `new`: where its eligibility has changed, or its power while it is eligible, the selection
of R10 has been made, and where its outcome is another source the active source has changed (R11). -/
def recordTaken (i : SourceId) (new : SourceRecord) (s t : State) : Prop :=
  let old := s.srs.get i
  let chosen := outcome (s.srs.set i new)
  t.srs.get i = new ∧
    if (eligible old ≠ eligible new ∨ (eligible new = true ∧ old.power ≠ new.power)) ∧ chosen ≠ s.srs.active then
      sourceChanged s.srs chosen t
    else
      t.srs.active = s.srs.active ∧ t.srs.switching = s.srs.switching ∧ t.srs.switchLeft = s.srs.switchLeft

/-- A pack's poller has a transaction on the bus, in an attempt. -/
def packOnBus (p : PackId) (x : Transaction) (op : BusOp) (s : State) : Prop :=
  s.pbc.running = some x ∧ x.passthrough = false ∧ x.abandoned = false ∧ x.recovering = false ∧ x.device = p.device ∧
    x.op = op

/-- The last of the nine poll words of a poll or an identification is being read, with the words read before it (R24,
R25). -/
def lastWordOnBus (p : PackId) (work : TurnWork) (x : Transaction) (words : List Word16) (s : State) : Prop :=
  packOnBus p x (.readWord 0x28) s ∧ s.pbc.turn = some ⟨p.device, work, [], words⟩ ∧
    words.length = if work = .identification then 10 else 8

/-- The record holds the nine poll words `w 0` to `w 8` (R25, R27, R28). -/
def pollWordsHeld (w : Nat → Word16) (now : Stamp) (u : PackRecord) : Prop :=
  u.voltage = (w 0).toNat ∧ u.current = (w 1).toInt ∧
    u.temperature = max (-400) (min 1500 (((w 2).toNat : Int) - 2732)) ∧ u.rsoc = min 100 (w 3).toNat ∧
    u.remaining = (w 4).toNat ∧ u.full = (w 5).toNat ∧
    u.alarm = ⟨(w 6).getLsbD 0, (w 6).getLsbD 1, (w 6).getLsbD 2, (w 6).getLsbD 3, (w 6).getLsbD 4⟩ ∧
    u.reqCurrent = (w 7).toNat ∧ u.reqVoltage = (w 8).toNat ∧ u.failRun = 0 ∧ u.stale = false ∧ u.lastGood = now ∧
    u.causes.comm = false

/-- A new alarm cause of a pack has been detected (R28, R166): the SEVERE kind is active with the pack as its detail,
containment is in force, the wake status PACK_ALARM is set, and the pack is FAULTED with the cause. -/
def causeTaken (k : FaultKind) (p : PackId) (t : State) : Prop :=
  (t.flt.get k).status = true ∧ (t.flt.get k).active = true ∧ (t.flt.get k).detail = byteOf p.code ∧
    t.flt.level ≠ .none ∧ (t.lwu.get .packAlarm).status = true ∧ (t.pks.record.get p).state = .faulted

/-- What the alarm word and the temperature of a good poll bring (R24, R27 to R29), for a record `r` before it. -/
def alarmsTaken (p : PackId) (r : PackRecord) (t : State) : Prop :=
  let u := t.pks.record.get p
  let charged := u.alarm.overCharged = true
  let hot := u.alarm.overTemp = true ∨ 600 ≤ u.temperature
  (charged → r.causes.overCharged = false → r.state ≠ .absent →
    u.causes.overCharged = true ∧ causeTaken .packOverCharged p t) ∧
  (hot → r.causes.overTemp = false → r.state ≠ .absent → u.causes.overTemp = true ∧ causeTaken .packOverTemp p t) ∧
  ((r.alarm.terminateDischarge = false ∧ u.alarm.terminateDischarge = true) ∨
      (r.alarm.terminateCharge = false ∧ u.alarm.terminateCharge = true) ∨
      (r.alarm.overTemp = false ∧ u.alarm.overTemp = true) ∨
      (r.alarm.overCharged = false ∧ u.alarm.overCharged = true) →
    (t.lwu.get .packAlarm).status = true) ∧
  (¬charged → ¬hot → r.causes.overCharged = false → r.causes.overTemp = false →
    r.state = .identify ∨ r.state = .faulted → u.state = .ready)

/-- The stage in force of a context has ended (R47, R51): the pointer rises, or the profile is complete. -/
def stageEnded (c u : ChargeContext) : Prop :=
  u.elapsed = 0 ∧ u.elapsedPart = 0 ∧ u.taperRun = 0 ∧ u.stages = c.stages ∧ u.heldLatch = c.heldLatch ∧
    if c.pointer < c.stages.length - 1 then u.pointer = c.pointer + 1 ∧ u.completeLatch = c.completeLatch
    else u.pointer = c.pointer ∧ u.completeLatch = true ∧ u.targetCurrent = 0

/-- The stage in force of a context stays in force, with this taper run (R48, R49). -/
def stageStays (c u : ChargeContext) (taper : Nat) : Prop :=
  u.pointer = c.pointer ∧ u.elapsed = c.elapsed ∧ u.elapsedPart = c.elapsedPart ∧ u.completeLatch = c.completeLatch ∧
    u.stages = c.stages ∧ u.taperRun = taper

/-- The samples, with those of positions that the board does not have open, show the position closed (R91). -/
def shut (s : State) (samples : Samples) (n : Nat) : Bool :=
  samples.getLsbD n && (s.straps.columns18 || decide (n < 128))

/-- The samples show a position as the fourth corner of a rectangle, and its entry does not carry ISOLATED (R96). -/
def ringed (s : State) (samples : Samples) (p : Position) : Prop :=
  (s.kbs.map[p]).isolated = false ∧
    ∃ (r : Fin 8) (c : Fin 18), r.val ≠ p.val % 8 ∧ c.val ≠ p.val / 8 ∧ shut s samples (p.val / 8 * 8 + r.val) = true ∧
      shut s samples (c.val * 8 + p.val % 8) = true ∧ shut s samples (c.val * 8 + r.val) = true

/-- A scan pass with these samples completes the press of a position (R94). -/
def pressDone (s : State) (samples : Samples) (p : Position) : Prop :=
  let k := s.kbs.keys[p]
  shut s samples p.val = true ∧
    ((k.state = .up ∧ s.kbs.settings.pressDebounce ≤ 1) ∨
      (k.state = .pressWait ∧ s.kbs.settings.pressDebounce ≤ k.counter + 1))

/-- No other position moves in a pass with these samples: each is UP and open, or DOWN and closed. -/
def othersRest (s : State) (samples : Samples) (p : Position) : Prop :=
  ∀ q : Position, q ≠ p →
    (s.kbs.keys[q].state = .up ∧ samples.getLsbD q.val = false) ∨
      (s.kbs.keys[q].state = .down ∧ samples.getLsbD q.val = true)

/-- The notice has no entry of its kind in the queue. -/
def kindAbsent (n : Notice) (q : List StoredNotice) : Prop := ∀ e ∈ q, e.notice.code ≠ n.code

/-- A queue of notices is split at its oldest entry of the lowest level (R195 case 3). -/
def splitAtLowest (q before : List StoredNotice) (e : StoredNotice) (rest : List StoredNotice) : Prop :=
  q = before ++ e :: rest ∧ (∀ x ∈ before, e.notice.level < x.notice.level) ∧
    ∀ x ∈ rest, e.notice.level ≤ x.notice.level

/-- The platform has arrived in OFF from the state `s`: both groups are down, PRST is asserted, the KEY queue is empty, no
grace runs, the keyboard does not scan, and the link is in SETUP (R146, R147, R154, R155, R160, R185, R194). -/
def arrivedOff (cause : StopCause) (s t : State) : Prop :=
  t.psq.state = .off ∧ t.psq.step = .none ∧ t.psq.stepLeft = 0 ∧ t.psq.stopKind = .none ∧ t.psq.lastStop = cause ∧
    t.psq.sre = false ∧ t.psq.mre = false ∧ t.psq.prst = true ∧ t.psq.grace = none ∧ t.inputs.spg = false ∧
    t.inputs.mpg = false ∧ t.rpm.keys = [] ∧ t.kbs.mode = .stopped ∧ t.kbs.suppression.notOn = true ∧
    t.lkp = { s.lkp with run := false } ∧ t.srs = s.srs ∧ t.pks.record = s.pks.record ∧
    t.psq.settings = s.psq.settings

/-- The detection of a fault kind has been recorded with this detail (R164). -/
def recorded (k : FaultKind) (detail : Byte) (s t : State) : Prop :=
  (t.flt.get k).status = true ∧ (t.flt.get k).active = ((s.flt.get k).active || k.lasting) ∧
    (t.flt.get k).detail = detail ∧ (t.flt.get k).count = min 255 ((s.flt.get k).count + 1)

end Sys2Proof.Safety
end

