-- ==== Sys2Proof/WellFormed.lean ====
section
/-! DEFINITION. The well-formed commands: what the line, the bus and the tachometers can deliver. A frame's payload has at
most 56 bytes (R179); the commands that stand for a kind of frame or a kind of byte carry one of that kind. -/

namespace Sys2Proof

/-- A payload fits a frame (R179). -/
def payloadFits (p : List Byte) : Bool := decide (p.length ≤ Config.payloadMax)

/-- The type codes that name a request (R183). -/
def requestTypes : List Byte :=
  [0x01, 0x02, 0x03, 0x04, 0x05, 0x06, 0x07, 0x10, 0x11, 0x20, 0x21, 0x22, 0x23, 0x30, 0x31, 0x32, 0x33, 0x34, 0x35,
   0x40, 0x41, 0x42, 0x43, 0x44, 0x50, 0x51, 0x52, 0x53, 0x54, 0x60, 0x61, 0x62, 0x68, 0x70, 0x71, 0x72, 0x73, 0x74]

/-- The check byte received is not the CRC-8 of the frame (R180). -/
def checkWrong (type : Byte) (payload : List Byte) (check : Byte) : Bool :=
  check != Machine.Frame.check ⟨type, payload⟩

/-- The bytes taken since a frame mark, the mark included, are a part of a frame whose length is in range (R179). -/
def partialFrame : List Byte → Bool
  | [0x5A] => true
  | [0x5A, _] => true
  | 0x5A :: _ :: n :: rest => decide (n.toNat ≤ Config.payloadMax) && decide (rest.length ≤ n.toNat)
  | _ => false

/-- The most pulses of a tachometer window whose rpm is within its range, 0 to 65535 (R76, R82). -/
def pulsesMax : Nat := 2184

/-- A command that the outside of the part can give. -/
def Instr.wellFormed : Instr → Bool
  | .ping p | .linkStart p | .statusGet p | .controllerRestart p | .linkSetup p | .queueRead p | .attnLevelSet p
  | .sourcePolicy p | .sourceStatusGet p | .packStatusGet p | .packSnapshot p | .packRead p | .packWrite p
  | .profileLoad p | .profileExtend p | .profileGet p | .profileAbort p | .chargePolicy p | .budgetGet p
  | .tempSupply p | .thermalConfig p | .fanCurveSet p | .fanOverride p | .thermalStatusGet p | .keyConfig p
  | .keyStateGet p | .keymapSet p | .keymapGet p | .backlightSet p | .wakeConfig p | .wakeStatus p | .wakeTimerSet p
  | .faultGet p | .faultClear p | .faultMaskSet p | .containmentSet p | .indicatorSet p => payloadFits p
  | .platformRequestTransition _ => true
  | .platformRequestSettings p => payloadFits p && p.length != 1
  | .unknownType type p => payloadFits p && !requestTypes.contains type
  | .skippedByte value => value != 0x5A
  | .gapTimeout taken => partialFrame taken
  | .lengthFault _ length => decide (Config.payloadMax < length.toNat)
  | .checkFault type p check => payloadFits p && checkWrong type p check
  | .busAttemptEnd (.acked data) _ => decide (data.length ≤ 32)
  | .busAttemptEnd .notAcked _ => true
  | .tachWindowEnd _ pulses => decide (pulses ≤ pulsesMax)
  | .powerOnReset _ _ | .framingError | .byteOverrun | .replySent | .lineBreak | .barrelDetectChange _ _
  | .adapterIdentificationChange _ | .portAlert _ | .portReadInterval _ | .settleTimeReached _ | .switchingExpiry
  | .pSysSample _ | .attemptTimeout _ | .busRecoveryEnd _ | .packPresenceChange _ _ | .identificationDue _ | .pollDue _
  | .channelFaultInputChange _ _ | .restEnd _ | .stageLimitExpiry _ | .boardConversion _ _ _ _
  | .freshnessTimeReached _ | .fanEvaluation | .spinUpEnd _ | .overrideExpiry _ | .scanPassStart | .scanPassEnd _
  | .typematicExpiry | .lidInputChange _ | .lidSettleExpiry | .hingeInputChange _ _ | .hingeSettleExpiry _
  | .extInputChange _ _ | .wakeTimerExpiry | .buttonInputChange _ | .buttonSettleExpiry | .overrideTimeReached | .spgRise
  | .mpgRise | .stepWaitExpiry | .powerGoodLoss _ | .resetHoldExpiry | .standbyDelayExpiry | .offDelayExpiry
  | .graceExpiry | .restartHoldEnd | .ledPhaseEnd _ => true

end Sys2Proof
end

