-- ==== Sys2Proof/Certificates/Slice0/Obligations.lean ====
section
/-! DEFINITION. The statements for the provers, chapter by chapter: `def Obligations.<Name> : Prop`. `quiet s` says that the
link can serve at once and that no bus work waits (Safety.lean), so that a command's own effect is all that follows. A
timer's command acts whenever its timer is in force, whatever time is left (the model's choice, log 2). -/

open Sys2Proof Sys2Proof.Machine Sys2Proof.Safety

/-! ## The machine -/

/-- One step runs the command at the front of the queue on the rest of the state; with nothing pending it lets 1 ms go by
(the model's choice, log 1), which the uptime counter counts. -/
def Obligations.StepRunsTheFrontCommand : Prop :=
  (∀ (c : Instr) (rest : List Instr) (s : State), s.pending = c :: rest →
    step s = exec c { s with pending := rest }) ∧
  ∀ s : State, s.pending = [] →
    ∃ t, step s = .next t ∧ t.uptime = s.uptime + 1 ∧ t.straps = s.straps ∧ t.pending = []

/-- Only POWER_ON_RESET touches the uptime counter and the straps, and no command touches the queue (R1, R2). That a command
takes no time, so that no other moves the uptime counter, is the model's choice (log 1), and the queue of waiting commands is
the model's own field (log 42). -/
def Obligations.OnlyPowerOnTouchesUptimeAndStraps : Prop :=
  ∀ (c : Instr) (s t : State), exec c s = .next t →
    t.pending = s.pending ∧
      match c with
      | .powerOnReset straps _ => t.uptime = 0 ∧ t.straps = straps
      | _ => t.uptime = s.uptime ∧ t.straps = s.straps

/-- Power-on reset: every block holds its first values under every strap and input (R18, R36, R37, R67, R90, R108, R128,
R144, R162, R177, R189, R200): sources, bus, packs, charge, thermal and fan settings, keyboard, wake table and filters,
sequencer, fault masks, indicators, link and report memory. That a board reading at or above the trip temperature raises the
containment level at once is left out: the fault clauses take four good readings below it. The first value of a fan's rpm is
the model's choice (log 48) and is not stated. -/
def Obligations.PowerOnResetGivesFirstValues : Prop :=
  ∀ (straps : Straps) (inputs : Inputs) (s : State), ∃ t, exec (.powerOnReset straps inputs) s = .next t ∧
    t.inputs = inputs ∧
    (t.psq.state = .off ∧ t.psq.step = .none ∧ t.psq.sre = false ∧ t.psq.mre = false ∧ t.psq.prst = true ∧
      t.psq.stopKind = .none ∧ t.psq.lastStop = .none ∧ t.psq.pressed = inputs.button ∧ t.psq.hold = 0 ∧
      t.psq.holding = false ∧ t.psq.grace = none ∧ t.psq.restartHold = none ∧
      t.psq.settings = ⟨100, 100, 4, 30, 3, 5⟩) ∧
    t.lkp = { run := false, errors := 0, restarted := false, assembly := .hunt, gapLeft := 0, service := .empty,
              replies := [] } ∧
    (t.rpm.keyArea = ⟨0, 32⟩ ∧ t.rpm.noticeArea = ⟨32, 40⟩ ∧ t.rpm.keys = [] ∧ t.rpm.attnLevel = 0 ∧
      t.rpm.correctedLimit = 16) ∧
    (t.krp.backlight = 0 ∧ t.krp.output = 0 ∧ t.krp.phase = .idle ∧ t.krp.keyLost = 0 ∧ t.krp.overrun = false) ∧
    (t.kbs.settings = ⟨none, 3, 4, 10, 2, 500, 33⟩ ∧ t.kbs.mode = .stopped ∧
      (∀ p : Position, t.kbs.map[p] = ⟨BitVec.ofNat 8 (p.val + 1), 0, false, false, true, true⟩) ∧
      ∀ p : Position, t.kbs.keys[p].state =
        if inputs.matrix.getLsbD p.val && (straps.columns18 || decide (p.val < 128)) then .latent else .up) ∧
    (t.thu.settings = ⟨3, 950, 850, 600, 1000, 700⟩ ∧ t.thu.table = #v[⟨0, 100⟩, ⟨450, 75⟩, ⟨500, 50⟩, ⟨550, 0⟩] ∧
      t.thu.sensors[4].valid = false ∧ t.thu.sensors[5].valid = false) ∧
    (t.fnc.evalLeft = 500 ∧ t.fnc.fan.fan0.populated = true ∧ t.fnc.fan.fan1.populated = straps.fans2 ∧
      t.fnc.fan.fan0.mask = 0x11 ∧ t.fnc.fan.fan1.mask = 0x25 ∧
      ∀ i, (t.fnc.fan.get i).curve = [⟨400, 250⟩, ⟨600, 500⟩, ⟨800, 1000⟩] ∧ (t.fnc.fan.get i).hysteresis = 30 ∧
        (t.fnc.fan.get i).mode = .auto ∧ (t.fnc.fan.get i).failed = false ∧ (t.fnc.fan.get i).stallRun = 0 ∧
        (t.fnc.fan.get i).recoveryRun = 0) ∧
    (t.lwu.lidClosed = inputs.lidClosed ∧ t.lwu.hinge1 = inputs.hinge1 ∧ t.lwu.hinge2 = inputs.hinge2 ∧
      t.lwu.lidTimer = none ∧ t.lwu.hinge1Timer = none ∧ t.lwu.hinge2Timer = none ∧ t.lwu.wakeTimer = none ∧
      t.lwu.ext0 = ⟨false, false⟩ ∧ t.lwu.ext1 = ⟨false, false⟩ ∧ t.lwu.cause = 0 ∧ t.lwu.causeStamp = 0 ∧
      ∀ i, (t.lwu.get i).offEnable = decide (i = .powerButton) ∧
        (t.lwu.get i).standbyEnable = decide (i ∈ [.powerButton, .lidOpen, .keyboard, .lowEnergy, .packAlarm]) ∧
        (i ≠ .thermal → (t.lwu.get i).status = false ∧ (t.lwu.get i).pending = false)) ∧
    (t.chc.policy = ⟨.balanced, 100, 80, 90⟩ ∧ t.chc.budget.pInMax = 0 ∧
      ∀ p, (t.chc.context.get p).stages = [⟨.follow, 0, 0, 0, 600, true⟩] ∧ (t.chc.context.get p).targetCurrent = 0) ∧
    (t.srs.pin = none ∧ t.srs.margin = 5 ∧ t.srs.active = none ∧ t.srs.switching = false ∧ t.srs.pSys = 0 ∧
      t.srs.overload = false ∧ ∀ i, (t.srs.get i).disabled = false ∧ (t.srs.get i).settled = false) ∧
    (t.pbc.slot = none ∧ t.pbc.recoveryFails = 0 ∧ t.pbc.running.isSome = true) ∧
    (t.pks.rsoc = 0 ∧ t.pks.snapshot = none ∧
      (t.pks.record.get .a).state = (if inputs.packA then .identify else .absent) ∧
      (t.pks.record.get .b).state = if straps.packs2 && inputs.packB then .identify else .absent) ∧
    (t.flt.mode = .stopCharge ∧ (∀ k, (t.flt.get k).masked = decide (k.severity = .advisory)) ∧
      (([inputs.board0, inputs.board1, inputs.board2, inputs.board3].all fun b =>
          decide (-300 ≤ b) && decide (b < 1000)) = true →
        t.flt.level = .none ∧ t.flt.throttle = false ∧
          ∀ k, k ≠ .postureInput → k ≠ .sourceInvalid →
            (t.flt.get k).status = false ∧ (t.flt.get k).active = false ∧ (t.flt.get k).count = 0)) ∧
    t.ind.blink = 0 ∧ t.ind.power.override = none ∧ t.ind.charge.override = none ∧ t.ind.power.invert = false ∧
      t.ind.charge.invert = false

/-- The controller restart, as the reply of CONTROLLER_RESTART has been sent or as a line break discards it, in the reply
queue or still waiting for room (R188): uptime, straps, link errors, the corrected counter, the fault statuses and, with no
board sensor failed or at the default trip temperature, the platform state, its step and outputs, the inputs and the
containment level are kept; link, queues and settings take their restart values (R162, R177, R189, R200). The inputs are the
levels as last told (log 25); a trip that is found at the restart forces the platform off, and SPG and MPG then fall with
their enables (log 18). -/
def Obligations.ControllerRestartKeepsAndResets : Prop :=
  ∀ (c : Instr) (o : Outgoing) (rest : List Outgoing) (s : State),
    (c = .replySent ∧ s.lkp.replies = o :: rest ∧ o.restarts = true) ∨
      (c = .lineBreak ∧ (s.lkp.service = .restart ∨ (s.lkp.service = .finished o ∧ o.restarts = true))) →
    ∃ t, exec c s = .next t ∧ t.uptime = s.uptime ∧ t.straps = s.straps ∧
      t.inputs = { s.inputs with spg := t.inputs.spg, mpg := t.inputs.mpg } ∧
      t.lkp = { run := false, errors := s.lkp.errors, restarted := true, assembly := .hunt, gapLeft := 0,
                service := .empty, replies := [] } ∧
      t.rpm.keys = [] ∧ t.rpm.keyArea = ⟨0, 32⟩ ∧ t.rpm.noticeArea = ⟨32, 40⟩ ∧ t.rpm.attnLevel = 0 ∧
      t.rpm.corrected = s.rpm.corrected ∧ t.flt.mode = .stopCharge ∧
      (∀ k, (s.flt.get k).status = true → (t.flt.get k).status = true) ∧
      t.kbs.settings = ⟨none, 3, 4, 10, 2, 500, 33⟩ ∧ t.chc.policy = ⟨.balanced, 100, 80, 90⟩ ∧
      (∀ p, (t.chc.context.get p).stages = [⟨.follow, 0, 0, 0, 600, true⟩]) ∧ t.srs.active = none ∧
      t.pks.snapshot = none ∧
      (([s.inputs.board0, s.inputs.board1, s.inputs.board2, s.inputs.board3].all fun b =>
          decide (-300 ≤ b) && decide (b < 1000)) = true →
        t.inputs = s.inputs ∧ t.psq.state = s.psq.state ∧ t.psq.step = s.psq.step ∧ t.psq.stepLeft = s.psq.stepLeft ∧
          t.psq.sre = s.psq.sre ∧ t.psq.mre = s.psq.mre ∧ t.psq.prst = s.psq.prst ∧ t.psq.grace = s.psq.grace ∧
          t.psq.restartHold = some 1000 ∧ t.flt.level = s.flt.level)

/-! ## Invariants of every step -/

/-- The arbiter never leaves a free bus while a passthrough waits or a poller is due (R21 case 4), after any step. -/
def Obligations.BusNeverIdlesOverDueWork : Prop :=
  ∀ s t : State, step s = .next t → busSettled t = true

/-- SRE, MRE, PRST and the stop kind stay those that R145 and R146 give for the state and step. -/
def Obligations.RailOutputsFollowTheirTable : Prop :=
  ∀ s t : State, railsOk s.psq = true → step s = .next t → railsOk t.psq = true

/-- A fault's count is non-zero exactly when its status is set, and an active severe fault holds containment (R164, R167). -/
def Obligations.FaultTableStaysSound : Prop :=
  ∀ s t : State, faultsOk s.flt = true → step s = .next t → faultsOk t.flt = true

/-- The report memory stays sound: areas, capacities, one notice of a kind, and ATTN (R192, R195, R198). -/
def Obligations.ReportMemoryStaysSound : Prop :=
  ∀ s t : State, memoryOk s.rpm = true → step s = .next t → memoryOk t.rpm = true

/-- A pending wake source always has its status set, and POWER_BUTTON stays enabled (R133). -/
def Obligations.PendingWakeSourcesHaveStatus : Prop :=
  ∀ s t : State, wakeTableOk s.lwu = true → step s = .next t → wakeTableOk t.lwu = true

/-- Charge states stay as R41 derives them, and no target current flows but under R57's second law. -/
def Obligations.ChargeTargetsFlowOnlyWhileCharging : Prop :=
  ∀ s t : State, (∀ p, chargeOk s p = true) → step s = .next t → ∀ p, chargeOk t p = true

/-- Every populated fan's duty stays what R80 makes of the state, and its applied duty what R81 makes of the duty. -/
def Obligations.FanDutyFollowsTheState : Prop :=
  ∀ s t : State, (∀ i, dutyOk s i = true) → step s = .next t → ∀ i, dutyOk t i = true

/-- The reported-down set stays within the rollover limit, and empty while the keyboard is suppressed (R92, R98, R101); the
model's own flag of a fresh start stands in STARTING (log 49). -/
def Obligations.ReportedDownSetStaysBounded : Prop :=
  ∀ s t : State, keyboardOk s = true → step s = .next t → keyboardOk t = true

/-- The budget record stays the computation of R53 to R57 on its present inputs, and the channels drive its targets. V_src
and I_src of 0 while no source is active are the model's choice (log 54). -/
def Obligations.BudgetStaysTheComputationOfItsInputs : Prop :=
  ∀ s t : State, budgetOk s = true → step s = .next t → budgetOk t = true

/-- The platform RSOC stays R31's share of the pack records, the discharge switches those of R30, and THROTTLE and the LEDs
what R168 to R170 give. -/
def Obligations.RsocSwitchesAndOutputsStayDerived : Prop :=
  ∀ s t : State, step s = .next t →
    (s.pks.rsoc = rsocShare s.pks.record.a s.pks.record.b → t.pks.rsoc = rsocShare t.pks.record.a t.pks.record.b) ∧
    (switchesOk s = true → switchesOk t = true) ∧ (outputsOk s = true → outputsOk t = true)

/-- The reset state meets every invariant above. -/
def Obligations.ResetMeetsTheInvariants : Prop :=
  busSettled State.reset = true ∧ railsOk State.reset.psq = true ∧ faultsOk State.reset.flt = true ∧
    memoryOk State.reset.rpm = true ∧ wakeTableOk State.reset.lwu = true ∧ (∀ p, chargeOk State.reset p = true) ∧
    (∀ i, dutyOk State.reset i = true) ∧ keyboardOk State.reset = true ∧ budgetOk State.reset = true ∧
    State.reset.pks.rsoc = rsocShare State.reset.pks.record.a State.reset.pks.record.b ∧
    switchesOk State.reset = true ∧ outputsOk State.reset = true

/-! ## The link (chapters 10 and 11) -/

/-- PING (R186). -/
def Obligations.PingEchoesItsPayload : Prop :=
  ∀ (p : List Byte) (s : State), quiet s = true →
    exec (.ping p) s = .next (answered 0x01 (if p.length ≤ 55 then 0 :: p else [4]) s)

/-- LINK_START, CONTROLLER_RESTART and STATUS_GET with an empty payload (R185, R188, R187). -/
def Obligations.LinkStartRestartAndStatusAreServed : Prop :=
  ∀ s : State, quiet s = true →
    exec (.linkStart []) s = .next (answered 0x02 [0] { s with lkp.run := true }) ∧
    exec (.controllerRestart []) s = .next
      { s with
        lkp :=
          { s.lkp with
            assembly := .hunt, gapLeft := 0, service := .restart,
            replies := s.lkp.replies ++ [⟨⟨0x84, [0]⟩, true⟩] } } ∧
    exec (.statusGet []) s = .next (answered 0x03
    ([0, boolByte s.lkp.run] ++ le16 s.lkp.errors ++ stampBytes s.uptime ++
      [boolByte s.lkp.restarted,
        flagByte [s.straps.packs2, s.straps.fans2, s.straps.columns18, s.straps.baud1M, s.straps.barrelFitted],
        byteOf s.psq.state.code, byteOf (sourceCode s.srs.active), byteOf s.flt.level.code] ++
      le16 s.rpm.keys.length ++
      [byteOf s.rpm.notices.length, byteOf s.rpm.attnLevel, flagByte [s.rpm.attnLow, s.flt.throttle]]) s)

/-- LINK_SETUP of six bytes: WRONG_STATE in RUN, BAD_VALUE for unsound areas, and else both queues are emptied and laid out;
a corrected counter at or above the new limit is reported as a detection of RAM_CORRECTED_LIMIT with detail 2 and returns to 0
(R193, R185). Where that detection raises a FAULT notice, what ATTN does with it is the model's choice (log 62) and is not
stated. -/
def Obligations.LinkSetupLaysOutTheQueues : Prop :=
  ∀ (a b c d level limit : Byte) (s : State), quiet s = true →
    let key : Area := ⟨a.toNat, b.toNat⟩
    let notice : Area := ⟨c.toNat, d.toNat⟩
    let sound :=
      a.toNat < b.toNat ∧ c.toNat < d.toNat ∧ b.toNat ≤ 64 ∧ d.toNat ≤ 64 ∧ (b.toNat ≤ c.toNat ∨ d.toNat ≤ a.toNat)
    let done (u : State) : State := answered 0x05
      ((if 7 < level.toNat ∨ limit = 0 then 1 else 0) :: (le16 s.rpm.keys.length ++ [byteOf s.rpm.notices.length] ++
        [a, b, c, d, byteOf (min 7 level.toNat), byteOf (max 1 limit.toNat)])) u
    let laid : ReportMemory :=
      { s.rpm with
        keyArea := key, noticeArea := notice, keys := [], notices := [], attnLevel := min 7 level.toNat
        correctedLimit := max 1 limit.toNat, attnLow := false }
    let u := s.flt.get .ramCorrectedLimit
    (s.lkp.run = true → exec (.linkSetup [a, b, c, d, level, limit]) s = .next (answered 0x05 [6] s)) ∧
    (s.lkp.run = false → ¬sound →
      exec (.linkSetup [a, b, c, d, level, limit]) s = .next (answered 0x05 [5] s)) ∧
    (s.lkp.run = false → sound → s.rpm.corrected < max 1 limit.toNat →
      exec (.linkSetup [a, b, c, d, level, limit]) s = .next (done { s with rpm := laid })) ∧
    (s.lkp.run = false → sound → max 1 limit.toNat ≤ s.rpm.corrected →
      ∃ t, exec (.linkSetup [a, b, c, d, level, limit]) s = .next t ∧ recorded .ramCorrectedLimit 2 s t ∧
        t = { s with rpm := t.rpm, flt := t.flt, ind := t.ind, lkp := (done s).lkp } ∧
        (u.masked = true ∨ u.status = true → t.rpm = { laid with corrected := 0 }) ∧
        (u.masked = false → u.status = false →
          t.rpm = { laid with
                    corrected := 0, attnLow := t.rpm.attnLow
                    notices :=
                      [⟨.fault .ramCorrectedLimit 2 (min 255 (u.count + 1)), 1, s.uptime, .good, .good, .good,
                        .good⟩] }))

/-- QUEUE_READ removes the oldest entries, up to six key events or three notices, and delivers them, from queues with no
word in error (R196, R198). Of an only entry of a queue, each word with a single-bit error is corrected and counted, and as
the counter reaches the corrected limit RAM_CORRECTED_LIMIT is detected with the queue as its detail and the counter begins
again; a double-bit error in any word drops the entry, with RAM_UNCORRECTABLE (R197). The two kinds are stated for the NOTICE
queue where their detection raises no FAULT notice, which the same read could deliver. That a maximum above the limit is
answered OK_ADJUSTED where the queue is empty too is the model's choice (log 66). -/
def Obligations.QueueReadDeliversTheOldest : Prop :=
  ∀ (most : Byte) (s : State), quiet s = true → most ≠ 0 →
    ((s.rpm.keys.all soundKey) = true →
      let n := min (min 6 most.toNat) s.rpm.keys.length
      exec (.queueRead [0, most]) s = .next (answered 0x06
        ([if 6 < most.toNat then 1 else 0, 0, byteOf n] ++ le16 (s.rpm.keys.length - n) ++
          ((s.rpm.keys.take n).map fun e => e.event.bytes).flatten)
        (if n = 0 then s else { s with rpm := judgeAttn { s.rpm with keys := s.rpm.keys.drop n } }))) ∧
    ((s.rpm.notices.all soundNotice) = true →
      let n := min (min 3 most.toNat) s.rpm.notices.length
      exec (.queueRead [1, most]) s = .next (answered 0x06
        ([if 3 < most.toNat then 1 else 0, 1, byteOf n] ++ le16 (s.rpm.notices.length - n) ++
          ((s.rpm.notices.take n).map StoredNotice.bytes).flatten)
        (if n = 0 then s else { s with rpm := judgeAttn { s.rpm with notices := s.rpm.notices.drop n } }))) ∧
    (∀ (e : StoredKey) (f : StoredNotice),
      s.rpm.corrected < s.rpm.correctedLimit →
      let limit := s.rpm.correctedLimit
      let keySum := s.rpm.corrected + singles [e.w0, e.w1]
      let keyLost := spoilt [e.w0, e.w1]
      let noticeSum := s.rpm.corrected + singles [f.w0, f.w1, f.w2, f.w3]
      let noticeLost := spoilt [f.w0, f.w1, f.w2, f.w3]
      let quietly (k : FaultKind) : Prop := (s.flt.get k).masked = true ∨ (s.flt.get k).status = true
      (most.toNat ≤ 6 → s.rpm.keys = [e] → (s.rpm.notices.all soundNotice) = true → keySum < 2 * limit →
        let read : State := answered 0x06 (if keyLost then [0, 0, 0, 0, 0] else [0, 0, 1, 0, 0] ++ e.event.bytes) s
        ∃ t, exec (.queueRead [0, most]) s = .next t ∧ t.rpm.keys = [] ∧
          t.rpm.corrected = (if limit ≤ keySum then keySum - limit else keySum) ∧
          (limit ≤ keySum → recorded .ramCorrectedLimit 0 s t) ∧
          (keyLost = true → recorded .ramUncorrectable 0 s t) ∧
          t = { s with lkp := read.lkp, rpm := t.rpm, flt := t.flt, ind := t.ind } ∧
          (keySum < limit → keyLost = false →
            t = { read with rpm := judgeAttn { s.rpm with keys := [], corrected := keySum } })) ∧
      (most.toNat ≤ 3 → s.rpm.notices = [f] → noticeSum < 2 * limit → quietly .ramCorrectedLimit →
        quietly .ramUncorrectable →
        let read : State := answered 0x06 (if noticeLost then [0, 1, 0, 0, 0] else [0, 1, 1, 0, 0] ++ f.bytes) s
        ∃ t, exec (.queueRead [1, most]) s = .next t ∧
          (limit ≤ noticeSum → recorded .ramCorrectedLimit 1 s t) ∧
          (noticeLost = true → recorded .ramUncorrectable 1 s t) ∧
          t = { s with
                lkp := read.lkp, flt := t.flt, ind := t.ind
                rpm := judgeAttn
                  { s.rpm with
                    notices := [], corrected := if limit ≤ noticeSum then noticeSum - limit else noticeSum } } ∧
          (noticeSum < limit → noticeLost = false → t.flt = s.flt ∧ t.ind = s.ind)))

/-- ATTN_LEVEL_SET sets the level, judges ATTN and reads the report memory back (R199). A notice that a block raises merges
into the entry of its kind, is appended while there is room, evicts the oldest entry of the lowest level where that is below
its own, or is discarded; a lost notice is counted and REPORT_OVERFLOW detected, and ATTN is judged afresh (R195, R198).
Stated of the POWER_BUTTON notice of a release in ON (R157), for a REPORT_OVERFLOW that raises no FAULT notice of its own. -/
def Obligations.AttnLevelSetJudgesAttn : Prop :=
  (∀ (level : Byte) (s : State), quiet s = true →
    let r := judgeAttn { s.rpm with attnLevel := min 7 level.toNat }
    exec (.attnLevelSet [level]) s = .next (answered 0x07
      ((if 7 < level.toNat then 1 else 0) :: byteOf r.attnLevel :: (le16 s.rpm.noticeLost ++
        [byteOf r.corrected, byteOf r.correctedLimit, byteOf r.keyArea.start, byteOf r.keyArea.stop,
          byteOf r.noticeArea.start, byteOf r.noticeArea.stop])) { s with rpm := r }) ∧
    exec (.attnLevelSet []) s = .next (answered 0x07
      (0 :: byteOf s.rpm.attnLevel :: (le16 s.rpm.noticeLost ++
        [byteOf s.rpm.corrected, byteOf s.rpm.correctedLimit, byteOf s.rpm.keyArea.start, byteOf s.rpm.keyArea.stop,
          byteOf s.rpm.noticeArea.start, byteOf s.rpm.noticeArea.stop])) s)) ∧
  ∀ (before : List StoredNotice) (e : StoredNotice) (rest : List StoredNotice) (s : State), busSettled s = true →
    s.psq.state = .on → s.psq.buttonTimer.isSome = true → s.inputs.button = false → s.psq.pressed = true →
    s.psq.pressInOn = true → s.psq.overrideFired = false →
    let n : Notice := .powerButton s.psq.hold
    let fresh (count : Nat) : StoredNotice := ⟨n, count, s.uptime, .good, .good, .good, .good⟩
    let released : State :=
      { s with psq := { s.psq with pressed := false, holding := false, buttonTimer := none } }
    let full := noticeCapacity s.rpm ≤ s.rpm.notices.length
    let lost (q : List StoredNotice) (kind : Nat) : Prop :=
      ∃ t, exec .buttonSettleExpiry s = .next t ∧
        t.rpm = judgeAttn { s.rpm with notices := q, noticeLost := min 65535 (s.rpm.noticeLost + 1) } ∧
        recorded .reportOverflow (byteOf kind) s t ∧ t = { released with rpm := t.rpm, flt := t.flt, ind := t.ind }
    (s.rpm.notices = before ++ e :: rest → kindAbsent n before → e.notice.code = n.code → soundNotice e = true →
      exec .buttonSettleExpiry s = .next
        { released with
          rpm := judgeAttn { s.rpm with notices := before ++ fresh (min 255 (e.count + 1)) :: rest } }) ∧
    (kindAbsent n s.rpm.notices → ¬full →
      exec .buttonSettleExpiry s = .next
        { released with rpm := judgeAttn { s.rpm with notices := s.rpm.notices ++ [fresh 1] } }) ∧
    (kindAbsent n s.rpm.notices → full →
      (s.flt.get .reportOverflow).masked = true ∨ (s.flt.get .reportOverflow).status = true →
      (splitAtLowest s.rpm.notices before e rest → e.notice.level < 5 →
        lost (before ++ rest ++ [fresh 1]) e.notice.code) ∧
      ((∀ x ∈ s.rpm.notices, 5 ≤ x.notice.level) → lost s.rpm.notices 0))

/-- A payload of a length that its request does not allow is answered BAD_LENGTH, and a type that names no request
UNKNOWN_TYPE; nothing else changes (R181, R182). -/
def Obligations.BadLengthAndUnknownTypeChangeNothing : Prop :=
  ∀ (c : Instr) (type : Byte) (p : List Byte) (s : State), quiet s = true → c.wellFormed = true →
    requestOf c = some (type, p) →
    (lengthAllowed type p = false → exec c s = .next (answered type [4] s)) ∧
    (requestTypes.contains type = false → exec c s = .next (answered type [3] s))

/-- A request that completes while the service slot is occupied is answered BUSY and not executed, whichever it is (R181). -/
def Obligations.BusyRequestIsNotExecuted : Prop :=
  ∀ (c : Instr) (type : Byte) (p : List Byte) (s : State), requestOf c = some (type, p) → serviceFree s = false →
    assemblyWaits s = false → repliesFull s = false → busSettled s = true →
    exec c s = .next
      { s with
        lkp :=
          { s.lkp with
            assembly := .hunt, gapLeft := 0, replies := s.lkp.replies ++ [⟨⟨replyType type, [2]⟩, false⟩] } }

/-- Each link error adds one to the counter and changes nothing else but the assembly buffer; at each multiple of 64
LINK_ERRORS is detected with the error's number as its detail, of each of the six errors, and a faulty frame still makes its
LINK_FAULT frame; a counter that holds at 65535 counts and detects no more (R178 to R180). What becomes of a framing error while a frame waits is the model's reading (log 6, log 7). -/
def Obligations.LinkErrorsAreCountedAndDetected : Prop :=
  ∀ s : State, busSettled s = true →
    (s.lkp.errors < 65535 → (s.lkp.errors + 1) % 64 ≠ 0 →
      (assemblyWaits s = false →
        exec .framingError s =
          .next { s with lkp := { s.lkp with errors := s.lkp.errors + 1, assembly := .hunt, gapLeft := 0 } }) ∧
      (assemblyWaits s = true → exec .byteOverrun s = .next { s with lkp.errors := s.lkp.errors + 1 }) ∧
      (∀ value, value ≠ 0x5A → s.lkp.assembly = .hunt →
        exec (.skippedByte value) s = .next { s with lkp.errors := s.lkp.errors + 1 }) ∧
      (∀ taken, partialFrame taken = true → s.lkp.assembly = .hunt →
        exec (.gapTimeout taken) s =
          .next { s with lkp := { s.lkp with errors := s.lkp.errors + 1, assembly := .hunt, gapLeft := 0 } })) ∧
    (s.lkp.errors < 65535 → (s.lkp.errors + 1) % 64 = 0 →
      let detected (c : Instr) (detail : Byte) (t : State) : Prop :=
        exec c s = .next t ∧ t.lkp.errors = s.lkp.errors + 1 ∧ recorded .linkErrors detail s t ∧
          t = { s with lkp := t.lkp, flt := t.flt, ind := t.ind, rpm := t.rpm }
      let faulted (payload : List Byte) (t : State) : Prop :=
        repliesFull s = false → t.lkp.replies = s.lkp.replies ++ [⟨⟨0xFF, payload⟩, false⟩]
      (assemblyWaits s = false →
        (∃ t, detected .framingError 0 t) ∧
        (∀ (type : Byte) (p : List Byte) (check : Byte),
          ∃ t, detected (.checkFault type p check) 4 t ∧ faulted [1, type, byteOf p.length] t) ∧
        ∀ type length : Byte, ∃ t, detected (.lengthFault type length) 5 t ∧ faulted [2, type, length] t) ∧
      (assemblyWaits s = true → ∃ t, detected .byteOverrun 1 t) ∧
      (s.lkp.assembly = .hunt →
        (∀ value, value ≠ 0x5A → ∃ t, detected (.skippedByte value) 3 t) ∧
        ∀ taken, partialFrame taken = true → ∃ t, detected (.gapTimeout taken) 2 t)) ∧
    (s.lkp.errors = 65535 → s.lkp.assembly = .hunt → exec (.skippedByte 0) s = .next s)

/-- A faulty frame counts one error and makes a LINK_FAULT frame, for CHECK and for LENGTH (R180). -/
def Obligations.FaultyFrameMakesLinkFault : Prop :=
  ∀ (type : Byte) (p : List Byte) (check length : Byte) (s : State), busSettled s = true → assemblyWaits s = false →
    repliesFull s = false → s.lkp.errors < 65535 → (s.lkp.errors + 1) % 64 ≠ 0 →
    let faulted (payload : List Byte) : State :=
      { s with
        lkp :=
          { s.lkp with
            errors := s.lkp.errors + 1, assembly := .hunt, gapLeft := 0,
            replies := s.lkp.replies ++ [⟨⟨0xFF, payload⟩, false⟩] } }
    exec (.checkFault type p check) s = .next (faulted [1, type, byteOf p.length]) ∧
      exec (.lengthFault type length) s = .next (faulted [2, type, length])

/-- A frame that has been sent leaves room: it is taken by a finished request's reply first, else by the frame that waits
in the assembly buffer (R181). A line break with no restart pending is a link reset: the assembly buffer and the reply queue
are emptied, a request in service goes on with its reply discarded, and every state outside the link is kept (R184). -/
def Obligations.SentFramesAndBreaksFreeTheLink : Prop :=
  ∀ s : State, busSettled s = true →
    (∀ (o : Outgoing) (rest : List Outgoing), s.lkp.replies = o :: rest → o.restarts = false → rest.length < 2 →
      (∀ f, s.lkp.service = .finished f → f.restarts = false →
        exec .replySent s = .next { s with lkp := { s.lkp with replies := rest ++ [f], service := .empty } }) ∧
      (∀ f, (∀ g, s.lkp.service ≠ .finished g) → s.lkp.assembly = .waiting f →
        exec .replySent s =
          .next { s with lkp := { s.lkp with replies := rest ++ [⟨f, false⟩], assembly := .hunt, gapLeft := 0 } }) ∧
      ((∀ g, s.lkp.service ≠ .finished g) → assemblyWaits s = false →
        exec .replySent s = .next { s with lkp.replies := rest })) ∧
    (s.lkp.replies = [] → exec .replySent s = .next s) ∧
    (restartPending s = false →
      exec .lineBreak s = .next
        { s with
          lkp :=
            { s.lkp with
              assembly := .hunt, gapLeft := 0, replies := [],
              service :=
                match s.lkp.service with
                | .passthrough type _ => .passthrough type true
                | _ => .empty } })

/-! ## Sources (chapter 1) -/

/-- The barrel takes its contract from the identification input as it is detected, and again as that input changes; it is
gone with the detect input (R3, R4, R7, R8). The loss of a barrel that is settled or in use, and a new contract of a settled
one, bring the selection of R10 where its eligibility or its power has changed, and where the outcome is another source the
active source changes: SWITCHING begins again or is abandoned, and the wake source of a change to NONE is set (R11, R12). The flag
switchReplaced of a replaced interval is the model's own (log 51). -/
def Obligations.BarrelDetectionReadsTheContract : Prop :=
  ∀ (reading : AdapterReading) (s : State), busSettled s = true → s.srs.barrel.populated = true →
    let r := s.srs.barrel
    let c := barrelContract reading
    let gone : SourceRecord :=
      { r with present := false, valid := false, voltage := 0, current := 0, power := 0, cls := .none, settle := 0,
               settled := false }
    let read : SourceRecord :=
      { r with present := true, valid := true, voltage := 20000, current := c.1, power := c.2.1, cls := c.2.2,
               settle := if r.present && r.valid then r.settle else 0, settled := r.present && r.valid && r.settled }
    (s.srs.active ≠ some .barrel → r.settled = false →
      (s.inputs.barrelDetect = false → r.present = false →
        ∃ t, exec (.barrelDetectChange true reading) s = .next t ∧
          t = { s with
                inputs := { s.inputs with barrelDetect := true, adapter := reading }
                srs.barrel := { r with present := true, valid := true, voltage := 20000, current := c.1, power := c.2.1,
                                       cls := c.2.2, settle := 0, settled := false }
                flt := t.flt, rpm := t.rpm, ind := t.ind } ∧
          (reading = .noMatch → recorded .sourceInvalid 0 s t) ∧ (reading ≠ .noMatch → t.rpm = s.rpm)) ∧
      (s.inputs.barrelDetect = true →
        ∃ t, exec (.barrelDetectChange false reading) s = .next t ∧
          t = { s with
                inputs := { s.inputs with barrelDetect := false, adapter := reading }, srs.barrel := gone
                flt := t.flt }) ∧
      (r.present = true →
        ∃ t, exec (.adapterIdentificationChange reading) s = .next t ∧
          t = { s with
                inputs.adapter := reading
                srs.barrel := { r with valid := true, voltage := 20000, current := c.1, power := c.2.1, cls := c.2.2,
                                       settle := if r.valid then r.settle else 0 }
                flt := t.flt, rpm := t.rpm, ind := t.ind })) ∧
    (s.inputs.barrelDetect = true →
      ∃ t, exec (.barrelDetectChange false reading) s = .next t ∧ recordTaken .barrel gone s t ∧
        t.srs.port1 = s.srs.port1 ∧ t.srs.port2 = s.srs.port2) ∧
    (r.present = true →
      ∃ t, exec (.adapterIdentificationChange reading) s = .next t ∧ recordTaken .barrel read s t ∧
        t.srs.port1 = s.srs.port1 ∧ t.srs.port2 = s.srs.port2) ∧
    (r.present = false → exec (.adapterIdentificationChange reading) s = .next { s with inputs.adapter := reading })

/-- A port alert and the end of a present port's interval make a contract read due, and a pack's identification and poll
fall due as their waits end, with the bus at work; on a free bus an alert's read begins at once (R5, R21, R24, R26). -/
def Obligations.ReadsFallDueAndBegin : Prop :=
  ∀ (port : PortId) (pack : PackId) (s : State), 
    let asked := s.pbc.portDue.set port true
    let d := s.pks.schedule.get pack
    (s.pbc.running.isSome = true →
      exec (.portAlert port) s = .next { s with pbc.portDue := asked } ∧
      ((s.srs.get port.source).present = true →
        exec (.portReadInterval port) s =
          .next { s with pbc.portDue := asked, srs.portWait := s.srs.portWait.set port 2000 }) ∧
      (d.identLeft.isSome = true →
        exec (.identificationDue pack) s =
          .next { s with pks.schedule := s.pks.schedule.set pack { d with identLeft := none, identDue := true } }) ∧
      (d.pollLeft.isSome = true →
        exec (.pollDue pack) s =
          .next { s with pks.schedule := s.pks.schedule.set pack { d with pollLeft := none, pollDue := true } })) ∧
    (busSettled s = true →
      ((s.srs.get port.source).present = false → exec (.portReadInterval port) s = .next s) ∧
      (d.identLeft = none → exec (.identificationDue pack) s = .next s) ∧
      (d.pollLeft = none → exec (.pollDue pack) s = .next s)) ∧
    (busSettled s = true → s.pbc.running = none → s.inputs.busLineHigh = true →
      exec (.portAlert port) s = .next
        { s with
          flt := (endFault .busStuck s).flt
          pbc :=
            { s.pbc with
              running := some ⟨port.device, false, .readBlock 0x40 5, false, false, 25, false⟩,
              turn := some ⟨port.device, .contract, [], []⟩, lastTurn := port.device, recoveryFails := 0 } })

/-- A source that has been present and valid for 500 ms is settled, and where that makes it eligible the active source is the
outcome of a selection; the SWITCHING interval ends in STEADY, with the budget recomputed and the selection of R11 made, and
the expiry of one that has been abandoned or restarted at this moment does nothing (R8, R11, R12; how the model knows that
expiry is log 51). -/
def Obligations.SettlingAndSwitchingExpire : Prop :=
  ∀ (i : SourceId) (s : State), busSettled s = true →
    let r := s.srs.get i
    let new := { r with settle := 500, settled := true }
    (r.present = true → r.valid = true → r.settled = false →
      (eligible new = false → exec (.settleTimeReached i) s = .next { s with srs := s.srs.set i new }) ∧
      (eligible new = true → ∃ t, exec (.settleTimeReached i) s = .next t ∧ recordTaken i new s t)) ∧
    ((r.present && r.valid && !r.settled) = false → exec (.settleTimeReached i) s = .next s) ∧
    (s.srs.switchReplaced = true →
      exec .switchingExpiry s = .next { s with srs.switchReplaced := false }) ∧
    (s.srs.switchReplaced = false →
      let x := { s.srs with switching := false, switchLeft := 0 }
      (s.srs.switching = true → outcome x = s.srs.active →
        ∃ t, exec .switchingExpiry s = .next t ∧ t.chc.budget.pInMax = pInMax x ∧ t.chc.budget.stamp = s.uptime ∧
          t = { s with
                srs := x, chc.context := t.chc.context, chc.budget := t.chc.budget, pks.schedule := t.pks.schedule,
                ind := t.ind, rpm := t.rpm, flt := t.flt }) ∧
      (s.srs.switching = true → outcome x ≠ s.srs.active →
        ∃ t, exec .switchingExpiry s = .next t ∧ sourceChanged x (outcome x) t) ∧
      (s.srs.switching = false → exec .switchingExpiry s = .next s))

/-- The three cases of R10, and none: the pinned source where it is eligible; else the active source that is still eligible
and not beaten by 110 %; else the best eligible source; else NONE. -/
def Obligations.SelectionFollowsPinStayBest : Prop :=
  ∀ x : Selector,
    (∀ i, x.pin = some i → eligible (x.get i) = true → outcome x = some i) ∧
    ((∀ i, x.pin = some i → eligible (x.get i) = false) →
      (∀ a b, x.active = some a → eligible (x.get a) = true → isBest x b →
        a = b ∨ (x.get b).power * 100 < (x.get a).power * 110 → outcome x = some a) ∧
      (∀ b, isBest x b →
        (∀ a, x.active = some a → eligible (x.get a) = true →
          a ≠ b ∧ (x.get a).power * 110 ≤ (x.get b).power * 100) →
        outcome x = some b) ∧
      ((∀ i, eligible (x.get i) = false) → outcome x = none))

/-- A P_sys sample is stored, recomputes the budget, and is judged for overload: three samples in a row on the other side of
P_in_max bring the overload into force or end it, while a source is active and STEADY (R13, R15). -/
def Obligations.PSysSampleIsJudgedForOverload : Prop :=
  ∀ (reading : Nat) (s : State), busSettled s = true →
    ∃ t, exec (.pSysSample reading) s = .next t ∧
      t.srs = { s.srs with
                pSys := min 200000 reading, overload := t.srs.overload, overloadRun := t.srs.overloadRun } ∧
      t.chc.budget.pSys = min 200000 reading ∧ t.chc.budget.stamp = s.uptime ∧
      (if s.srs.active = none ∨ s.srs.switching = true then
        t.srs.overload = s.srs.overload ∧ t.srs.overloadRun = s.srs.overloadRun
       else if decide (pInMax s.srs < min 200000 reading) = s.srs.overload then
        t.srs.overload = s.srs.overload ∧ t.srs.overloadRun = 0
       else if s.srs.overloadRun < 2 then
        t.srs.overload = s.srs.overload ∧ t.srs.overloadRun = s.srs.overloadRun + 1
       else t.srs.overload = !s.srs.overload ∧ t.srs.overloadRun = 0) ∧
      t = { s with
            srs := t.srs, chc.context := t.chc.context, chc.budget := t.chc.budget, pks.schedule := t.pks.schedule,
            ind := t.ind, rpm := t.rpm, flt := t.flt }

/-- SOURCE_POLICY is refused for a bad value, and where it would leave neither a source nor a pack that supplies the
platform; else it is taken, and a selection made (R16). -/
def Obligations.SourcePolicyIsRefusedOrTaken : Prop :=
  ∀ (pin mask margin : Byte) (s : State), quiet s = true →
    let x : Selector :=
      { s.srs with
        barrel.disabled := mask.getLsbD 0, port1.disabled := mask.getLsbD 1, port2.disabled := mask.getLsbD 2
        pin := if pin = 1 then some .barrel else if pin = 2 then some .port1 else if pin = 3 then some .port2 else none
        margin := min 20 margin.toNat }
    let on := s.pks.record.a.switchOn || s.pks.record.b.switchOn
    (3 < pin.toNat ∨ 7 < mask.toNat → exec (.sourcePolicy [pin, mask, margin]) s = .next (answered 0x10 [5] s)) ∧
    (pin.toNat ≤ 3 → mask.toNat ≤ 7 → outcome x = none → on = false →
      exec (.sourcePolicy [pin, mask, margin]) s = .next (answered 0x10 [6] s)) ∧
    (pin.toNat ≤ 3 → mask.toNat ≤ 7 → (outcome x ≠ none ∨ on = true) →
      ∃ t, exec (.sourcePolicy [pin, mask, margin]) s = .next t ∧
        t.srs = { x with
                  active := outcome x, switching := t.srs.switching, switchLeft := t.srs.switchLeft,
                  switchReplaced := t.srs.switchReplaced, overload := t.srs.overload, overloadRun := t.srs.overloadRun } ∧
        t.chc.budget.margin = min 20 margin.toNat ∧
        answers 0x10 [if 20 < margin.toNat then 1 else 0, pin, mask, byteOf (min 20 margin.toNat),
          byteOf (sourceCode (outcome x)), boolByte t.srs.switching] s t ∧
        (outcome x = s.srs.active →
          t = { s with
                srs := x, lkp := t.lkp, chc.context := t.chc.context, chc.budget := t.chc.budget,
                pks.schedule := t.pks.schedule, ind := t.ind, rpm := t.rpm, flt := t.flt }))

/-! ## Records read by the host (chapters 1 to 9) -/

/-- The reads of the sources, the packs, the profile and the budget answer with what stands and change nothing; PACK_SNAPSHOT
copies both pack records, the budget record, the RSOC and the uptime, and nothing else (R17, R32, R33, R62, R66). -/
def Obligations.PowerRecordsAreReadOrCopied : Prop :=
  ∀ (p : PackId) (first part : Byte) (s : State), quiet s = true →
    let r := s.pks.record.get p
    let c := s.chc.context.get p
    let pack := byteOf p.code
    exec (.sourceStatusGet []) s = .next (answered 0x11
      ([0, byteOf (sourceCode s.srs.active), boolByte s.srs.switching, byteOf (sourceCode s.srs.pin),
        flagByte [s.srs.barrel.disabled, s.srs.port1.disabled, s.srs.port2.disabled], byteOf s.srs.margin] ++
        sourceBytes s.srs.barrel ++ sourceBytes s.srs.port1 ++ sourceBytes s.srs.port2 ++ le32 s.srs.pSys ++
        le32 (pInMax s.srs) ++ [boolByte s.srs.overload, byteOf s.srs.overloadRun]) s) ∧
    exec (.packSnapshot []) s = .next (answered 0x21 (0 :: stampBytes s.uptime)
      { s with pks.snapshot := some ⟨s.pks.record, s.chc.budget, s.pks.rsoc, s.uptime⟩ }) ∧
    (r.populated = true →
      exec (.packStatusGet [pack, 0]) s = .next (answered 0x20
        ([0, pack, 0, 0, 0, 0, 0] ++ packBytes r ++ [byteOf s.pks.rsoc]) s) ∧
      (∀ n, s.pks.snapshot = some n →
        exec (.packStatusGet [pack, 1]) s = .next (answered 0x20
          ([0, pack, 1] ++ stampBytes n.stamp ++ packBytes (n.packs.get p) ++ [byteOf n.rsoc]) s)) ∧
      (first.toNat ≤ 7 →
        let shown := returnedStages c first.toNat
        exec (.profileGet [pack, first]) s = .next (answered 0x32
          ([0, pack, byteOf c.state.code, flagByte c.causes.flags,
            flagByte [c.heldLatch, c.completeLatch, c.timeoutLatch], byteOf c.pointer, byteOf (c.stages.length - 1)] ++
            le32 c.elapsed ++ [byteOf c.taperRun] ++ le16 c.targetCurrent ++ le16 c.targetVoltage ++
            [first, byteOf shown.length] ++ (shown.map stageBytes).flatten) s))) ∧
    (part.toNat ≤ 1 →
      exec (.budgetGet [0, part]) s = .next (answered 0x35
        ([0, 0, part, 0, 0, 0, 0] ++ budgetPart part.toNat s.chc.budget) s) ∧
      (∀ n, s.pks.snapshot = some n →
        exec (.budgetGet [1, part]) s = .next (answered 0x35
          ([0, 1, part] ++ stampBytes n.stamp ++ budgetPart part.toNat n.budget) s)) ∧
      (s.pks.snapshot = none → exec (.budgetGet [1, part]) s = .next (answered 0x35 [7] s)))

/-- The reads of the sensors and fans, the keyboard, the key map and the fault table answer with what stands, and a request
with an empty payload reads its settings back; nothing changes (R86, R89, R105, R107, R113, R127, R141, R161, R172, R174,
R175, R64). -/
def Obligations.PlatformRecordsAreReadWithoutEffect : Prop :=
  ∀ (first most : Byte) (s : State), quiet s = true →
    exec (.thermalStatusGet []) s = .next (answered 0x44
      ([0, byteOf s.thu.derate, byteOf s.thu.heldEntry.val, boolByte s.thu.trip] ++
        (s.thu.sensors.toList.map sensorBytes).flatten ++ fanBytes s.fnc.fan.fan0 ++ fanBytes s.fnc.fan.fan1) s) ∧
    exec (.keyStateGet []) s = .next (answered 0x51
      (0 :: (List.finRange 18).map (columnByte s.kbs) ++ le16 s.krp.keyLost ++
        [byteOf s.kbs.mode.code,
          flagByte [s.kbs.suppression.closed, s.kbs.suppression.tablet, s.kbs.suppression.notOn]]) s) ∧
    (let total := if s.straps.columns18 then 144 else 128
     let n := min (min 16 most.toNat) (total - first.toNat)
     first.toNat < total → most ≠ 0 →
      exec (.keymapGet [first, most]) s = .next (answered 0x53
        ([if n < most.toNat then 1 else 0, first, byteOf n] ++
          (((s.kbs.map.toList.drop first.toNat).take n).map mapEntryBytes).flatten) s)) ∧
    (let n := min (min 5 most.toNat) (20 - first.toNat)
     first.toNat ≤ 19 → most ≠ 0 →
      exec (.faultGet [first, most]) s = .next (answered 0x70
        ((if n < most.toNat then 1 else 0) :: faultSummary s ++ [first, byteOf n] ++
          (((s.flt.record.toList.drop first.toNat).take n).map faultBytes).flatten) s)) ∧
    exec (.faultGet []) s = .next (answered 0x70 (0 :: faultSummary s ++ [0, 0]) s) ∧
    exec (.thermalConfig []) s = .next (answered 0x41 (0 :: thermalBytes s.thu) s) ∧
    exec (.keyConfig []) s = .next (answered 0x50 (0 :: keySettingsBytes s.kbs.settings) s) ∧
    exec (.backlightSet []) s = .next (answered 0x54 (0 :: backlightBytes s) s) ∧
    exec (.wakeConfig []) s = .next (answered 0x60 (0 :: wakeConfigBytes s.lwu) s) ∧
    exec (.platformRequestSettings []) s = .next (answered 0x68 (0 :: platformBytes s) s) ∧
    exec (.faultMaskSet []) s = .next (answered 0x72 (0 :: faultMasks s.flt) s) ∧
    exec (.containmentSet []) s = .next (answered 0x73 [0, byteOf s.flt.mode.code, byteOf s.flt.level.code] s) ∧
    exec (.chargePolicy []) s = .next (answered 0x34
      [0, byteOf s.chc.policy.order.code, byteOf s.chc.policy.limit, byteOf s.chc.policy.preset,
        byteOf s.chc.policy.recharge] s)

/-! ## The pack bus and the packs (chapter 2) -/

/-- A first attempt that fails or runs for 25 ms is followed by the second at once, after a recovery where the data line is
low; a recovery that finds the line high begins its attempt, one that finds it low is itself a failed attempt, and the second
failed recovery in a row is BUS_STUCK, as is the first where a restart has kept BUS_STUCK active (R177; how that judgement is
known is log 14); the failed recovery of a second attempt ends the transaction, and a passthrough is answered BUS_FAILED (R19,
R20, R34). -/
def Obligations.BusAttemptsRepeatAndRecover : Prop :=
  ∀ (x : Transaction) (s : State), s.pbc.running = some x →
    let fails := min 2 (s.pbc.recoveryFails + 1)
    let stuck := s.pbc.recoveryFails = if (s.flt.get .busStuck).active then 0 else 1
    (x.second = false → x.recovering = false → ∀ line c, c = .busAttemptEnd .notAcked line ∨ c = .attemptTimeout line →
      exec c s = .next
        (if line then
          { s with
            inputs.busLineHigh := true, flt := (endFault .busStuck s).flt
            pbc :=
              { s.pbc with
                running := some { x with second := true, recovering := false, left := 25 }, recoveryFails := 0 } }
         else
          { s with
            inputs.busLineHigh := false
            pbc.running := some { x with second := true, recovering := true, left := 0 } })) ∧
    (x.recovering = true →
      exec (.busRecoveryEnd true) s = .next
        { s with
          inputs.busLineHigh := true, flt := (endFault .busStuck s).flt
          pbc := { s.pbc with running := some { x with recovering := false, left := 25 }, recoveryFails := 0 } }) ∧
    (x.second = false → x.recovering = true →
      ∃ t, exec (.busRecoveryEnd false) s = .next t ∧
        t = { s with
              inputs.busLineHigh := false
              pbc :=
                { s.pbc with
                  running := some { x with second := true, recovering := true, left := 0 }, recoveryFails := fails }
              flt := t.flt, ind := t.ind, rpm := t.rpm } ∧
        (¬stuck → t.flt = s.flt) ∧
        (stuck → recorded .busStuck (byteOf x.device.code) s t)) ∧
    (x.second = true → x.recovering = true →
      ∃ t, exec (.busRecoveryEnd false) s = .next t ∧ t.inputs.busLineHigh = false ∧ t.pbc.recoveryFails = fails ∧
        (∀ y, t.pbc.running = some y → y.second = false ∧ y.recovering = true) ∧
        (¬stuck → t.flt.get .busStuck = s.flt.get .busStuck) ∧
        (stuck → recorded .busStuck (byteOf x.device.code) s t) ∧
        (∀ (q : Passthrough) (type : Byte), x.passthrough = true → s.pbc.slot = some q → q.packGone = false →
          s.lkp.service = .passthrough type false → repliesFull s = false →
          t.pbc.slot = none ∧ t.lkp.service = .empty ∧
            t.lkp.replies =
              s.lkp.replies ++ [⟨⟨replyType type, [8, byteOf q.device.code, opCommand q.op]⟩, false⟩]))

/-- PACK_READ and PACK_WRITE enter the passthrough slot and keep the service slot; an absent pack is answered NOT_PRESENT, and
a bad device or a count of 0 BAD_VALUE (R34, R181). Stated while the bus is at work. -/
def Obligations.PassthroughEntersItsSlot : Prop :=
  ∀ (d : BusDevice) (device command count : Byte) (data : List Byte) (s : State), linkIdle s = true →
    s.pbc.running.isSome = true →
    let slotted (type : Byte) (op : BusOp) (adjusted : Bool) : State :=
      { s with
        pbc.slot := some ⟨d, op, adjusted, false, false⟩
        lkp := { s.lkp with assembly := .hunt, gapLeft := 0, service := .passthrough type false } }
    let there :=
      match d with
      | .packA => s.pks.record.a.state ≠ .absent
      | .packB => s.pks.record.b.state ≠ .absent
      | .port1 | .port2 => True
    (there → count ≠ 0 →
      exec (.packRead [byteOf d.code, command, count]) s =
        .next (slotted 0x22 (.readBlock command (min 32 count.toNat)) (decide (32 < count.toNat)))) ∧
    (there → 1 ≤ data.length → data.length ≤ 32 →
      exec (.packWrite (byteOf d.code :: command :: data)) s =
        .next (slotted 0x23 (.writeBlock command data) false)) ∧
    (¬there → count ≠ 0 →
      exec (.packRead [byteOf d.code, command, count]) s = .next (answered 0x22 [7] s)) ∧
    (3 < device.toNat ∨ count = 0 →
      exec (.packRead [device, command, count]) s = .next (answered 0x22 [5] s))

/-- The outcome of a passthrough is answered with its status, device, command, count and data, or BUS_FAILED after its second
attempt; a contract block updates its port's record, and for a port that is settled or in use brings the selection and the
change of the active source that follow from it (R34, R6, R8, R10 to R12). The flag switchReplaced of a replaced SWITCHING
interval is the model's own (log 51). -/
def Obligations.BusOutcomesReachTheirRequester : Prop :=
  ∀ (x : Transaction) (line : Bool) (s : State), s.pbc.running = some x → x.recovering = false →
    (∀ (q : Passthrough) (type : Byte), x.passthrough = true → s.pbc.slot = some q → q.packGone = false →
      s.lkp.service = .passthrough type false → repliesFull s = false → s.pbc.turn = none →
      (∀ d, pollerDue s d = false) →
      let ended (payload : List Byte) : State :=
        { s with
          inputs.busLineHigh := line
          pbc := { s.pbc with running := none, slot := none }
          lkp :=
            { s.lkp with
              service := .empty, replies := s.lkp.replies ++ [⟨⟨replyType type, payload⟩, false⟩] } }
      (∀ command count data, x.op = .readBlock command count → q.op = x.op → data.length = count →
        exec (.busAttemptEnd (.acked data) line) s = .next
          (ended ((if q.adjusted then 1 else 0) :: byteOf q.device.code :: command :: byteOf count :: data))) ∧
      (∀ command data, x.op = .writeBlock command data → q.op = x.op →
        exec (.busAttemptEnd (.acked []) line) s = .next
          (ended [if q.adjusted then 1 else 0, byteOf q.device.code, command, byteOf data.length])) ∧
      (x.second = true →
        exec (.busAttemptEnd .notAcked line) s = .next (ended [8, byteOf q.device.code, opCommand q.op]))) ∧
    (∀ (p : PortId) (turn : Turn) (block : List Byte), x.passthrough = false → x.abandoned = false →
      x.device = p.device → x.op = .readBlock 0x40 5 → s.pbc.turn = some turn → block.length = 5 →
      let r := s.srs.get p.source
      let mV := 50 * le16At block 1
      let mA := min 5000 (10 * le16At block 3)
      let good := decide (5000 ≤ mV ∧ mV ≤ 20000)
      let kept := r.present && r.valid && good
      let new : SourceRecord :=
        if byteAt block 0 = 0 then
          { r with
            present := false, valid := false, voltage := 0, current := 0, power := 0, cls := .none, settle := 0
            settled := false }
        else
          { r with
            present := true, valid := good, voltage := mV, current := mA, power := mV * mA / 1000, cls := .none
            settle := if kept then r.settle else 0, settled := kept && r.settled }
      ∃ t, exec (.busAttemptEnd (.acked block) line) s = .next t ∧ recordTaken p.source new s t ∧
        (r.settled = false → s.srs.active ≠ some p.source →
          t = { s with
                inputs.busLineHigh := line
                srs :=
                  { s.srs.set p.source new with
                    awaitRead := s.srs.awaitRead.set p false, portWait := t.srs.portWait }
                pbc := t.pbc, pks.schedule := t.pks.schedule, flt := t.flt, ind := t.ind, rpm := t.rpm }))

/-- A populated pack that is inserted begins in IDENTIFY with an identification due; one that is removed is ABSENT at once,
with its schedule idle, its turn abandoned and its charge context ABSENT with the profile list kept; an unpopulated pack's
input is not watched (R23, R38, R44). A passthrough to the removed pack is answered NOT_PRESENT at once while it waits, and at
its outcome, whatever that is, where it runs (R35). -/
def Obligations.PresenceBeginsAndEndsAPack : Prop :=
  ∀ (p : PackId) (s : State), s.pbc.running.isSome = true →
    let r := s.pks.record.get p
    let other := p.other
    (r.populated = true → r.present = false →
      ∃ t, exec (.packPresenceChange p true) s = .next t ∧
        t.pks.record.get p =
          { absentPack true with
            present := true, state := .identify, switchOn := true, switchHeld := false, switchWritten := false } ∧
        t.pks.schedule.get p = ⟨true, false, none, none⟩ ∧ (t.chc.context.get p).state = .idle ∧
        (t.chc.context.get p).targetCurrent = 0 ∧ t.srs = s.srs ∧ t.pbc = s.pbc ∧
        t.thu.settings = s.thu.settings ∧ t.chc.policy = s.chc.policy) ∧
    (r.populated = true → r.present = true →
      ∃ t, exec (.packPresenceChange p false) s = .next t ∧ t.pks.record.get p = absentPack true ∧
        t.pks.schedule.get p = ⟨false, false, none, none⟩ ∧
        (t.chc.context.get p).state = .absent ∧ (t.chc.context.get p).stages = (s.chc.context.get p).stages ∧
        (t.chc.context.get p).pointer = 0 ∧ (t.chc.context.get p).targetCurrent = 0 ∧
        (t.chc.context.get p).targetVoltage = 0 ∧ (t.chc.context.get p).completeLatch = false ∧
        (∀ u, t.pbc.turn = some u → u.poller ≠ p.device) ∧ t.pbc.running.isSome = true ∧
        (t.thu.sensors[p.sensor]).valid = false ∧ t.srs = s.srs ∧ t.chc.policy = s.chc.policy ∧
        (t.pks.record.get other).voltage = (s.pks.record.get other).voltage ∧
        (∀ (q : Passthrough) (type : Byte), s.pbc.slot = some q →
          (q.device = p.device → q.running = false → s.lkp.service = .passthrough type false → repliesFull s = false →
            t.pbc.slot = none ∧ t.lkp.service = .empty ∧
              t.lkp.replies = s.lkp.replies ++ [⟨⟨replyType type, [7]⟩, false⟩]) ∧
          (q.device = p.device → q.running = true →
            t.pbc.slot = some { q with packGone := true } ∧ t.lkp.service = s.lkp.service ∧
              t.lkp.replies = s.lkp.replies) ∧
          (q.device ≠ p.device →
            t.pbc.slot = some q ∧ t.lkp.service = s.lkp.service ∧ t.lkp.replies = s.lkp.replies))) ∧
    (∀ (x : Transaction) (q : Passthrough) (type : Byte) (result : AttemptResult) (line : Bool),
      s.pbc.running = some x → x.recovering = false → x.passthrough = true → s.pbc.slot = some q →
      q.device = p.device → q.packGone = true → s.lkp.service = .passthrough type false → repliesFull s = false →
      s.pbc.turn = none → (∀ d, pollerDue s d = false) → (result = .notAcked → x.second = true) →
      (∀ data, result = .acked data → fits x.op data = true) →
      exec (.busAttemptEnd result line) s = .next
        { s with
          inputs.busLineHigh := line
          pbc := { s.pbc with running := none, slot := none }
          lkp :=
            { s.lkp with
              service := .empty, replies := s.lkp.replies ++ [⟨⟨replyType type, [7]⟩, false⟩] } }) ∧
    (r.populated = false → ∀ active,
      exec (.packPresenceChange p active) s = .next { s with inputs := withPresence p active s.inputs })

/-- The last word of a good poll updates the whole record and sets the next poll, and that of an identification also sets
identified, cycle count and design capacity and makes the pack READY; an alarm condition adds its cause, with its SEVERE
detection and PACK_ALARM, and a rising alarm flag sets PACK_ALARM. A failed poll or identification raises the fail run, and
at 3 the pack is FAULTED with COMM and PACK_COMM_LOST is detected. A discharge-switch write is acknowledged by its success
alone (R24 to R30). -/
def Obligations.PollsUpdateOrFaultThePack : Prop :=
  ∀ (p : PackId) (x : Transaction) (words : List Word16) (line : Bool) (s : State),
    let r := s.pks.record.get p
    let word (lo hi : Byte) (i : Nat) : Word16 := (words ++ [BitVec.ofNat 16 (lo.toNat + 256 * hi.toNat)]).getD i 0
    let packsOnly (t : State) : Prop :=
      t = { s with
            inputs.busLineHigh := line, pbc := t.pbc, flt := t.flt
            pks := { s.pks with record := t.pks.record, schedule := t.pks.schedule } }
    (lastWordOnBus p .poll x words s → ∀ lo hi : Byte,
      ∃ t, exec (.busAttemptEnd (.acked [lo, hi]) line) s = .next t ∧
        let u := t.pks.record.get p
        pollWordsHeld (word lo hi) s.uptime u ∧ alarmsTaken p r t ∧ u.identified = r.identified ∧
          u.present = r.present ∧
          (t.pks.schedule.get p).pollLeft =
            some (if (t.chc.context.get p).state = .charging ∨ t.psq.state = .on then 1000 else 10000)) ∧
    (lastWordOnBus p .identification x words s → ∀ lo hi : Byte,
      ∃ t, exec (.busAttemptEnd (.acked [lo, hi]) line) s = .next t ∧
        let u := t.pks.record.get p
        pollWordsHeld (fun i => word lo hi (i + 2)) s.uptime u ∧ alarmsTaken p r t ∧ u.identified = true ∧
          u.cycleCount = (word lo hi 0).toNat ∧ u.designCapacity = (word lo hi 1).toNat ∧ u.present = r.present) ∧
    (∀ work, work = .poll ∨ work = .identification → lastWordOnBus p work x words s → x.second = true →
      (r.failRun < 2 →
        ∃ t, exec (.busAttemptEnd .notAcked line) s = .next t ∧ packsOnly t ∧
          t.pks.record = s.pks.record.set p { r with failRun := r.failRun + 1 } ∧
          (work = .identification → (t.pks.schedule.get p).identLeft = some 1000)) ∧
      (r.failRun = 2 → r.causes.comm = false →
        ∃ t, exec (.busAttemptEnd .notAcked line) s = .next t ∧
          (t.pks.record.get p).failRun = 3 ∧ (t.pks.record.get p).causes = { r.causes with comm := true } ∧
          (t.pks.record.get p).stale = true ∧ recorded .packCommLost (byteOf p.code) s t ∧
          (t.pks.record.get p).state =
            (if r.state = .ready ∨ r.state = .identify then .faulted else r.state) ∧
          (t.pks.record.get p).voltage = r.voltage)) ∧
    (∀ (w : Word16) (turn : Turn), packOnBus p x (.writeWord 0x2B w) s → s.pbc.turn = some turn →
      (∀ data, ∃ t, exec (.busAttemptEnd (.acked data) line) s = .next t ∧ packsOnly t ∧
        t.pks.record = s.pks.record.set p
          { r with switchWritten := r.switchWritten || decide (w = if r.switchOn then 1 else 0) }) ∧
      (x.second = true → ∃ t, exec (.busAttemptEnd .notAcked line) s = .next t ∧ packsOnly t ∧
        t.pks.record = s.pks.record))

/-! ## Charging (chapter 3) -/

/-- PROFILE_LOAD, PROFILE_EXTEND and PROFILE_ABORT replace or extend the list of a populated pack's context in the stored
form of R39, with pointer and counts at 0, and answer with the state (R60, R61, R63). -/
def Obligations.ProfileRequestsReplaceTheStages : Prop :=
  ∀ (p : PackId) (body : List Byte) (s : State), quiet s = true → (s.pks.record.get p).populated = true →
    let pack := byteOf p.code
    let c := s.chc.context.get p
    let after (t : State) : Prop :=
      t = { s with
            chc.context := t.chc.context, chc.budget := t.chc.budget, pks.schedule := t.pks.schedule, ind := t.ind,
            rpm := t.rpm, flt := t.flt, lkp := t.lkp } ∧
        (t.chc.context.get p.other).stages = (s.chc.context.get p.other).stages ∧
        (t.chc.context.get p.other).pointer = (s.chc.context.get p.other).pointer
    let begun (t : State) (stages : List Stage) : Prop :=
      (t.chc.context.get p).stages = stages ∧ (t.chc.context.get p).pointer = 0 ∧
        (t.chc.context.get p).elapsed = 0 ∧ (t.chc.context.get p).elapsedPart = 0 ∧
        (t.chc.context.get p).taperRun = 0 ∧ (t.chc.context.get p).completeLatch = false ∧
        (t.chc.context.get p).timeoutLatch = false ∧ (t.chc.context.get p).heldLatch = c.heldLatch
    (∀ (n : Nat) (given : List Stage), 1 ≤ n → n ≤ 6 → body.length = 9 * n →
      stagesAt (pack :: body) 1 n = some given →
      ∃ t, exec (.profileLoad (pack :: body)) s = .next t ∧ after t ∧ begun t (given.map storeStage) ∧
        answers 0x30
          [if given.any stageAdjusted then 1 else 0, pack, byteOf n, flagByte (given.map stageAdjusted),
            byteOf (t.chc.context.get p).state.code] s t) ∧
    (∀ n, 1 ≤ n → n ≤ 6 → body.length = 9 * n → stagesAt (pack :: body) 1 n = none →
      exec (.profileLoad (pack :: body)) s = .next (answered 0x30 [5] s)) ∧
    (∀ g, body.length = 9 → stageAt (pack :: body) 1 = some g →
      (8 ≤ c.stages.length → exec (.profileExtend (pack :: body)) s = .next (answered 0x31 [9] s)) ∧
      (c.stages.length < 8 →
        ∃ t, exec (.profileExtend (pack :: body)) s = .next t ∧ after t ∧
          (t.chc.context.get p).stages = c.stages ++ [storeStage g] ∧
          (t.chc.context.get p).pointer = (if c.state = .complete then c.stages.length else c.pointer) ∧
          (c.state = .complete → (t.chc.context.get p).completeLatch = false ∧ (t.chc.context.get p).elapsed = 0) ∧
          (c.state ≠ .complete → (t.chc.context.get p).elapsed = c.elapsed) ∧
          answers 0x31
            ([if stageAdjusted g then 1 else 0, pack, byteOf (c.stages.length + 1),
              byteOf (t.chc.context.get p).state.code] ++ stageBytes (storeStage g)) s t)) ∧
    (∃ t, exec (.profileAbort [pack]) s = .next t ∧ after t ∧ begun t [⟨.follow, 0, 0, 0, 600, true⟩] ∧
      answers 0x33 [0, pack, byteOf (t.chc.context.get p).state.code] s t)

/-- CHARGE_POLICY sets each value to its range and judges the held latches against the new limit, with a hysteresis of 5 %
(R43, R64). -/
def Obligations.ChargePolicyIsTakenWhole : Prop :=
  ∀ (order limit preset recharge : Byte) (s : State), quiet s = true →
    let range (lo hi : Nat) (b : Byte) : Nat := max lo (min hi b.toNat)
    let l := range 50 100 limit
    let q := range 50 100 preset
    let g := range 50 99 recharge
    (2 < order.toNat → exec (.chargePolicy [order, limit, preset, recharge]) s = .next (answered 0x34 [5] s)) ∧
    (order.toNat ≤ 2 →
      ∃ t, exec (.chargePolicy [order, limit, preset, recharge]) s = .next t ∧
        t.chc.policy =
          ⟨if order = 0 then .balanced else if order = 1 then .aFirst else .bFirst, l, q, g⟩ ∧
        answers 0x34
          [if l = limit.toNat ∧ q = preset.toNat ∧ g = recharge.toNat then 0 else 1, order, byteOf l, byteOf q,
            byteOf g] s t ∧
        (∀ p, (s.chc.context.get p).state ≠ .absent →
          (t.chc.context.get p).heldLatch =
            (if (s.chc.context.get p).heldLatch then decide (l < (s.chc.handed.get p).rsoc + 5)
             else decide (l ≤ (s.chc.handed.get p).rsoc))) ∧
        t = { s with
              chc.policy := t.chc.policy, chc.context := t.chc.context, chc.budget := t.chc.budget,
              pks.schedule := t.pks.schedule, ind := t.ind, rpm := t.rpm, flt := t.flt, lkp := t.lkp })

/-- A REST stage that has lasted its duration, and a stage whose limit runs out, end: the pointer rises, or the profile is
complete; an on limit of FAULT sets the timeout latch and STAGE_TIMEOUT is detected (R50, R51). At a good poll of a pack that
charges, a CC stage ends at its end voltage, a FOLLOW stage with FULLY_CHARGED and a CV stage with the third poll at or below
its taper current (R48, R49); a complete profile starts again at the recharge threshold (R52). -/
def Obligations.StageTimersEndOrFaultTheStage : Prop :=
  ∀ (p : PackId) (s : State),
    let c := s.chc.context.get p
    let g := c.stages.getD c.pointer defaultStage
    let framed (t : State) : Prop :=
      t = { s with
            chc.context := t.chc.context, chc.budget := t.chc.budget, pks.schedule := t.pks.schedule, ind := t.ind,
            rpm := t.rpm, flt := t.flt } ∧ t.chc.budget.stamp = s.uptime
    let runs := c.state = .charging ∧ 0 < g.limit ∧
      (if g.mode = .rest then g.limit < g.endValue else 0 < c.targetCurrent)
    (busSettled s = true →
      (c.state = .charging → g.mode = .rest →
        ∃ t, exec (.restEnd p) s = .next t ∧ framed t ∧ stageEnded c (t.chc.context.get p)) ∧
      (¬(c.state = .charging ∧ g.mode = .rest) → exec (.restEnd p) s = .next s) ∧
      (runs → g.faultOnLimit = false →
        ∃ t, exec (.stageLimitExpiry p) s = .next t ∧ framed t ∧ stageEnded c (t.chc.context.get p)) ∧
      (runs → g.faultOnLimit = true →
        ∃ t, exec (.stageLimitExpiry p) s = .next t ∧ framed t ∧ recorded .stageTimeout (byteOf p.code) s t ∧
          (t.chc.context.get p).timeoutLatch = true ∧ (t.chc.context.get p).pointer = c.pointer ∧
          (t.chc.context.get p).targetCurrent = 0) ∧
      (¬runs → exec (.stageLimitExpiry p) s = .next s)) ∧
    ∀ (x : Transaction) (words : List Word16) (line : Bool) (lo hi : Byte), lastWordOnBus p .poll x words s →
      let w (i : Nat) : Word16 := (words ++ [BitVec.ofNat 16 (lo.toNat + 256 * hi.toNat)]).getD i 0
      let r := s.pks.record.get p
      let rsoc := min 100 (w 3).toNat
      let charges :=
        r.state = .ready ∧ r.causes = ⟨false, false, false⟩ ∧ (w 6).getLsbD 2 = false ∧ (w 6).getLsbD 3 = false ∧
          (w 6).getLsbD 4 = false ∧ 2732 ≤ (w 2).toNat ∧ (w 2).toNat ≤ 3182 ∧ s.srs.active.isSome = true ∧
          s.srs.switching = false ∧ s.thu.derate ≠ 0 ∧ s.flt.level = .none ∧ channelFault s.inputs p = false ∧
          c.timeoutLatch = false ∧ c.completeLatch = false ∧ c.heldLatch = false ∧ rsoc < s.chc.policy.limit
      (charges →
        ∃ t, exec (.busAttemptEnd (.acked [lo, hi]) line) s = .next t ∧
          let u := t.chc.context.get p
          (g.mode = .cc → if g.endValue ≤ (w 0).toNat then stageEnded c u else stageStays c u c.taperRun) ∧
          (g.mode = .follow →
            if (w 6).getLsbD 0 then stageEnded c u
            else stageStays c u c.taperRun ∧ u.workCurrent = min 4000 ((w 7).toNat / 25 * 25) ∧
              u.workVoltage = max 6000 (min 17600 ((w 8).toNat / 8 * 8))) ∧
          (g.mode = .rest → stageStays c u c.taperRun) ∧
          (g.mode = .cv →
            if c.targetCurrent = 0 then stageStays c u c.taperRun
            else if (g.endValue : Int) < (w 1).toInt then stageStays c u 0
            else if c.taperRun < 2 then stageStays c u (c.taperRun + 1)
            else stageEnded c u)) ∧
      (c.completeLatch = true → s.srs.active = none → rsoc ≤ s.chc.policy.recharge →
        ∃ t, exec (.busAttemptEnd (.acked [lo, hi]) line) s = .next t ∧
          let u := t.chc.context.get p
          u.completeLatch = false ∧ u.pointer = 0 ∧ u.elapsed = 0 ∧ u.elapsedPart = 0 ∧ u.taperRun = 0 ∧
            u.stages = c.stages)

/-- A channel's fault input that goes active while the channel is enabled is CHARGER_FAULT, whose containment stops both
channels; while it is not enabled it is no detection; the other way, the fault is active no longer (R58, R166). That a
command telling the level that stands already does nothing is the model's reading (log 27). -/
def Obligations.ChannelFaultStopsCharging : Prop :=
  ∀ (p : PackId) (s : State), busSettled s = true →
    let low := channelFault s.inputs p = false
    let other := s.chc.channelDetected.get p.other
    (low → (∀ q, chargeOk s q = true) → 0 < (s.chc.context.get p).targetCurrent →
      ∃ t, exec (.channelFaultInputChange p true) s = .next t ∧ channelFault t.inputs p = true ∧
        recorded .chargerFault (byteOf p.code) s t ∧ t.flt.level ≠ .none ∧ t.chc.channelDetected.get p = true ∧
        ∀ q, (t.chc.context.get q).targetCurrent = 0) ∧
    (low → (s.chc.context.get p).targetCurrent = 0 →
      ∃ t, exec (.channelFaultInputChange p true) s = .next t ∧ channelFault t.inputs p = true ∧
        t.flt.get .chargerFault = s.flt.get .chargerFault ∧ t.flt.level = s.flt.level ∧
        ((t.chc.context.get p).state = .paused → (t.chc.context.get p).causes.channel = true) ∧
        t = { s with
              inputs := withChannelFault p true s.inputs
              chc.context := t.chc.context, chc.budget := t.chc.budget, pks.schedule := t.pks.schedule, ind := t.ind,
              rpm := t.rpm, flt := t.flt }) ∧
    (channelFault s.inputs p = true →
      ∃ t, exec (.channelFaultInputChange p false) s = .next t ∧ channelFault t.inputs p = false ∧
        (t.flt.get .chargerFault).active = ((s.flt.get .chargerFault).active && other) ∧
        (t.flt.get .chargerFault).status = (s.flt.get .chargerFault).status) ∧
    exec (.channelFaultInputChange p (channelFault s.inputs p)) s = .next s

/-- The laws of the computation of R56 and R57: the finals sum to P_budget where a pack is eligible, the targets take no more
than P_budget between them, and where both needs fit in it each eligible pack's target is its stage current, rounded down to
a multiple of 25 and held to 4000. -/
def Obligations.BudgetIsSharedOutAndNeverExceeded : Prop :=
  ∀ s : State,
    let b := computeBudget s
    let x := b.packs.a
    let y := b.packs.b
    (x.eligible = true ∨ y.eligible = true → x.allotted + y.allotted = b.pBudget) ∧
      x.targetCurrent * x.vX + y.targetCurrent * y.vX ≤ b.pBudget * 1000 ∧
      (x.need + y.need ≤ b.pBudget →
        (x.eligible = true → x.targetCurrent = min 4000 (x.iReq / 25 * 25)) ∧
        (y.eligible = true → y.targetCurrent = min 4000 (y.iReq / 25 * 25))) ∧
      (b.active = none ∨ b.switching = true ∨ b.derate = 0 → x.targetCurrent = 0 ∧ y.targetCurrent = 0) ∧
      (s.thu.derate ≤ 100 → b.pBudget ≤ b.pChg) ∧ b.pChg ≤ b.pAvail ∧ b.pAvail ≤ b.pInMax

/-! ## Sensors and fans (chapter 4) -/

/-- A board conversion takes each reading, or the substitute 125.0 degrees with SENSOR_FAULT for a failed one; a reading at
or above the trip temperature forces the platform off (R69, R73). -/
def Obligations.BoardConversionReadsAndTrips : Prop :=
  ∀ (cpu charger skin ambient : Int) (s : State), busSettled s = true →
    let given (i : Fin 4) : Int := if i = 0 then cpu else if i = 1 then charger else if i = 2 then skin else ambient
    let good (i : Fin 4) : Bool := decide (-300 ≤ given i) && decide (given i ≤ 1300)
    let value (i : Fin 4) : Int := if good i then given i else 1250
    ∃ t, exec (.boardConversion cpu charger skin ambient) s = .next t ∧
      t.inputs.board0 = cpu ∧ t.inputs.board1 = charger ∧ t.inputs.board2 = skin ∧ t.inputs.board3 = ambient ∧
      (∀ i : Fin 4,
        let r := t.thu.sensors[i.castLE (by decide : 4 ≤ 8)]
        r.value = value i ∧ r.valid = good i ∧ r.substitute = !good i ∧ r.stale = false ∧ r.takesPart = true) ∧
      ((∃ i : Fin 4, s.thu.sensors[i.castLE (by decide : 4 ≤ 8)].substitute = false ∧ good i = false) →
        (t.flt.get .sensorFault).status = true ∧ (t.flt.get .sensorFault).active = true) ∧
      ((∀ i, good i = true) → (t.flt.get .sensorFault).active = false) ∧
      (s.thu.trip = false → (∃ i, s.thu.settings.trip ≤ value i) →
        t.psq.state = .off ∧ t.thu.trip = true ∧ (t.flt.get .thermalTrip).status = true ∧
          (t.flt.get .thermalTrip).active = true) ∧
      ((∀ i, value i < min s.thu.settings.trip s.thu.settings.wake) → s.thu.trip = false →
        tripHolds { s.thu with sensors := t.thu.sensors } = false →
        t = { s with
              inputs := { s.inputs with board0 := cpu, board1 := charger, board2 := skin, board3 := ambient }
              thu := t.thu, chc.context := t.chc.context, chc.budget := t.chc.budget,
              pks.schedule := t.pks.schedule, ind := t.ind, rpm := t.rpm, flt := t.flt } ∧
          t.thu.wakeCondition = false)

/-- TEMP_SUPPLY puts each value it carries, held to its range, into its sensor, fresh; a sensor whose age reaches the
freshness time is stale, takes part with its substitute, and SUPPLY_STALE is detected (R70, R85). Stated while nothing is at
the trip temperature. -/
def Obligations.SuppliedSensorsAreFreshOrStale : Prop :=
  ∀ (a b c d : Byte) (sensor : SupplyId) (s : State), s.thu.trip = false → tripHolds s.thu = false →
    let given (lo hi : Byte) : Int := (hi ++ lo).toInt
    let held (v : Int) : Int := max (-400) (min 1500 v)
    let fresh (v : Int) (r : SensorRecord) : SensorRecord :=
      if v = -32768 then r else ⟨held v, true, false, false, s.psq.state == .on, 0, held v⟩
    (quiet s = true → held (given a b) < s.thu.settings.trip → held (given c d) < s.thu.settings.trip →
      ∃ t, exec (.tempSupply [a, b, c, d]) s = .next t ∧
        t = { s with
              thu.sensors := (s.thu.sensors.set 4 (fresh (given a b) s.thu.sensors[4])).set 5
                (fresh (given c d) s.thu.sensors[5])
              flt := t.flt, lkp := t.lkp } ∧
        (∃ status flags, answers 0x40
          (status :: (les16 t.thu.sensors[4].value ++ les16 t.thu.sensors[5].value ++ [flags])) s t ∧
          (status = 1 ↔ (given a b ≠ -32768 ∧ held (given a b) ≠ given a b) ∨
            (given c d ≠ -32768 ∧ held (given c d) ≠ given c d)))) ∧
    (let i := sensor.sensor
     let r := s.thu.sensors[i]
     busSettled s = true → s.psq.state = .on → r.stale = false → s.thu.settings.staleSubstitute < s.thu.settings.trip →
      ∃ t, exec (.freshnessTimeReached sensor) s = .next t ∧ recorded .supplyStale (byteOf i.val) s t ∧
        t = { s with
              thu.sensors := s.thu.sensors.set i
                { r with
                  value := s.thu.settings.staleSubstitute, stale := true, substitute := true, takesPart := true
                  age := s.thu.settings.freshness * 1000 }
              flt := t.flt, ind := t.ind, rpm := t.rpm }) ∧
    (busSettled s = true → s.psq.state ≠ .on ∨ s.thu.sensors[sensor.sensor].stale = true →
      exec (.freshnessTimeReached sensor) s = .next s)

/-- THERMAL_CONFIG is refused for a derate table whose thresholds do not rise or whose factors rise; else it takes all its
settings and its table, each value held to its range, and the held entry that heating gives (R74, R86). -/
def Obligations.ThermalConfigIsRefusedOrTaken : Prop :=
  ∀ (p : List Byte) (s : State), quiet s = true → p.length = 23 →
    let held (lo hi : Int) (i : Nat) : Int := max lo (min hi (signed16At p i))
    let entry (i : Nat) : DerateEntry := ⟨held (-400) 1500 i, min 100 (byteAt p (i + 2))⟩
    let e0 := entry 11
    let e1 := entry 14
    let e2 := entry 17
    let e3 := entry 20
    let sound :=
      (e0.threshold < e1.threshold ∧ e1.threshold < e2.threshold ∧ e2.threshold < e3.threshold) ∧
        e1.factor ≤ e0.factor ∧ e2.factor ≤ e1.factor ∧ e3.factor ≤ e2.factor
    (¬sound → exec (.thermalConfig p) s = .next (answered 0x41 [5] s)) ∧
    (sound →
      ∃ t, exec (.thermalConfig p) s = .next t ∧
        t.thu.settings =
          ⟨max 1 (min 30 (byteAt p 0)), held (-400) 1500 1, held 600 1000 3, held 400 1000 5, held 800 1250 7,
            held 400 1250 9⟩ ∧
        t.thu.table = #v[e0, e1, e2, e3] ∧
        (let hot := max t.thu.sensors[1].value t.thu.sensors[2].value
         t.thu.heldEntry =
          if e3.threshold ≤ hot then 3 else if e2.threshold ≤ hot then 2 else if e1.threshold ≤ hot then 1 else 0) ∧
        answers 0x41 ((if thermalBytes t.thu = p then 0 else 1) :: thermalBytes t.thu) s t)

/-- FAN_CURVE_SET takes a sound curve and makes the fan's duty from it; FAN_OVERRIDE sets the override of a fan in ON, or of
every populated fan, its duty and time held to their ranges; an override that is cancelled, in any platform state, or expires
returns to AUTO (R83, R87, R88). -/
def Obligations.FanSettingsAreTaken : Prop :=
  ∀ (i : FanId) (hysteresis mask : Byte) (points : List CurvePoint) (mode lo hi : Byte) (time : Nat) (s : State),
    let f := s.fnc.fan.get i
    let fan := byteOf i.code
    let payload :=
      [fan, hysteresis, mask, byteOf points.length] ++ (points.map fun c => les16 c.temp ++ le16 c.duty).flatten
    (quiet s = true → f.populated = true → 2 ≤ points.length → points.length ≤ 6 →
      points.all (fun c => decide (-400 ≤ c.temp ∧ c.temp ≤ 1500 ∧ c.duty ≤ 1000)) = true →
      (mask = 0 ∨ curveSound points = false →
        exec (.fanCurveSet payload) s = .next (answered 0x42 [5] s)) ∧
      (mask ≠ 0 → curveSound points = true →
        ∃ t, exec (.fanCurveSet payload) s = .next t ∧
          t = { s with fnc.fan := s.fnc.fan.set i (t.fnc.fan.get i), lkp := t.lkp } ∧
          (let g := t.fnc.fan.get i
           g.curve = points ∧ g.hysteresis = min 100 hysteresis.toNat ∧ g.mask = mask ∧
            g.controlTemp = controlTempOf s.thu.sensors mask ∧ g.curveValue = curveAt points g.controlTemp ∧
            g.duty = dutyOf t g ∧ g.mode = f.mode ∧
            answers 0x42
              ([if 100 < hysteresis.toNat then 1 else 0, fan, byteOf g.hysteresis, mask, byteOf points.length] ++
                (points.map fun c => les16 c.temp ++ le16 c.duty).flatten ++ le16 g.curveValue) s t))) ∧
    (quiet s = true → time < 65536 →
      let given := lo.toNat + 256 * hi.toNat
      let duty := min 1000 given
      let seconds := min 3600 time
      let done : Byte := if 1000 < given ∨ 3600 < time then 1 else 0
      let request (named mode : Byte) := Instr.fanOverride ([named, mode, lo, hi] ++ le16 time)
      let overridden (g : FanRecord) : Prop :=
        g.mode = (if mode = 1 then .boost else .manual) ∧ g.overrideDuty = duty ∧
          g.overrideLeft = if time = 0 then none else some seconds
      (f.populated = true → mode = 1 ∨ mode = 2 →
        (s.psq.state ≠ .on → exec (request fan mode) s = .next (answered 0x43 [6] s)) ∧
        (s.psq.state = .on →
          ∃ t, exec (request fan mode) s = .next t ∧
            t = { s with
                  fnc.fan := s.fnc.fan.set i (t.fnc.fan.get i), lkp := t.lkp, rpm := t.rpm, flt := t.flt,
                  ind := t.ind } ∧
            (let g := t.fnc.fan.get i
             overridden g ∧ g.duty = dutyOf t g ∧
              answers 0x43 ([done, fan, mode] ++ le16 duty ++ le16 seconds ++ le16 g.duty) s t))) ∧
      (f.populated = true →
        ∃ t, exec (request fan 0) s = .next t ∧
          t = { s with
                fnc.fan := s.fnc.fan.set i (t.fnc.fan.get i), lkp := t.lkp, rpm := t.rpm, flt := t.flt,
                ind := t.ind } ∧
          (let g := t.fnc.fan.get i
           g.mode = .auto ∧ g.curveValue = f.curveValue ∧ g.duty = dutyOf t g ∧
            ∃ status a b c d, answers 0x43 ([status, fan, 0, a, b, c, d] ++ le16 g.duty) s t)) ∧
      (mode = 0 ∨ ((mode = 1 ∨ mode = 2) ∧ s.psq.state = .on) →
        ∃ t, exec (request 2 mode) s = .next t ∧
          t = { s with fnc.fan := t.fnc.fan, lkp := t.lkp, rpm := t.rpm, flt := t.flt, ind := t.ind } ∧
          ∀ j : FanId,
            let g := t.fnc.fan.get j
            ((s.fnc.fan.get j).populated = false → g = s.fnc.fan.get j) ∧
              ((s.fnc.fan.get j).populated = true →
                g.duty = dutyOf t g ∧ if mode = 0 then g.mode = .auto else overridden g))) ∧
    (busSettled s = true → f.mode ≠ .auto → f.overrideLeft.isSome = true →
      ∃ t, exec (.overrideExpiry i) s = .next t ∧ (t.fnc.fan.get i).mode = .auto ∧
        (f.populated = true → (t.fnc.fan.get i).duty = dutyOf t (t.fnc.fan.get i)) ∧
        t = { s with
              fnc.fan := s.fnc.fan.set i (t.fnc.fan.get i), rpm := t.rpm, flt := t.flt, ind := t.ind }) ∧
    (busSettled s = true → f.mode = .auto ∨ f.overrideLeft = none → exec (.overrideExpiry i) s = .next s)

/-- An evaluation gives each populated fan its control temperature and, with the hysteresis of R79, its curve value and duty;
a spin-up period ends in the duty; a window gives the rpm, and the third judged and stalled one in a row makes the fan FAILED,
with FAN_STALL and full duty; the third judged and turning one in a row makes a FAILED fan OK again (R77 to R82). -/
def Obligations.FanEventsFollowTheirRules : Prop :=
  ∀ (i : FanId) (pulses : Nat) (s : State), busSettled s = true →
    let f := s.fnc.fan.get i
    (∃ t, exec .fanEvaluation s = .next t ∧
      t = { s with fnc := { fan := t.fnc.fan, evalLeft := 500 } } ∧
      (f.populated = false → t.fnc.fan.get i = f) ∧
      (f.populated = true →
        let g := t.fnc.fan.get i
        let up := curveAt f.curve g.controlTemp
        let down := curveAt f.curve (g.controlTemp + f.hysteresis)
        (∀ j : Fin 8, f.mask.getLsbD j.val = true → s.thu.sensors[j].takesPart = true →
          s.thu.sensors[j].value ≤ g.controlTemp) ∧
          (g.controlTemp = -400 ∨ ∃ j : Fin 8, f.mask.getLsbD j.val = true ∧ s.thu.sensors[j].takesPart = true ∧
            s.thu.sensors[j].value = g.controlTemp) ∧
          g.curveValue = (if f.curveValue < up then up else if down < f.curveValue then down else f.curveValue) ∧
          g.duty = dutyOf s g ∧ g.mode = f.mode ∧ g.curve = f.curve)) ∧
    (0 < f.spinLeft → exec (.spinUpEnd i) s = .next
      { s with fnc.fan := s.fnc.fan.set i { f with spinLeft := 0, applied := f.duty } }) ∧
    (f.spinLeft = 0 → exec (.spinUpEnd i) s = .next s) ∧
    (f.populated = false → exec (.tachWindowEnd i pulses) s = .next s) ∧
    (let judged := f.windowDriven && !f.windowSpin
     let rpm := pulses * 30
     let counted (t : State) : Prop :=
      t = { s with
            fnc.fan := s.fnc.fan.set i (t.fnc.fan.get i), thu.derate := t.thu.derate
            chc.context := t.chc.context, chc.budget := t.chc.budget, pks.schedule := t.pks.schedule
            ind := t.ind, rpm := t.rpm, flt := t.flt }
     (f.populated = true → f.failed = false →
      (judged = false ∨ 300 ≤ rpm ∨ f.stallRun < 2 →
        ∃ t, exec (.tachWindowEnd i pulses) s = .next t ∧
          t = { s with
                fnc.fan := s.fnc.fan.set i
                  { f with
                    rpm := rpm, windowSpin := false, windowDriven := decide (0 < f.applied)
                    stallRun := if judged && decide (rpm < 300) then f.stallRun + 1 else 0 }
                flt := t.flt }) ∧
      (judged = true → rpm < 300 → 2 ≤ f.stallRun →
        ∃ t, exec (.tachWindowEnd i pulses) s = .next t ∧ counted t ∧ recorded .fanStall (byteOf i.code) s t ∧
          (t.fnc.fan.get i).failed = true ∧ (t.fnc.fan.get i).stallRun = 0 ∧ (t.fnc.fan.get i).recoveryRun = 0 ∧
          (t.fnc.fan.get i).rpm = rpm ∧ (t.fnc.fan.get i).duty = 1000 ∧ t.thu.derate ≤ 50)) ∧
     (f.populated = true → f.failed = true →
      (judged = false ∨ rpm < 300 ∨ f.recoveryRun < 2 →
        exec (.tachWindowEnd i pulses) s = .next
          { s with
            fnc.fan := s.fnc.fan.set i
              { f with
                rpm := rpm, windowSpin := false, windowDriven := decide (0 < f.applied)
                recoveryRun := if judged && decide (300 ≤ rpm) then f.recoveryRun + 1 else 0 } }) ∧
      (judged = true → 300 ≤ rpm → 2 ≤ f.recoveryRun →
        let others := ∃ j, j ≠ i ∧ (s.fnc.fan.get j).populated = true ∧ (s.fnc.fan.get j).failed = true
        let factor := s.thu.table[s.thu.heldEntry].factor
        ∃ t, exec (.tachWindowEnd i pulses) s = .next t ∧ counted t ∧
          (let g := t.fnc.fan.get i
           g.failed = false ∧ g.stallRun = 0 ∧ g.recoveryRun = 0 ∧ g.rpm = rpm ∧ g.duty = dutyOf t g) ∧
          (others → (t.flt.get .fanStall).active = (s.flt.get .fanStall).active ∧ t.thu.derate = min 50 factor) ∧
          (¬others → (t.flt.get .fanStall).active = false ∧ t.thu.derate = factor))))

/-! ## The keyboard (chapters 5 and 6) -/

/-- KEY_CONFIG, KEYMAP_SET of 1 to 16 consecutive entries, and BACKLIGHT_SET take their values, each held to its range, and
change nothing else; they are refused for a position that does not exist, for an unused flag bit in any entry, and for a rollover limit below the reported-down count
(R107, R112, R126, R127). A shorter scan period that has gone by begins the next pass at once (R92), but while a pass is in
progress, which then runs on: this is the model's choice (log 50). -/
def Obligations.KeySettingsAreTaken : Prop :=
  ∀ (fn press release rollover period a b c d level : Byte) (first : Byte) (entries : List (Byte × Byte × Byte))
    (s : State), quiet s = true →
    let total := if s.straps.columns18 then 144 else 128
    let held (lo hi n : Nat) : Nat := max lo (min hi n)
    let payload := [fn, press, release, rollover, period, a, b, c, d]
    let x : KeySettings :=
      ⟨if h : fn.toNat < 144 then some ⟨fn.toNat, h⟩ else none, held 1 15 press.toNat, held 1 15 release.toNat,
        held 2 16 rollover.toNat, held 1 8 period.toNat, held 250 1000 (a.toNat + 256 * b.toNat),
        held 30 500 (c.toNat + 256 * d.toNat)⟩
    (total ≤ fn.toNat → fn ≠ 255 → exec (.keyConfig payload) s = .next (answered 0x50 [5] s)) ∧
    (fn.toNat < total ∨ fn = 255 → x.rollover < (reportedSet s.kbs).length →
      exec (.keyConfig payload) s = .next (answered 0x50 [6] s)) ∧
    (fn.toNat < total ∨ fn = 255 → (reportedSet s.kbs).length ≤ x.rollover →
      let due := s.kbs.mode = .active ∧ s.kbs.passRunning = false ∧ x.scanPeriod ≤ s.kbs.sinceStart
      let bytes :=
        [fn, byteOf x.pressDebounce, byteOf x.releaseDebounce, byteOf x.rollover, byteOf x.scanPeriod] ++
          le16 x.typeDelay ++ le16 x.typePeriod
      exec (.keyConfig payload) s = .next (answered 0x50 ((if bytes = payload then 0 else 1) :: bytes)
        { s with
          kbs :=
            { s.kbs with
              settings := x, passRunning := if due then true else s.kbs.passRunning
              sinceStart := if due then 0 else s.kbs.sinceStart } })) ∧
    (1 ≤ entries.length → entries.length ≤ 16 →
      let n := entries.length
      let written := first :: entries.flatMap fun x => [x.1, x.2.1, x.2.2]
      (first.toNat + n ≤ total → (∀ x ∈ entries, x.2.2.toNat ≤ 15) →
        exec (.keymapSet written) s = .next (answered 0x52 [0, first, byteOf n]
          { s with
            kbs.map := Vector.ofFn fun p : Position =>
              if p.val < first.toNat then s.kbs.map[p]
              else
                match entries[p.val - first.toNat]? with
                | some x =>
                  ⟨x.1, x.2.1, x.2.2.getLsbD 0, x.2.2.getLsbD 1, x.2.2.getLsbD 2, x.2.2.getLsbD 3⟩
                | none => s.kbs.map[p] })) ∧
      (total < first.toNat + n ∨ (∃ x ∈ entries, 15 < x.2.2.toNat) →
        exec (.keymapSet written) s = .next (answered 0x52 [5] s))) ∧
    (let n := min 3 level.toNat
     let dark := s.kbs.suppression.closed || s.kbs.suppression.tablet || s.kbs.suppression.notOn
     exec (.backlightSet [level]) s = .next (answered 0x54
      [if 3 < level.toNat then 1 else 0, byteOf n, boolByte (!dark)]
      { s with
        krp :=
          { s.krp with
            backlight := n
            output := if dark then 0 else if n = 0 then 0 else if n = 1 then 35 else if n = 2 then 65 else 100 } }))

/-- A pass that ends in ACTIVE mode stores its samples and moves each position by the rule of its state, with its debounce
counts and the ghost test (R91, R94, R96, R99, R100); at the first pass after a start a position that is UP and closed has been
held through it and is LATENT (R109); in WAKE mode a completed press is LATENT, and one of a WAKE position sets KEYBOARD and
wakes the platform where its enable is on (R104); a pass begins as its period has gone by, and not in STOPPED (R92). Three
points are the model's choice: how a key is known to be held through the start (log 49), that SCAN_PASS_START does nothing
while a pass runs (log 50), and that a pass is evaluated whole before its keyboard wakes are taken (log 17). -/
def Obligations.ScanPassMovesEachPosition : Prop :=
  ∀ (samples : Samples) (s : State), busSettled s = true →
    (s.kbs.mode ≠ .stopped → s.kbs.passRunning = false → exec .scanPassStart s = .next
      { s with kbs := { s.kbs with passRunning := true, sinceStart := 0 } }) ∧
    (s.kbs.mode = .stopped ∨ s.kbs.passRunning = true → exec .scanPassStart s = .next s) ∧
    (s.kbs.passRunning = false → exec (.scanPassEnd samples) s = .next { s with inputs.matrix := samples }) ∧
    (s.kbs.passRunning = true → s.kbs.mode = .active →
      ∃ t, exec (.scanPassEnd samples) s = .next t ∧ t.inputs.matrix = samples ∧ t.kbs.passRunning = false ∧
        t.kbs.freshStart = false ∧ t.kbs.map = s.kbs.map ∧ t.kbs.settings = s.kbs.settings ∧ t.psq = s.psq ∧ t.lwu = s.lwu ∧
        ∀ p : Position,
          let scans := s.straps.columns18 || decide (p.val < 128)
          let closed := shut s samples p.val
          let k := s.kbs.keys[p]
          let u := t.kbs.keys[p]
          let pressed : Prop :=
            (ringed s samples p → u = silentKey .blocked) ∧
              (¬ringed s samples p → u.state = .down ∨ u = silentKey .blocked)
          t.kbs.last.getLsbD p.val = closed ∧ (scans = false → u = k) ∧
          (scans = true →
            let n := k.counter + 1
            match k.state with
            | .up =>
              if closed && s.kbs.freshStart then u = silentKey .latent
              else if closed then
                (1 < s.kbs.settings.pressDebounce → u = { k with state := .pressWait, counter := 1 }) ∧
                  (s.kbs.settings.pressDebounce ≤ 1 → pressed)
              else u = { k with counter := 0 }
            | .pressWait =>
              if closed then
                (n < s.kbs.settings.pressDebounce → u = { k with counter := n }) ∧
                  (s.kbs.settings.pressDebounce ≤ n → pressed)
              else u = { k with state := .up, counter := 0 }
            | .down =>
              if closed then u = { k with counter := 0 }
              else
                (1 < s.kbs.settings.releaseDebounce → u = { k with state := .releaseWait, counter := 1 }) ∧
                  (s.kbs.settings.releaseDebounce ≤ 1 → u = silentKey .up)
            | .releaseWait =>
              if closed then u = { k with state := .down, counter := 0 }
              else if n < s.kbs.settings.releaseDebounce then u = { k with counter := n }
              else u = silentKey .up
            | .blocked | .latent =>
              if closed then u = { k with counter := 0 }
              else if s.kbs.settings.releaseDebounce ≤ n then u = silentKey .up else u = { k with counter := n })) ∧
    (s.kbs.passRunning = true → s.psq.state = .standby → keyboardOk s = true →
      let hit (p : Position) : Prop :=
        pressDone s samples p ∧ (s.kbs.map[p]).wake = true ∧ ¬ringed s samples p
      let set : WakeUnit := s.lwu.set .keyboard { s.lwu.get .keyboard with status := true, pending := true }
      (∀ p, pressDone s samples p →
        ∃ t, exec (.scanPassEnd samples) s = .next t ∧ t.kbs.keys[p] = silentKey .latent) ∧
      ((∃ p, hit p) → (s.lwu.get .keyboard).standbyEnable = true →
        ∃ t, exec (.scanPassEnd samples) s = .next t ∧ t.psq.state = .resuming ∧
          t.psq.step = (if s.inputs.mpg then .resetHold else .mpgWait) ∧ t.kbs.mode = .stopped ∧
          (t.lwu.get .keyboard).status = true ∧ t.lwu.cause.getLsbD WakeSource.keyboard.index.val = true ∧
          t.lwu.causeStamp = s.uptime) ∧
      ((∃ p, hit p) → (s.lwu.get .keyboard).standbyEnable = false →
        ∃ t, exec (.scanPassEnd samples) s = .next t ∧
          t = { s with
                inputs.matrix := samples, lwu := set
                kbs :=
                  { s.kbs with keys := t.kbs.keys, last := t.kbs.last, passRunning := false, freshStart := false } }) ∧
      ((¬∃ p, hit p) →
        ∃ t, exec (.scanPassEnd samples) s = .next t ∧
          t = { s with
                inputs.matrix := samples
                kbs :=
                  { s.kbs with keys := t.kbs.keys, last := t.kbs.last, passRunning := false, freshStart := false } }))

/-- The pass that completes the press of a position takes its code from the layer in force and queues its PRESS, runs its
action, holds it back by the ghost test or the rollover limit, or is silent; a key held through a start is LATENT and silent
(R109; how it is known is log 49); a completed release queues its RELEASE; the repeat
queues a REPEAT event with the code of the press; an event that finds the KEY queue full is refused: it is discarded, the
overrun flag is set and the key-lost counter rises by one, held at 65535, with nothing else changed (R119, R194); suppression that begins as the lid closes queues a synthetic RELEASE for each
reported key and leaves it LATENT (R95 to R97, R99, R102, R114, R116, R117, R120 to R124). -/
def Obligations.PressAndRepeatAreQueued : Prop :=
  ∀ (p : Position) (s : State), busSettled s = true →
    let e := s.kbs.map[p]
    let event (kind : KeyKind) (code : Byte) (layer : Bool) (at_ : Position) (from_ : State) : StoredKey :=
      ⟨⟨code, kind, layer, false, s.krp.overrun, at_, modifierSnapshot from_, s.uptime⟩, .good, .good⟩
    let room := s.rpm.keys.length < keyCapacity s.rpm
    let offered (x : StoredKey) : ReportMemory :=
      if room then judgeAttn { s.rpm with keys := s.rpm.keys ++ [x] } else s.rpm
    let told : Reporter :=
      if room then { s.krp with overrun := false }
      else { s.krp with overrun := true, keyLost := min 65535 (s.krp.keyLost + 1) }
    (s.kbs.mode = .active → s.kbs.passRunning = true → s.straps.columns18 = true → s.kbs.settings.fn = none →
      1 ≤ e.base.toNat → e.base.toNat ≤ 0xDF → e.repeats = true → s.kbs.settings.pressDebounce ≤ s.kbs.keys[p].counter + 1 →
      s.kbs.keys[p].state = .pressWait → (∀ q : Position, q ≠ p → s.kbs.keys[q].state = .up) →
      0 < s.kbs.settings.rollover →
      ∃ t, exec (.scanPassEnd (BitVec.twoPow 144 p.val)) s = .next t ∧
        t.kbs.keys[p] = ⟨.down, 0, e.base, false, s.uptime⟩ ∧
        t.rpm = offered (event .press e.base false p t) ∧
        t.krp =
          { told with
            phase := .delay, position := p, code := e.base, layer := false
            left := s.kbs.settings.typeDelay } ∧
        t = { s with
              inputs.matrix := BitVec.twoPow 144 p.val
              kbs :=
                { s.kbs with keys := t.kbs.keys, last := t.kbs.last, passRunning := false, freshStart := false }
              rpm := t.rpm, krp := t.krp }) ∧
    (s.krp.phase ≠ .idle → exec .typematicExpiry s = .next
      { s with
        rpm := offered (event .again s.krp.code s.krp.layer s.krp.position s)
        krp := { told with phase := .repeating, left := s.kbs.settings.typePeriod } }) ∧
    (s.krp.phase = .idle → exec .typematicExpiry s = .next s) ∧
    (∀ samples : Samples, s.kbs.mode = .active → s.kbs.passRunning = true → s.straps.columns18 = true →
      othersRest s samples p →
      let one (t : State) (k : KeyEntry) : Prop :=
        exec (.scanPassEnd samples) s = .next t ∧ t.kbs.keys[p] = k ∧ t.kbs.mode = .active ∧ t.psq = s.psq
      let queued (kind : KeyKind) (code : Byte) (layer : Bool) (t : State) : Prop :=
        t.rpm = offered (event kind code layer p t)
      let followed := s.krp.phase ≠ .idle ∧ s.krp.position = p
      (s.kbs.freshStart = true → s.kbs.keys[p].state = .up → samples.getLsbD p.val = true →
        ∃ t, one t (silentKey .latent) ∧ t.rpm = s.rpm ∧ t.krp = s.krp) ∧
      (pressDone s samples p → (s.kbs.freshStart = true → s.kbs.keys[p].state ≠ .up) →
        let upper := fnInForce s.kbs && decide (1 ≤ e.fn.toNat) && decide (e.fn.toNat ≤ 0xE3)
        let code : Byte := if s.kbs.settings.fn = some p then 0 else if upper then e.fn else e.base
        let layer := decide (s.kbs.settings.fn ≠ some p) && upper
        let reported := 1 ≤ code.toNat ∧ code.toNat ≤ 0xDF
        let action := 0xE0 ≤ code.toNat ∧ code.toNat ≤ 0xE3
        let full := s.kbs.settings.rollover ≤ (reportedSet s.kbs).length
        let level := if 3 ≤ s.krp.backlight then 0 else s.krp.backlight + 1
        let boosts := [FanId.fan0, .fan1].any fun i => (s.fnc.fan.get i).populated && (s.fnc.fan.get i).mode == .boost
        let limit := if s.chc.policy.limit = 100 then s.chc.policy.preset else 100
        (ringed s samples p → ∃ t, one t (silentKey .blocked) ∧ t.rpm = s.rpm ∧ t.krp = s.krp) ∧
        (¬ringed s samples p →
          (reported → full →
            ∃ t, one t (silentKey .blocked) ∧ queued .rollover 0 false t ∧ t.krp = told) ∧
          (reported → ¬full →
            ∃ t, one t ⟨.down, 0, code, layer, s.uptime⟩ ∧ queued .press code layer t ∧
              t.krp =
                if e.repeats then
                  { told with phase := .delay, position := p, code, layer, left := s.kbs.settings.typeDelay }
                else { told with phase := .idle, left := 0 }) ∧
          (action →
            ∃ t, one t ⟨.down, 0, code, layer, s.uptime⟩ ∧ t.rpm.keys = s.rpm.keys ∧ t.krp.phase = s.krp.phase ∧
              t.krp.left = s.krp.left ∧
              t.krp.backlight = (if code = 0xE0 then level else s.krp.backlight) ∧
              (code = 0xE0 → s.kbs.suppression = ⟨false, false, false⟩ →
                t.krp.output = if level = 0 then 0 else if level = 1 then 35 else if level = 2 then 65 else 100) ∧
              (code = 0xE1 → boosts = true → ∀ i, (t.fnc.fan.get i).mode ≠ .boost) ∧
              (code = 0xE1 → boosts = false → ∀ i, (s.fnc.fan.get i).populated = true →
                (t.fnc.fan.get i).mode = .boost ∧ (t.fnc.fan.get i).overrideDuty = 800 ∧
                  (t.fnc.fan.get i).overrideLeft = some 60) ∧
              (code ≠ 0xE1 → t.fnc = s.fnc) ∧
              t.chc.policy.limit = (if code = 0xE2 then limit else s.chc.policy.limit) ∧
              (s.rpm.notices = [] → 8 ≤ noticeCapacity s.rpm →
                ∃ x ∈ t.rpm.notices, x.count = 1 ∧ x.stamp = s.uptime ∧
                  x.notice = .hotkey (code.toNat - 0xE0) p layer
                    (if code = 0xE0 then level else if code = 0xE1 && !boosts then 1
                     else if code = 0xE2 then limit else 0))) ∧
          (¬reported → ¬action →
            ∃ t, one t ⟨.down, 0, 0, false, s.uptime⟩ ∧ t.rpm = s.rpm ∧ t.krp = s.krp))) ∧
      (samples.getLsbD p.val = false →
        let k := s.kbs.keys[p]
        (k.state = .down ∧ s.kbs.settings.releaseDebounce ≤ 1) ∨
          (k.state = .releaseWait ∧ s.kbs.settings.releaseDebounce ≤ k.counter + 1) →
        (1 ≤ k.code.toNat ∧ k.code.toNat ≤ 0xDF →
          ∃ t, one t (silentKey .up) ∧ queued .release k.code k.layer t ∧
            t.krp =
              if followed then { told with phase := .idle, left := 0 } else told) ∧
        (¬(1 ≤ k.code.toNat ∧ k.code.toNat ≤ 0xDF) →
          ∃ t, one t (silentKey .up) ∧ t.rpm = s.rpm ∧ t.krp = s.krp))) ∧
    (keyboardOk s = true → suppressed s.kbs.suppression = false → s.lwu.lidTimer.isSome = true →
      s.inputs.lidClosed = true → s.lwu.lidClosed = false →
      s.rpm.keys.length + (reportedSet s.kbs).length ≤ keyCapacity s.rpm →
      let plain (x : StoredKey) : StoredKey := { x with event.modifiers := 0, event.overrun := false }
      ∃ t, exec .lidSettleExpiry s = .next t ∧ t.kbs.mode = .stopped ∧ t.kbs.passRunning = false ∧
        t.kbs.suppression.closed = true ∧ t.krp.phase = .idle ∧ t.krp.output = 0 ∧
        t.krp.backlight = s.krp.backlight ∧
        (∀ q : Position,
          t.kbs.keys[q] =
            match s.kbs.keys[q].state with
            | .up | .pressWait => silentKey .up
            | _ => silentKey .latent) ∧
        t.rpm.keys.map plain = s.rpm.keys.map plain ++ (reportedSet s.kbs).map fun q =>
          ⟨⟨s.kbs.keys[q].code, .release, s.kbs.keys[q].layer, true, false, q, 0, s.uptime⟩, .good, .good⟩)

/-! ## Lid, posture and wake (chapter 7) -/

/-- WAKE_CONFIG, WAKE_STATUS and WAKE_TIMER_SET, in ON, where no wake is offered: the enables, with POWER_BUTTON's forced on;
the statuses named are cleared and the held sources set again; the timer is armed or cancelled (R136, R141, R142, R143). -/
def Obligations.WakeRequestsAreTaken : Prop :=
  ∀ (sl sh ol oh ext a b c d : Byte) (s : State), quiet s = true →
    let standby := sl.toNat + 256 * sh.toNat
    let off := ol.toNat + 256 * oh.toNat
    (2047 < standby ∨ 2047 < off ∨ 15 < ext.toNat →
      exec (.wakeConfig [sl, sh, ol, oh, ext]) s = .next (answered 0x60 [5] s)) ∧
    (standby ≤ 2047 → off ≤ 2047 → ext.toNat ≤ 15 → s.psq.state = .on →
      ∃ t, exec (.wakeConfig [sl, sh, ol, oh, ext]) s = .next t ∧
        t = { s with
              lwu := { s.lwu with
                       table := t.lwu.table, ext0 := ⟨ext.getLsbD 0, ext.getLsbD 1⟩
                       ext1 := ⟨ext.getLsbD 2, ext.getLsbD 3⟩ }
              lkp := t.lkp } ∧
        (∀ i, (t.lwu.get i).standbyEnable = (i = .powerButton || standby.testBit i.index.val) ∧
          (t.lwu.get i).offEnable = (i = .powerButton || off.testBit i.index.val)) ∧
        (∀ i, i ≠ .ext0 → i ≠ .ext1 →
          (t.lwu.get i).status = (s.lwu.get i).status ∧ (t.lwu.get i).pending = (s.lwu.get i).pending) ∧
        answers 0x60
          ((if sl.getLsbD 0 && ol.getLsbD 0 then 0 else 1) :: [sl ||| 1, sh, ol ||| 1, oh, ext]) s t) ∧
    (2047 < standby → exec (.wakeStatus [sl, sh]) s = .next (answered 0x61 [5] s)) ∧
    (standby ≤ 2047 → s.psq.state = .on →
      ∃ t, exec (.wakeStatus [sl, sh]) s = .next t ∧ t = { s with lwu.table := t.lwu.table, lkp := t.lkp } ∧
        (∀ i,
          let named := standby.testBit i.index.val
          (t.lwu.get i).status = (if named then sourceHeld s i else (s.lwu.get i).status) ∧
            (t.lwu.get i).pending = (if named then sourceHeld s i else (s.lwu.get i).pending) ∧
            (t.lwu.get i).standbyEnable = (s.lwu.get i).standbyEnable ∧
            (t.lwu.get i).offEnable = (s.lwu.get i).offEnable) ∧
        answers 0x61 (0 :: mask16 (s.lwu.table.toList.map fun e => e.status) ++ wakeStatusBytes t) s t) ∧
    (let asked := a.toNat + 256 * b.toNat + 65536 * (c.toNat + 256 * d.toNat)
     let time := min 86400 asked
     exec (.wakeTimerSet [a, b, c, d]) s = .next (answered 0x62
      ((if 86400 < asked then 1 else 0) :: (le32 time ++
        [boolByte (decide (0 < time) && (s.psq.state == .standby || s.psq.state == .off))]))
      { s with lwu.wakeTimer := if time = 0 then none else some (time * 1000) }))

/-- A raw input that leaves its filtered level starts its settle timer, of 30 ms for the lid and the button and 100 ms for a
hinge, and one that returns cancels it; an external input that goes to its active level sets its wake source (R129, R130,
R135, R157). That a command telling the level that stands already does nothing is the model's reading (log 27). -/
def Obligations.RawInputsRunTheirSettleTimers : Prop :=
  ∀ (level : Bool) (s : State), busSettled s = true →
    let timer (filtered : Bool) (ms : Nat) : Option Nat := if level = filtered then none else some ms
    let set (i : WakeSource) : WakeUnit := s.lwu.set i { s.lwu.get i with status := true, pending := true }
    exec (.lidInputChange s.inputs.lidClosed) s = .next s ∧
    exec (.hingeInputChange .h1 s.inputs.hinge1) s = .next s ∧
    exec (.hingeInputChange .h2 s.inputs.hinge2) s = .next s ∧
    exec (.buttonInputChange s.inputs.button) s = .next s ∧
    exec (.extInputChange .ext0 s.inputs.ext0) s = .next s ∧
    exec (.extInputChange .ext1 s.inputs.ext1) s = .next s ∧
    (s.inputs.lidClosed ≠ level → exec (.lidInputChange level) s = .next
      { s with inputs.lidClosed := level, lwu.lidTimer := timer s.lwu.lidClosed 30 }) ∧
    (s.inputs.hinge1 ≠ level → exec (.hingeInputChange .h1 level) s = .next
      { s with inputs.hinge1 := level, lwu.hinge1Timer := timer s.lwu.hinge1 100 }) ∧
    (s.inputs.hinge2 ≠ level → exec (.hingeInputChange .h2 level) s = .next
      { s with inputs.hinge2 := level, lwu.hinge2Timer := timer s.lwu.hinge2 100 }) ∧
    (s.inputs.button ≠ level → exec (.buttonInputChange level) s = .next
      { s with inputs.button := level, psq.buttonTimer := timer s.psq.pressed 30 }) ∧
    (s.inputs.ext0 ≠ level → level = s.lwu.ext0.invert →
      exec (.extInputChange .ext0 level) s = .next { s with inputs.ext0 := level }) ∧
    (s.inputs.ext1 ≠ level → level = s.lwu.ext1.invert →
      exec (.extInputChange .ext1 level) s = .next { s with inputs.ext1 := level }) ∧
    (s.psq.state = .on → s.inputs.ext0 ≠ level → level ≠ s.lwu.ext0.invert →
      exec (.extInputChange .ext0 level) s = .next { s with inputs.ext0 := level, lwu := set .ext0 }) ∧
    (s.psq.state = .on → s.inputs.ext1 ≠ level → level ≠ s.lwu.ext1.invert →
      exec (.extInputChange .ext1 level) s = .next { s with inputs.ext1 := level, lwu := set .ext1 })

/-- A settle timer that runs out moves its filtered level to the raw one: the posture follows the lid and the hinge pair, an
opening lid sets LID_OPEN, a press sets POWER_BUTTON and starts the hold time, and a release stops it; the wake timer sets
TIMER (R129 to R132, R134, R140, R157). -/
def Obligations.SettleExpiriesMoveTheFilteredLevels : Prop :=
  ∀ s : State, busSettled s = true →
    let shown (closed : Bool) (hinge : Posture) : Posture := if closed then .closed else hinge
    (s.lwu.lidTimer = none → exec .lidSettleExpiry s = .next s) ∧
    (s.lwu.lidTimer.isSome = true → s.inputs.lidClosed ≠ s.lwu.lidClosed →
      ∃ t, exec .lidSettleExpiry s = .next t ∧ t.lwu.lidTimer = none ∧ t.lwu.lidClosed = s.inputs.lidClosed ∧
        t.lwu.posture = shown s.inputs.lidClosed s.lwu.hingePosture ∧ t.lwu.hingePosture = s.lwu.hingePosture ∧
        (s.inputs.lidClosed = false → (t.lwu.get .lidOpen).status = true) ∧
        t.srs = s.srs ∧ t.pks.record = s.pks.record ∧ t.thu.settings = s.thu.settings) ∧
    (∀ h, (match h with | .h1 => s.lwu.hinge1Timer | .h2 => s.lwu.hinge2Timer) = none →
      exec (.hingeSettleExpiry h) s = .next s) ∧
    (∀ h, (match h with | .h1 => s.lwu.hinge1Timer | .h2 => s.lwu.hinge2Timer).isSome = true →
      let one := match h with | .h1 => s.inputs.hinge1 | .h2 => s.lwu.hinge1
      let two := match h with | .h1 => s.lwu.hinge2 | .h2 => s.inputs.hinge2
      let hinge : Posture :=
        if !one && !two then .laptop else if one && !two then .tent else if one && two then .tablet
        else s.lwu.hingePosture
      ∃ t, exec (.hingeSettleExpiry h) s = .next t ∧
        t.lwu = { s.lwu with
                  hinge1 := one, hinge2 := two, hingePosture := hinge, posture := shown s.lwu.lidClosed hinge
                  hinge1Timer := t.lwu.hinge1Timer, hinge2Timer := t.lwu.hinge2Timer } ∧
        (match h with | .h1 => t.lwu.hinge1Timer | .h2 => t.lwu.hinge2Timer) = none ∧
        ((!one && two) = true → (!s.lwu.hinge1 && s.lwu.hinge2) = false → recorded .postureInput 2 s t) ∧
        ((!one && two) = false → (!s.lwu.hinge1 && s.lwu.hinge2) = true →
          (t.flt.get .postureInput).active = false) ∧
        t = { s with lwu := t.lwu, kbs := t.kbs, krp := t.krp, rpm := t.rpm, flt := t.flt, ind := t.ind }) ∧
    (s.psq.buttonTimer = none → exec .buttonSettleExpiry s = .next s) ∧
    (s.psq.buttonTimer.isSome = true → s.inputs.button = true → s.psq.pressed = false →
      ∃ t, exec .buttonSettleExpiry s = .next t ∧ t.psq.pressed = true ∧ t.psq.hold = 0 ∧ t.psq.holding = true ∧
        t.psq.buttonTimer = none ∧ t.psq.overrideFired = false ∧ (t.lwu.get .powerButton).status = true ∧
        t.psq.pressInOn = (s.psq.state == .on) ∧ t.srs = s.srs ∧ t.pks.record = s.pks.record) ∧
    (s.psq.buttonTimer.isSome = true → s.inputs.button = false → s.psq.pressed = true →
      ∃ t, exec .buttonSettleExpiry s = .next t ∧
        t = { s with
              psq := { s.psq with pressed := false, holding := false, buttonTimer := none }
              rpm := t.rpm, flt := t.flt, ind := t.ind } ∧
        (s.psq.state ≠ .on → t.rpm = s.rpm)) ∧
    (s.lwu.wakeTimer.isSome = true → s.psq.state = .standby ∨ s.psq.state = .off →
      ∃ t, exec .wakeTimerExpiry s = .next t ∧ t.lwu.wakeTimer = none ∧ (t.lwu.get .timer).status = true ∧
        t.srs = s.srs ∧ t.pks.record = s.pks.record) ∧
    (s.lwu.wakeTimer = none ∨ (s.psq.state ≠ .standby ∧ s.psq.state ≠ .off) →
      exec .wakeTimerExpiry s = .next s)

/-! ## The platform (chapter 8) -/

/-- A press in OFF starts the platform where a source or enough charge stands and no SEVERE fault is active, and is refused
with three blinks where not; SPG, MPG and RESET_HOLD then bring it to ON, where PRST is released (R148 to R150, R171, R71). -/
def Obligations.StartSequenceRunsToOn : Prop :=
  ∀ s : State, busSettled s = true →
    let pressed := { s.psq with
      pressed := true, buttonTimer := none, hold := 0, holding := true, overrideFired := false, overrideReached := false,
      pressInOn := false }
    let allowed := (s.srs.active ≠ none ∨ s.psq.settings.start ≤ s.pks.rsoc) ∧
      ∀ k : FaultKind, k.severity = .severe → (s.flt.get k).active = false
    let press := s.psq.state = .off ∧ s.psq.buttonTimer.isSome = true ∧ s.inputs.button = true ∧ s.psq.pressed = false ∧
      (s.lwu.get .powerButton).offEnable = true
    (press → allowed → s.inputs.spg = false →
      ∃ t, exec .buttonSettleExpiry s = .next t ∧ t.psq.state = .starting ∧ t.psq.step = .spgWait ∧
        t.psq.stepLeft = 20 ∧ t.psq.sre = true ∧ t.psq.mre = s.psq.mre ∧ t.psq.prst = s.psq.prst ∧
        t.lwu.cause.getLsbD 0 = true ∧ t.lwu.causeStamp = s.uptime ∧ t.flt.level = .none ∧ t.lkp.run = false ∧
        t.srs = s.srs ∧ t.pks.record = s.pks.record) ∧
    (press → ¬allowed →
      exec .buttonSettleExpiry s = .next
        { s with
          psq := pressed
          lwu := s.lwu.set .powerButton { s.lwu.get .powerButton with status := true, pending := true }
          ind :=
            { s.ind with
              blink := 3
              charge := { s.ind.charge with shown := ⟨.fast, some .amber⟩, lit := true, left := 125 } } }) ∧
    (s.psq.state = .starting → s.psq.step = .spgWait →
      exec .spgRise s = .next
        { s with
          inputs.spg := true
          psq :=
            { s.psq with
              mre := true, step := if s.inputs.mpg then .resetHold else .mpgWait
              stepLeft := if s.inputs.mpg then 10 else 50 } }) ∧
    (¬(s.psq.state = .starting ∧ s.psq.step = .spgWait) → exec .spgRise s = .next { s with inputs.spg := true }) ∧
    (let waits := (s.psq.state = .starting ∨ s.psq.state = .resuming) ∧ s.psq.step = .mpgWait
     (waits → exec .mpgRise s = .next
       { s with inputs.mpg := true, psq := { s.psq with step := .resetHold, stepLeft := 10 } }) ∧
     (¬waits → exec .mpgRise s = .next { s with inputs.mpg := true })) ∧
    (s.psq.step = .resetHold → s.psq.state = .starting ∨ s.psq.state = .resuming →
      (∀ i : Fin 8, i.val < 4 → s.thu.sensors[i].value < s.thu.settings.trip) →
      (∀ i : Fin 8, i = 4 ∨ i = 5 → s.thu.sensors[i].valid = true →
        s.thu.sensors[i].supplied < s.thu.settings.trip) →
      ∃ t, exec .resetHoldExpiry s = .next t ∧
        t.psq = { s.psq with state := .on, step := .none, stepLeft := 0, prst := false, lastRest := t.psq.lastRest } ∧
        t.inputs = s.inputs ∧ t.lwu = s.lwu ∧ t.srs = s.srs ∧ t.pks.record = s.pks.record ∧ t.lkp = s.lkp ∧
        t.kbs.suppression.notOn = false ∧
        (∀ i : Fin 8, i = 4 ∨ i = 5 → t.thu.sensors[i].takesPart = s.thu.sensors[i].valid ∧
          t.thu.sensors[i].stale = false)) ∧
    (s.psq.step ≠ .resetHold → exec .resetHoldExpiry s = .next s)

/-- Every way into OFF ends in the arrival of R147 and R154 with its stop cause and its detection: a power-good input that
does not come or is lost, the off delay, the button's override time, the critical-energy grace, and the containment stop of a
thermal trip, of a channel fault or of a pack fault under mode FORCE_OFF (R149, R153 to R156, R158, R160, R166). Stated where
no wake is left to be offered at OFF. That SPG and MPG fall with their enables is the model's deduction from R156 (log 18), and
that the timer's command acts at any time left its choice (log 2). -/
def Obligations.EveryStopArrivesInOff : Prop :=
  ∀ s : State, busSettled s = true →
    let x := s.psq
    let rail (c : Instr) (detail : Byte) : Prop :=
      ∃ t, exec c s = .next t ∧ arrivedOff .rail s t ∧ recorded .railFail detail s t ∧ t.flt.level ≠ .none
    (noWakeAfterStop s = true →
      (x.state = .starting → x.step = .spgWait → rail .stepWaitExpiry 0) ∧
      (x.state = .starting → x.step = .mpgWait → rail .stepWaitExpiry 1) ∧
      (x.state = .resuming → x.step = .mpgWait → rail .stepWaitExpiry 2) ∧
      (x.state ≠ .off → x.sre = true → ¬(x.state = .starting ∧ x.step = .spgWait) → rail (.powerGoodLoss .spg) 3) ∧
      (x.state ≠ .off → x.mre = true → x.step ≠ .mpgWait → rail (.powerGoodLoss .mpg) 4) ∧
      (x.state = .stopping → x.step = .delay →
        ∃ t, exec .offDelayExpiry s = .next t ∧ arrivedOff x.lastStop s t) ∧
      (x.state ≠ .off → x.pressed = true → x.holding = true → x.overrideFired = false → x.overrideReached = false →
        ∃ t, exec .overrideTimeReached s = .next t ∧ arrivedOff .button s t ∧ t.psq.overrideFired = true ∧
          recorded .buttonOverride (byteOf x.state.code) s t) ∧
      (x.state ≠ .off → x.grace.isSome = true →
        ∃ t, exec .graceExpiry s = .next t ∧ arrivedOff .grace s t ∧
          recorded .criticalShutdown (byteOf s.pks.rsoc) s t) ∧
      (∀ cpu charger skin ambient : Int, x.state ≠ .off → s.thu.trip = false →
        (∃ v ∈ [cpu, charger, skin, ambient], s.thu.settings.trip ≤ if -300 ≤ v ∧ v ≤ 1300 then v else 1250) →
        ∃ t, exec (.boardConversion cpu charger skin ambient) s = .next t ∧ arrivedOff .containment s t ∧
          (t.flt.get .thermalTrip).status = true ∧ (t.flt.get .thermalTrip).active = true ∧ t.flt.level ≠ .none) ∧
      (∀ p : PackId, x.state ≠ .off → s.flt.mode = .forceOff → channelFault s.inputs p = false →
        0 < (s.chc.context.get p).targetCurrent →
        ∃ t, exec (.channelFaultInputChange p true) s = .next t ∧ arrivedOff .containment s t ∧
          recorded .chargerFault (byteOf p.code) s t ∧ t.flt.level ≠ .none) ∧
      (∀ (p : PackId) (transaction : Transaction) (words : List Word16) (line : Bool) (lo hi : Byte),
        lastWordOnBus p .poll transaction words s → x.state ≠ .off → s.flt.mode = .forceOff →
        (s.pks.record.get p).state = .ready → (s.pks.record.get p).causes = ⟨false, false, false⟩ →
        ((words.getD 6 0).getLsbD 4 = true ∨ (words.getD 6 0).getLsbD 3 = true) →
        ∃ t, exec (.busAttemptEnd (.acked [lo, hi]) line) s = .next t ∧ t.psq.state = .off ∧
          t.psq.lastStop = .containment ∧ (t.pks.record.get p).state = .faulted ∧ t.flt.level ≠ .none)) ∧
    (x.step ≠ .spgWait → x.step ≠ .mpgWait → exec .stepWaitExpiry s = .next s) ∧
    (x.sre = false → exec (.powerGoodLoss .spg) s = .next { s with inputs.spg := false }) ∧
    (x.mre = false ∨ x.step = .mpgWait → exec (.powerGoodLoss .mpg) s = .next { s with inputs.mpg := false }) ∧
    (x.state ≠ .stopping → exec .offDelayExpiry s = .next s) ∧
    (x.pressed = false → exec .overrideTimeReached s = .next s) ∧
    (x.grace = none → exec .graceExpiry s = .next s)

/-- PLATFORM_REQUEST out of ON begins SUSPENDING or STOPPING, where every group stays up through the delay; the standby delay
ends in STANDBY, or in RESUMING where a wake is due (R151 to R153). That MPG falls with MRE is the model's deduction from
R156 (log 18). -/
def Obligations.SuspendAndStopRunTheirDelays : Prop :=
  ∀ (request : Byte) (s : State),
    (quiet s = true →
      (1 < request.toNat → exec (.platformRequestTransition request) s = .next (answered 0x68 [5] s)) ∧
      (request.toNat ≤ 1 → s.psq.state ≠ .on →
        exec (.platformRequestTransition request) s = .next (answered 0x68 [6] s)) ∧
      (request.toNat ≤ 1 → s.psq.state = .on →
        ∃ t, exec (.platformRequestTransition request) s = .next t ∧
          t.psq =
            { s.psq with
              state := if request = 0 then .suspending else .stopping, step := .delay
              stepLeft := if request = 0 then s.psq.settings.standbyDelay else s.psq.settings.offDelay
              stopKind := if request = 0 then s.psq.stopKind else .requested
              lastStop := if request = 0 then s.psq.lastStop else .requested, lastRest := .on } ∧
          answers 0x68 [0, if request = 0 then 3 else 6] s t ∧
          (∀ i, (t.lwu.get i).pending = sourceHeld s i) ∧
          (∀ f, (t.fnc.fan.get f).mode = .auto) ∧ t.thu.sensors[4].takesPart = false ∧
          t.thu.sensors[5].takesPart = false ∧ t.kbs.mode = .stopped ∧
          (suppressed s.kbs.suppression = false → t.krp.output = 0) ∧ t.inputs = s.inputs ∧
          t.srs = s.srs ∧ t.pks.record = s.pks.record ∧ t.chc.policy = s.chc.policy)) ∧
    (busSettled s = true → s.psq.state = .suspending →
      (wakeDue s = false →
        ∃ t, exec .standbyDelayExpiry s = .next t ∧
          t.psq =
            { s.psq with
              state := .standby, step := .none, stepLeft := 0, mre := false, prst := true
              lastRest := s.psq.lastRest } ∧
          t.inputs = { s.inputs with mpg := false } ∧ t.kbs.mode = .wake ∧
          (s.kbs.mode ≠ .wake → t.kbs.passRunning = true) ∧ t.lwu = s.lwu ∧
          t.lkp = s.lkp ∧ t.srs = s.srs ∧ t.pks.record = s.pks.record) ∧
      (wakeDue s = true →
        ∃ t, exec .standbyDelayExpiry s = .next t ∧ t.psq.state = .resuming ∧ t.psq.step = .mpgWait ∧
          t.psq.stepLeft = 50 ∧ t.psq.mre = true ∧ t.psq.prst = true ∧ t.psq.sre = s.psq.sre ∧
          t.lwu.cause = dueMask s ∧ t.lwu.causeStamp = s.uptime ∧ t.lkp = s.lkp)) ∧
    (busSettled s = true → s.psq.state ≠ .suspending → exec .standbyDelayExpiry s = .next s)

/-- PLATFORM_REQUEST takes its six settings, each held to its range: an override time that the hold time has passed fires at
once, and critical energy is judged at once with the new critical threshold, and again as the restart hold ends: it starts the
grace, or ends it (R158 to R161). That nothing is judged while the restart hold is in force is the model's reading (log 24). -/
def Obligations.SettingsAndRestartHoldJudgeEnergy : Prop :=
  ∀ (p : List Byte) (s : State),
    let range (lo hi n : Nat) : Nat := max lo (min hi n)
    let low (critical : Nat) : Prop :=
      s.srs.active = none ∧ s.pks.rsoc ≤ critical ∧
        ∃ q, (s.pks.record.get q).present = true ∧ (s.pks.record.get q).identified = true
    (quiet s = true → p.length = 9 →
      let x : SeqSettings :=
        ⟨range 10 1000 (le16At p 0), range 10 1000 (le16At p 2), range 2 10 (byteAt p 4), range 5 300 (le16At p 5),
          range 1 10 (byteAt p 7), range 1 20 (byteAt p 8)⟩
      ∃ t, exec (.platformRequestSettings p) s = .next t ∧ t.psq.settings = x ∧
        (let bytes := le16 x.standbyDelay ++ le16 x.offDelay ++ [byteOf x.override] ++ le16 x.grace ++
           [byteOf x.critical, byteOf x.start]
         answers 0x68 ((if bytes = p then 0 else 1) :: bytes) s t) ∧
        (s.psq.restartHold.isSome = true → s.psq.pressed = false →
          t = { s with psq.settings := x, lkp := t.lkp }) ∧
        (s.psq.restartHold = none → s.psq.pressed = false →
          (low x.critical → t.psq.critical = true ∧
            (s.psq.critical = false → s.psq.state ≠ .off → s.psq.grace = none →
              t.psq.grace = some (x.grace * 1000) ∧ (t.lwu.get .lowEnergy).status = true)) ∧
          (¬low x.critical →
            t = { s with
                  psq := { s.psq with settings := x, critical := false, grace := none }
                  lkp := t.lkp, rpm := t.rpm, flt := t.flt, ind := t.ind })) ∧
        (s.psq.pressed = true → s.psq.holding = true → s.psq.overrideFired = false →
          s.psq.overrideReached = false → s.psq.state ≠ .off →
          (x.override * 1000 ≤ s.psq.hold → noWakeAfterStop s = true →
            t.psq.state = .off ∧ t.psq.lastStop = .button ∧ t.psq.overrideFired = true ∧
              recorded .buttonOverride (byteOf s.psq.state.code) s t) ∧
          (s.psq.hold < x.override * 1000 → t.psq.overrideFired = false ∧ t.psq.overrideReached = false))) ∧
    (busSettled s = true → s.psq.restartHold.isSome = true →
      ∃ t, exec .restartHoldEnd s = .next t ∧ t.psq.restartHold = none ∧
        (low s.psq.settings.critical → t.psq.critical = true ∧
          (s.psq.critical = false → s.psq.state ≠ .off → s.psq.grace = none →
            t.psq.grace = some (s.psq.settings.grace * 1000) ∧ (t.lwu.get .lowEnergy).status = true)) ∧
        (¬low s.psq.settings.critical → t.psq.critical = false ∧ t.psq.grace = none ∧
          t = { s with
                psq := { s.psq with restartHold := none, critical := false, grace := none }
                rpm := t.rpm, flt := t.flt, ind := t.ind })) ∧
    (busSettled s = true → s.psq.restartHold = none → exec .restartHoldEnd s = .next s)

/-! ## Faults and indicators (chapter 9) -/

/-- FAULT_CLEAR clears the named records that are not active; a lasting kind that is still active is detected again, and a
SEVERE one takes its containment action under the mode now in force, an entry to OFF among them; PACK_OVER_CHARGED and
PACK_OVER_TEMP named remove that cause from each pack whose condition has gone, and a FAULTED pack left with none is READY
(R29, R166); the level is released once no SEVERE kind is left set or active; FAULT_MASK_SET and CONTAINMENT_SET set what they
name (R173 to R175). The SEVERE clause is stated where no wake is left to be offered at OFF, and for a thermal trip that has forced
the platform off already, as R73 has it do at once. -/
def Obligations.FaultRequestsClearAndSet : Prop :=
  ∀ (a b c mode : Byte) (s : State), quiet s = true →
    let mask := a.toNat + 256 * b.toNat + 65536 * c.toNat
    let names (k : FaultKind) : Bool := mask.testBit k.index.val
    (1048575 < mask →
      exec (.faultClear [a, b, c]) s = .next (answered 0x71 [5] s) ∧
        exec (.faultMaskSet [a, b, c]) s = .next (answered 0x72 [5] s)) ∧
    (mask ≤ 1048575 → (∀ k, names k = true → k ≠ .packOverTemp ∧ k ≠ .packOverCharged) →
      ((∀ k, names k = true → (s.flt.get k).active = false) → s.flt.level = .none →
        ∃ t, exec (.faultClear [a, b, c]) s = .next t ∧
          (∀ k, t.flt.get k =
            if names k then { s.flt.get k with status := false, count := 0, firstStamp := 0 } else s.flt.get k) ∧
          t = { s with flt.record := t.flt.record, ind.charge := t.ind.charge, lkp := t.lkp } ∧
          answers 0x71 (0 :: mask24 (t.flt.record.toList.map fun r => r.status) ++ [0]) s t) ∧
      ((∀ k, k.severity = .severe → names k = true → (s.flt.get k).active = false) →
        ∃ t, exec (.faultClear [a, b, c]) s = .next t ∧
          ∀ k, names k = true → (s.flt.get k).active = true → k.lasting = true →
            (t.flt.get k).status = true ∧ (t.flt.get k).active = true ∧ (t.flt.get k).count = 1 ∧
              (t.flt.get k).firstStamp = s.uptime ∧ (t.flt.get k).detail = (s.flt.get k).detail)) ∧
    (mask ≤ 1048575 → faultsOk s.flt = true → noWakeAfterStop s = true →
      ((s.flt.get .thermalTrip).active = true → s.psq.state = .off) →
      ∀ k : FaultKind, names k = true → k.severity = .severe → k.lasting = true → (s.flt.get k).active = true →
        let u := s.flt.get k
        let forced := s.flt.mode = .forceOff ∨ k = .thermalTrip
        ∃ t, exec (.faultClear [a, b, c]) s = .next t ∧
          (t.flt.get k).status = true ∧ (t.flt.get k).count = 1 ∧ (t.flt.get k).firstStamp = s.uptime ∧
          (t.flt.get k).detail = u.detail ∧ (k ≠ .thermalTrip → (t.flt.get k).active = true) ∧ t.flt.level ≠ .none ∧
          (s.flt.mode = .shed → k ≠ .thermalTrip → t.flt.level = .shed) ∧
          (forced → t.psq.state = .off ∧ (s.psq.state ≠ .off → t.psq.lastStop = .containment))) ∧
    (mask ≤ 1048575 → ∀ p : PackId,
      let r := s.pks.record.get p
      let charged := r.alarm.overCharged = true
      let hot := r.alarm.overTemp = true ∨ 600 ≤ r.temperature
      let left : CauseSet :=
        ⟨r.causes.comm, r.causes.overCharged && decide (names .packOverCharged = true → charged),
          r.causes.overTemp && decide (names .packOverTemp = true → hot)⟩
      ∃ t, exec (.faultClear [a, b, c]) s = .next t ∧
        (t.pks.record.get p).causes = left ∧
        (r.state ≠ .identify ∨ r.causes = ⟨false, false, false⟩ → (t.pks.record.get p).state =
          (if left ≠ r.causes ∧ left = ⟨false, false, false⟩ ∧ r.state = .faulted then .ready else r.state)) ∧
        (∀ k, k = .packOverCharged ∨ k = .packOverTemp → names k = true → (s.flt.get k).active = false →
          (t.flt.get k).status = false ∧ (t.flt.get k).active = false ∧ (t.flt.get k).count = 0)) ∧
    (mask ≤ 1048575 → 0 < mask →
      (∀ k, k.severity = .severe → (s.flt.get k).active = false ∧ ((s.flt.get k).status = true → names k = true)) →
      ∃ t, exec (.faultClear [a, b, c]) s = .next t ∧ t.flt.level = .none) ∧
    (mask ≤ 1048575 →
      ∃ t, exec (.faultMaskSet [a, b, c]) s = .next t ∧
        t = { s with flt.record := t.flt.record, lkp := t.lkp } ∧
        (∀ k, t.flt.get k = { s.flt.get k with masked := names k }) ∧ answers 0x72 [0, a, b, c] s t) ∧
    (3 < mode.toNat → exec (.containmentSet [mode]) s = .next (answered 0x73 [5] s)) ∧
    (mode.toNat ≤ 3 →
      exec (.containmentSet [mode]) s = .next (answered 0x73 [0, mode, byteOf s.flt.level.code]
        { s with
          flt.mode :=
            if mode = 0 then .notify else if mode = 1 then .stopCharge else if mode = 2 then .shed else .forceOff }))

/-- INDICATOR_SET overrides an LED or returns it to its derived pattern, the charge LED only while no SEVERE status is set and
no blink runs; the phases of a pattern alternate, and each dark phase that ends takes one blink away; the LED is driven as its
phase and its invert give (R169 to R171, R176). A FAULT_CLEAR whose kinds are none of them active has the charge LED derived
again from the statuses it leaves (R170, R173). -/
def Obligations.IndicatorsShowOverridesAndBlink : Prop :=
  ∀ (led : LedId) (pattern colour invert a b c : Byte) (s : State),
    let mask := a.toNat + 256 * b.toNat + 65536 * c.toNat
    let names (k : FaultKind) : Bool := mask.testBit k.index.val
    let one : Option Pattern :=
      if pattern = 1 then some .off else if pattern = 2 then some .solid else if pattern = 3 then some .slow
      else if pattern = 4 then some .fast else none
    let phase (x : Pattern) : Nat := if x = .slow then 500 else if x = .fast then 125 else 0
    let severe := ∃ k : FaultKind, k.severity = .severe ∧ (s.flt.get k).status = true
    let driven (x : LedRecord) : Prop :=
      (x.shown.pattern = .off → drivenLit x = decide (invert = 1)) ∧
        (x.shown.pattern = .solid → drivenLit x = decide (invert ≠ 1)) ∧
        (x.shown.pattern = .slow ∨ x.shown.pattern = .fast → drivenLit x = (x.lit != decide (invert = 1)))
    (quiet s = true →
      (4 < pattern.toNat ∨ 1 < colour.toNat ∨ 1 < invert.toNat →
        exec (.indicatorSet [0, pattern, colour, invert]) s = .next (answered 0x74 [5] s)) ∧
      (pattern.toNat ≤ 4 → colour.toNat ≤ 1 → invert.toNat ≤ 1 →
        (let want : Show := ⟨one.getD (derivedPower s.psq.state).pattern, none⟩
         ∃ t, exec (.indicatorSet [0, pattern, colour, invert]) s = .next t ∧
          t = { s with ind.power := t.ind.power, lkp := t.lkp } ∧ t.ind.power.shown = want ∧
          t.ind.power.invert = decide (invert = 1) ∧ t.ind.power.override = one.map (fun x => ⟨x, none⟩) ∧
          (s.ind.power.shown ≠ want →
            t.ind.power.lit = decide (want.pattern ≠ .off) ∧ t.ind.power.left = phase want.pattern) ∧ driven t.ind.power ∧
          (s.ind.power.shown = want → t.ind.power.lit = s.ind.power.lit ∧ t.ind.power.left = s.ind.power.left)) ∧
        (let shade : Colour := if colour = 0 then .amber else .green
         ∃ t, exec (.indicatorSet [1, pattern, colour, invert]) s = .next t ∧
          t = { s with ind.charge := t.ind.charge, lkp := t.lkp } ∧
          t.ind.charge.invert = decide (invert = 1) ∧
          t.ind.charge.override = one.map (fun x => ⟨x, some shade⟩) ∧ driven t.ind.charge ∧
          (∀ x, t.ind.charge.shown.colour = some x →
            drivenColour t.ind.charge = if drivenLit t.ind.charge then some x else none) ∧
          (t.ind.charge.shown ≠ s.ind.charge.shown →
            t.ind.charge.lit = decide (t.ind.charge.shown.pattern ≠ .off) ∧
              t.ind.charge.left = phase t.ind.charge.shown.pattern) ∧
          (severe ∨ 0 < s.ind.blink → t.ind.charge.shown = ⟨.fast, some .amber⟩) ∧
          (¬severe → s.ind.blink = 0 →
            t.ind.charge.shown = match one with
              | some x => ⟨x, some shade⟩
              | none => derivedCharge s)))) ∧
    (quiet s = true → mask ≤ 1048575 → s.flt.level = .none →
      (∀ k, names k = true → (s.flt.get k).active = false ∧ k ≠ .packOverTemp ∧ k ≠ .packOverCharged) →
      let kept := ∃ k : FaultKind, k.severity = .severe ∧ names k = false ∧ (s.flt.get k).status = true
      ∃ t, exec (.faultClear [a, b, c]) s = .next t ∧
        t = { s with flt.record := t.flt.record, ind.charge := t.ind.charge, lkp := t.lkp } ∧
        (∀ k, (t.flt.get k).status = ((s.flt.get k).status && !names k)) ∧
        t.ind.charge.derived = derivedCharge t ∧ t.ind.charge.override = s.ind.charge.override ∧
        t.ind.charge.invert = s.ind.charge.invert ∧
        (kept ∨ 0 < s.ind.blink → t.ind.charge.shown = ⟨.fast, some .amber⟩) ∧
        (¬kept → s.ind.blink = 0 → t.ind.charge.shown = s.ind.charge.override.getD (derivedCharge t))) ∧
    (busSettled s = true →
      (let x := match led with | .power => s.ind.power | .charge => s.ind.charge
       x.shown.pattern ≠ .slow → x.shown.pattern ≠ .fast → exec (.ledPhaseEnd led) s = .next s) ∧
      (s.ind.power.shown.pattern = .slow ∨ s.ind.power.shown.pattern = .fast →
        ∃ t, exec (.ledPhaseEnd .power) s = .next t ∧ drivenLit t.ind.power = !drivenLit s.ind.power ∧
          t = { s with
                ind.power :=
                  { s.ind.power with lit := !s.ind.power.lit, left := phase s.ind.power.shown.pattern } }) ∧
      (s.ind.charge.shown.pattern = .slow ∨ s.ind.charge.shown.pattern = .fast →
        (s.ind.charge.lit = true ∨ s.ind.blink ≠ 1 →
          exec (.ledPhaseEnd .charge) s = .next
            { s with
              ind :=
                { s.ind with
                  charge :=
                    { s.ind.charge with lit := !s.ind.charge.lit, left := phase s.ind.charge.shown.pattern }
                  blink := if s.ind.charge.lit then s.ind.blink else s.ind.blink - 1 } }) ∧
        (s.ind.charge.lit = false → s.ind.blink = 1 →
          ∃ t, exec (.ledPhaseEnd .charge) s = .next t ∧ t.ind.blink = 0 ∧
            t = { s with ind := { s.ind with charge := t.ind.charge, blink := 0 } } ∧
            (¬severe → t.ind.charge.shown = s.ind.charge.override.getD (derivedCharge s)))))
end

