-- ==== Sys2Proof/Laws/State.lean ====
section
/-! SUPPORT. One lemma per field per named update of the state: what the update leaves alone. Generated from the list of the
updates; each holds by `rfl`. -/

namespace Sys2Proof.Machine

@[simp] theorem setSource_uptime (i : SourceId) (r : SourceRecord) (s : State) : (setSource i r s).uptime = s.uptime := rfl
@[simp] theorem setSource_straps (i : SourceId) (r : SourceRecord) (s : State) : (setSource i r s).straps = s.straps := rfl
@[simp] theorem setSource_inputs (i : SourceId) (r : SourceRecord) (s : State) : (setSource i r s).inputs = s.inputs := rfl
@[simp] theorem setSource_pbc (i : SourceId) (r : SourceRecord) (s : State) : (setSource i r s).pbc = s.pbc := rfl
@[simp] theorem setSource_pks (i : SourceId) (r : SourceRecord) (s : State) : (setSource i r s).pks = s.pks := rfl
@[simp] theorem setSource_chc (i : SourceId) (r : SourceRecord) (s : State) : (setSource i r s).chc = s.chc := rfl
@[simp] theorem setSource_thu (i : SourceId) (r : SourceRecord) (s : State) : (setSource i r s).thu = s.thu := rfl
@[simp] theorem setSource_fnc (i : SourceId) (r : SourceRecord) (s : State) : (setSource i r s).fnc = s.fnc := rfl
@[simp] theorem setSource_kbs (i : SourceId) (r : SourceRecord) (s : State) : (setSource i r s).kbs = s.kbs := rfl
@[simp] theorem setSource_krp (i : SourceId) (r : SourceRecord) (s : State) : (setSource i r s).krp = s.krp := rfl
@[simp] theorem setSource_lwu (i : SourceId) (r : SourceRecord) (s : State) : (setSource i r s).lwu = s.lwu := rfl
@[simp] theorem setSource_psq (i : SourceId) (r : SourceRecord) (s : State) : (setSource i r s).psq = s.psq := rfl
@[simp] theorem setSource_flt (i : SourceId) (r : SourceRecord) (s : State) : (setSource i r s).flt = s.flt := rfl
@[simp] theorem setSource_ind (i : SourceId) (r : SourceRecord) (s : State) : (setSource i r s).ind = s.ind := rfl
@[simp] theorem setSource_lkp (i : SourceId) (r : SourceRecord) (s : State) : (setSource i r s).lkp = s.lkp := rfl
@[simp] theorem setSource_rpm (i : SourceId) (r : SourceRecord) (s : State) : (setSource i r s).rpm = s.rpm := rfl
@[simp] theorem setSource_pending (i : SourceId) (r : SourceRecord) (s : State) : (setSource i r s).pending = s.pending := rfl
@[simp] theorem setSensor_uptime (i : Fin 8) (r : SensorRecord) (s : State) : (setSensor i r s).uptime = s.uptime := rfl
@[simp] theorem setSensor_straps (i : Fin 8) (r : SensorRecord) (s : State) : (setSensor i r s).straps = s.straps := rfl
@[simp] theorem setSensor_inputs (i : Fin 8) (r : SensorRecord) (s : State) : (setSensor i r s).inputs = s.inputs := rfl
@[simp] theorem setSensor_srs (i : Fin 8) (r : SensorRecord) (s : State) : (setSensor i r s).srs = s.srs := rfl
@[simp] theorem setSensor_pbc (i : Fin 8) (r : SensorRecord) (s : State) : (setSensor i r s).pbc = s.pbc := rfl
@[simp] theorem setSensor_pks (i : Fin 8) (r : SensorRecord) (s : State) : (setSensor i r s).pks = s.pks := rfl
@[simp] theorem setSensor_chc (i : Fin 8) (r : SensorRecord) (s : State) : (setSensor i r s).chc = s.chc := rfl
@[simp] theorem setSensor_fnc (i : Fin 8) (r : SensorRecord) (s : State) : (setSensor i r s).fnc = s.fnc := rfl
@[simp] theorem setSensor_kbs (i : Fin 8) (r : SensorRecord) (s : State) : (setSensor i r s).kbs = s.kbs := rfl
@[simp] theorem setSensor_krp (i : Fin 8) (r : SensorRecord) (s : State) : (setSensor i r s).krp = s.krp := rfl
@[simp] theorem setSensor_lwu (i : Fin 8) (r : SensorRecord) (s : State) : (setSensor i r s).lwu = s.lwu := rfl
@[simp] theorem setSensor_psq (i : Fin 8) (r : SensorRecord) (s : State) : (setSensor i r s).psq = s.psq := rfl
@[simp] theorem setSensor_flt (i : Fin 8) (r : SensorRecord) (s : State) : (setSensor i r s).flt = s.flt := rfl
@[simp] theorem setSensor_ind (i : Fin 8) (r : SensorRecord) (s : State) : (setSensor i r s).ind = s.ind := rfl
@[simp] theorem setSensor_lkp (i : Fin 8) (r : SensorRecord) (s : State) : (setSensor i r s).lkp = s.lkp := rfl
@[simp] theorem setSensor_rpm (i : Fin 8) (r : SensorRecord) (s : State) : (setSensor i r s).rpm = s.rpm := rfl
@[simp] theorem setSensor_pending (i : Fin 8) (r : SensorRecord) (s : State) : (setSensor i r s).pending = s.pending := rfl
@[simp] theorem setKey_uptime (p : Position) (k : KeyEntry) (s : State) : (setKey p k s).uptime = s.uptime := rfl
@[simp] theorem setKey_straps (p : Position) (k : KeyEntry) (s : State) : (setKey p k s).straps = s.straps := rfl
@[simp] theorem setKey_inputs (p : Position) (k : KeyEntry) (s : State) : (setKey p k s).inputs = s.inputs := rfl
@[simp] theorem setKey_srs (p : Position) (k : KeyEntry) (s : State) : (setKey p k s).srs = s.srs := rfl
@[simp] theorem setKey_pbc (p : Position) (k : KeyEntry) (s : State) : (setKey p k s).pbc = s.pbc := rfl
@[simp] theorem setKey_pks (p : Position) (k : KeyEntry) (s : State) : (setKey p k s).pks = s.pks := rfl
@[simp] theorem setKey_chc (p : Position) (k : KeyEntry) (s : State) : (setKey p k s).chc = s.chc := rfl
@[simp] theorem setKey_thu (p : Position) (k : KeyEntry) (s : State) : (setKey p k s).thu = s.thu := rfl
@[simp] theorem setKey_fnc (p : Position) (k : KeyEntry) (s : State) : (setKey p k s).fnc = s.fnc := rfl
@[simp] theorem setKey_krp (p : Position) (k : KeyEntry) (s : State) : (setKey p k s).krp = s.krp := rfl
@[simp] theorem setKey_lwu (p : Position) (k : KeyEntry) (s : State) : (setKey p k s).lwu = s.lwu := rfl
@[simp] theorem setKey_psq (p : Position) (k : KeyEntry) (s : State) : (setKey p k s).psq = s.psq := rfl
@[simp] theorem setKey_flt (p : Position) (k : KeyEntry) (s : State) : (setKey p k s).flt = s.flt := rfl
@[simp] theorem setKey_ind (p : Position) (k : KeyEntry) (s : State) : (setKey p k s).ind = s.ind := rfl
@[simp] theorem setKey_lkp (p : Position) (k : KeyEntry) (s : State) : (setKey p k s).lkp = s.lkp := rfl
@[simp] theorem setKey_rpm (p : Position) (k : KeyEntry) (s : State) : (setKey p k s).rpm = s.rpm := rfl
@[simp] theorem setKey_pending (p : Position) (k : KeyEntry) (s : State) : (setKey p k s).pending = s.pending := rfl
@[simp] theorem modRecord_uptime (p : PackId) (f : PackRecord → PackRecord) (s : State) : (modRecord p f s).uptime = s.uptime := rfl
@[simp] theorem modRecord_straps (p : PackId) (f : PackRecord → PackRecord) (s : State) : (modRecord p f s).straps = s.straps := rfl
@[simp] theorem modRecord_inputs (p : PackId) (f : PackRecord → PackRecord) (s : State) : (modRecord p f s).inputs = s.inputs := rfl
@[simp] theorem modRecord_srs (p : PackId) (f : PackRecord → PackRecord) (s : State) : (modRecord p f s).srs = s.srs := rfl
@[simp] theorem modRecord_pbc (p : PackId) (f : PackRecord → PackRecord) (s : State) : (modRecord p f s).pbc = s.pbc := rfl
@[simp] theorem modRecord_chc (p : PackId) (f : PackRecord → PackRecord) (s : State) : (modRecord p f s).chc = s.chc := rfl
@[simp] theorem modRecord_thu (p : PackId) (f : PackRecord → PackRecord) (s : State) : (modRecord p f s).thu = s.thu := rfl
@[simp] theorem modRecord_fnc (p : PackId) (f : PackRecord → PackRecord) (s : State) : (modRecord p f s).fnc = s.fnc := rfl
@[simp] theorem modRecord_kbs (p : PackId) (f : PackRecord → PackRecord) (s : State) : (modRecord p f s).kbs = s.kbs := rfl
@[simp] theorem modRecord_krp (p : PackId) (f : PackRecord → PackRecord) (s : State) : (modRecord p f s).krp = s.krp := rfl
@[simp] theorem modRecord_lwu (p : PackId) (f : PackRecord → PackRecord) (s : State) : (modRecord p f s).lwu = s.lwu := rfl
@[simp] theorem modRecord_psq (p : PackId) (f : PackRecord → PackRecord) (s : State) : (modRecord p f s).psq = s.psq := rfl
@[simp] theorem modRecord_flt (p : PackId) (f : PackRecord → PackRecord) (s : State) : (modRecord p f s).flt = s.flt := rfl
@[simp] theorem modRecord_ind (p : PackId) (f : PackRecord → PackRecord) (s : State) : (modRecord p f s).ind = s.ind := rfl
@[simp] theorem modRecord_lkp (p : PackId) (f : PackRecord → PackRecord) (s : State) : (modRecord p f s).lkp = s.lkp := rfl
@[simp] theorem modRecord_rpm (p : PackId) (f : PackRecord → PackRecord) (s : State) : (modRecord p f s).rpm = s.rpm := rfl
@[simp] theorem modRecord_pending (p : PackId) (f : PackRecord → PackRecord) (s : State) : (modRecord p f s).pending = s.pending := rfl
@[simp] theorem modSchedule_uptime (p : PackId) (f : PackSchedule → PackSchedule) (s : State) : (modSchedule p f s).uptime = s.uptime := rfl
@[simp] theorem modSchedule_straps (p : PackId) (f : PackSchedule → PackSchedule) (s : State) : (modSchedule p f s).straps = s.straps := rfl
@[simp] theorem modSchedule_inputs (p : PackId) (f : PackSchedule → PackSchedule) (s : State) : (modSchedule p f s).inputs = s.inputs := rfl
@[simp] theorem modSchedule_srs (p : PackId) (f : PackSchedule → PackSchedule) (s : State) : (modSchedule p f s).srs = s.srs := rfl
@[simp] theorem modSchedule_pbc (p : PackId) (f : PackSchedule → PackSchedule) (s : State) : (modSchedule p f s).pbc = s.pbc := rfl
@[simp] theorem modSchedule_chc (p : PackId) (f : PackSchedule → PackSchedule) (s : State) : (modSchedule p f s).chc = s.chc := rfl
@[simp] theorem modSchedule_thu (p : PackId) (f : PackSchedule → PackSchedule) (s : State) : (modSchedule p f s).thu = s.thu := rfl
@[simp] theorem modSchedule_fnc (p : PackId) (f : PackSchedule → PackSchedule) (s : State) : (modSchedule p f s).fnc = s.fnc := rfl
@[simp] theorem modSchedule_kbs (p : PackId) (f : PackSchedule → PackSchedule) (s : State) : (modSchedule p f s).kbs = s.kbs := rfl
@[simp] theorem modSchedule_krp (p : PackId) (f : PackSchedule → PackSchedule) (s : State) : (modSchedule p f s).krp = s.krp := rfl
@[simp] theorem modSchedule_lwu (p : PackId) (f : PackSchedule → PackSchedule) (s : State) : (modSchedule p f s).lwu = s.lwu := rfl
@[simp] theorem modSchedule_psq (p : PackId) (f : PackSchedule → PackSchedule) (s : State) : (modSchedule p f s).psq = s.psq := rfl
@[simp] theorem modSchedule_flt (p : PackId) (f : PackSchedule → PackSchedule) (s : State) : (modSchedule p f s).flt = s.flt := rfl
@[simp] theorem modSchedule_ind (p : PackId) (f : PackSchedule → PackSchedule) (s : State) : (modSchedule p f s).ind = s.ind := rfl
@[simp] theorem modSchedule_lkp (p : PackId) (f : PackSchedule → PackSchedule) (s : State) : (modSchedule p f s).lkp = s.lkp := rfl
@[simp] theorem modSchedule_rpm (p : PackId) (f : PackSchedule → PackSchedule) (s : State) : (modSchedule p f s).rpm = s.rpm := rfl
@[simp] theorem modSchedule_pending (p : PackId) (f : PackSchedule → PackSchedule) (s : State) : (modSchedule p f s).pending = s.pending := rfl
@[simp] theorem modFan_uptime (i : FanId) (f : FanRecord → FanRecord) (s : State) : (modFan i f s).uptime = s.uptime := rfl
@[simp] theorem modFan_straps (i : FanId) (f : FanRecord → FanRecord) (s : State) : (modFan i f s).straps = s.straps := rfl
@[simp] theorem modFan_inputs (i : FanId) (f : FanRecord → FanRecord) (s : State) : (modFan i f s).inputs = s.inputs := rfl
@[simp] theorem modFan_srs (i : FanId) (f : FanRecord → FanRecord) (s : State) : (modFan i f s).srs = s.srs := rfl
@[simp] theorem modFan_pbc (i : FanId) (f : FanRecord → FanRecord) (s : State) : (modFan i f s).pbc = s.pbc := rfl
@[simp] theorem modFan_pks (i : FanId) (f : FanRecord → FanRecord) (s : State) : (modFan i f s).pks = s.pks := rfl
@[simp] theorem modFan_chc (i : FanId) (f : FanRecord → FanRecord) (s : State) : (modFan i f s).chc = s.chc := rfl
@[simp] theorem modFan_thu (i : FanId) (f : FanRecord → FanRecord) (s : State) : (modFan i f s).thu = s.thu := rfl
@[simp] theorem modFan_kbs (i : FanId) (f : FanRecord → FanRecord) (s : State) : (modFan i f s).kbs = s.kbs := rfl
@[simp] theorem modFan_krp (i : FanId) (f : FanRecord → FanRecord) (s : State) : (modFan i f s).krp = s.krp := rfl
@[simp] theorem modFan_lwu (i : FanId) (f : FanRecord → FanRecord) (s : State) : (modFan i f s).lwu = s.lwu := rfl
@[simp] theorem modFan_psq (i : FanId) (f : FanRecord → FanRecord) (s : State) : (modFan i f s).psq = s.psq := rfl
@[simp] theorem modFan_flt (i : FanId) (f : FanRecord → FanRecord) (s : State) : (modFan i f s).flt = s.flt := rfl
@[simp] theorem modFan_ind (i : FanId) (f : FanRecord → FanRecord) (s : State) : (modFan i f s).ind = s.ind := rfl
@[simp] theorem modFan_lkp (i : FanId) (f : FanRecord → FanRecord) (s : State) : (modFan i f s).lkp = s.lkp := rfl
@[simp] theorem modFan_rpm (i : FanId) (f : FanRecord → FanRecord) (s : State) : (modFan i f s).rpm = s.rpm := rfl
@[simp] theorem modFan_pending (i : FanId) (f : FanRecord → FanRecord) (s : State) : (modFan i f s).pending = s.pending := rfl
@[simp] theorem endFault_uptime (k : FaultKind) (s : State) : (endFault k s).uptime = s.uptime := rfl
@[simp] theorem endFault_straps (k : FaultKind) (s : State) : (endFault k s).straps = s.straps := rfl
@[simp] theorem endFault_inputs (k : FaultKind) (s : State) : (endFault k s).inputs = s.inputs := rfl
@[simp] theorem endFault_srs (k : FaultKind) (s : State) : (endFault k s).srs = s.srs := rfl
@[simp] theorem endFault_pbc (k : FaultKind) (s : State) : (endFault k s).pbc = s.pbc := rfl
@[simp] theorem endFault_pks (k : FaultKind) (s : State) : (endFault k s).pks = s.pks := rfl
@[simp] theorem endFault_chc (k : FaultKind) (s : State) : (endFault k s).chc = s.chc := rfl
@[simp] theorem endFault_thu (k : FaultKind) (s : State) : (endFault k s).thu = s.thu := rfl
@[simp] theorem endFault_fnc (k : FaultKind) (s : State) : (endFault k s).fnc = s.fnc := rfl
@[simp] theorem endFault_kbs (k : FaultKind) (s : State) : (endFault k s).kbs = s.kbs := rfl
@[simp] theorem endFault_krp (k : FaultKind) (s : State) : (endFault k s).krp = s.krp := rfl
@[simp] theorem endFault_lwu (k : FaultKind) (s : State) : (endFault k s).lwu = s.lwu := rfl
@[simp] theorem endFault_psq (k : FaultKind) (s : State) : (endFault k s).psq = s.psq := rfl
@[simp] theorem endFault_ind (k : FaultKind) (s : State) : (endFault k s).ind = s.ind := rfl
@[simp] theorem endFault_lkp (k : FaultKind) (s : State) : (endFault k s).lkp = s.lkp := rfl
@[simp] theorem endFault_rpm (k : FaultKind) (s : State) : (endFault k s).rpm = s.rpm := rfl
@[simp] theorem endFault_pending (k : FaultKind) (s : State) : (endFault k s).pending = s.pending := rfl
@[simp] theorem markSource_uptime (i : WakeSource) (s : State) : (markSource i s).uptime = s.uptime := rfl
@[simp] theorem markSource_straps (i : WakeSource) (s : State) : (markSource i s).straps = s.straps := rfl
@[simp] theorem markSource_inputs (i : WakeSource) (s : State) : (markSource i s).inputs = s.inputs := rfl
@[simp] theorem markSource_srs (i : WakeSource) (s : State) : (markSource i s).srs = s.srs := rfl
@[simp] theorem markSource_pbc (i : WakeSource) (s : State) : (markSource i s).pbc = s.pbc := rfl
@[simp] theorem markSource_pks (i : WakeSource) (s : State) : (markSource i s).pks = s.pks := rfl
@[simp] theorem markSource_chc (i : WakeSource) (s : State) : (markSource i s).chc = s.chc := rfl
@[simp] theorem markSource_thu (i : WakeSource) (s : State) : (markSource i s).thu = s.thu := rfl
@[simp] theorem markSource_fnc (i : WakeSource) (s : State) : (markSource i s).fnc = s.fnc := rfl
@[simp] theorem markSource_kbs (i : WakeSource) (s : State) : (markSource i s).kbs = s.kbs := rfl
@[simp] theorem markSource_krp (i : WakeSource) (s : State) : (markSource i s).krp = s.krp := rfl
@[simp] theorem markSource_psq (i : WakeSource) (s : State) : (markSource i s).psq = s.psq := rfl
@[simp] theorem markSource_flt (i : WakeSource) (s : State) : (markSource i s).flt = s.flt := rfl
@[simp] theorem markSource_ind (i : WakeSource) (s : State) : (markSource i s).ind = s.ind := rfl
@[simp] theorem markSource_lkp (i : WakeSource) (s : State) : (markSource i s).lkp = s.lkp := rfl
@[simp] theorem markSource_rpm (i : WakeSource) (s : State) : (markSource i s).rpm = s.rpm := rfl
@[simp] theorem markSource_pending (i : WakeSource) (s : State) : (markSource i s).pending = s.pending := rfl
@[simp] theorem judgeThrottle_uptime (s : State) : (judgeThrottle s).uptime = s.uptime := rfl
@[simp] theorem judgeThrottle_straps (s : State) : (judgeThrottle s).straps = s.straps := rfl
@[simp] theorem judgeThrottle_inputs (s : State) : (judgeThrottle s).inputs = s.inputs := rfl
@[simp] theorem judgeThrottle_srs (s : State) : (judgeThrottle s).srs = s.srs := rfl
@[simp] theorem judgeThrottle_pbc (s : State) : (judgeThrottle s).pbc = s.pbc := rfl
@[simp] theorem judgeThrottle_pks (s : State) : (judgeThrottle s).pks = s.pks := rfl
@[simp] theorem judgeThrottle_chc (s : State) : (judgeThrottle s).chc = s.chc := rfl
@[simp] theorem judgeThrottle_thu (s : State) : (judgeThrottle s).thu = s.thu := rfl
@[simp] theorem judgeThrottle_fnc (s : State) : (judgeThrottle s).fnc = s.fnc := rfl
@[simp] theorem judgeThrottle_kbs (s : State) : (judgeThrottle s).kbs = s.kbs := rfl
@[simp] theorem judgeThrottle_krp (s : State) : (judgeThrottle s).krp = s.krp := rfl
@[simp] theorem judgeThrottle_lwu (s : State) : (judgeThrottle s).lwu = s.lwu := rfl
@[simp] theorem judgeThrottle_psq (s : State) : (judgeThrottle s).psq = s.psq := rfl
@[simp] theorem judgeThrottle_ind (s : State) : (judgeThrottle s).ind = s.ind := rfl
@[simp] theorem judgeThrottle_lkp (s : State) : (judgeThrottle s).lkp = s.lkp := rfl
@[simp] theorem judgeThrottle_rpm (s : State) : (judgeThrottle s).rpm = s.rpm := rfl
@[simp] theorem judgeThrottle_pending (s : State) : (judgeThrottle s).pending = s.pending := rfl
@[simp] theorem refreshChargeLed_uptime (s : State) : (refreshChargeLed s).uptime = s.uptime := rfl
@[simp] theorem refreshChargeLed_straps (s : State) : (refreshChargeLed s).straps = s.straps := rfl
@[simp] theorem refreshChargeLed_inputs (s : State) : (refreshChargeLed s).inputs = s.inputs := rfl
@[simp] theorem refreshChargeLed_srs (s : State) : (refreshChargeLed s).srs = s.srs := rfl
@[simp] theorem refreshChargeLed_pbc (s : State) : (refreshChargeLed s).pbc = s.pbc := rfl
@[simp] theorem refreshChargeLed_pks (s : State) : (refreshChargeLed s).pks = s.pks := rfl
@[simp] theorem refreshChargeLed_chc (s : State) : (refreshChargeLed s).chc = s.chc := rfl
@[simp] theorem refreshChargeLed_thu (s : State) : (refreshChargeLed s).thu = s.thu := rfl
@[simp] theorem refreshChargeLed_fnc (s : State) : (refreshChargeLed s).fnc = s.fnc := rfl
@[simp] theorem refreshChargeLed_kbs (s : State) : (refreshChargeLed s).kbs = s.kbs := rfl
@[simp] theorem refreshChargeLed_krp (s : State) : (refreshChargeLed s).krp = s.krp := rfl
@[simp] theorem refreshChargeLed_lwu (s : State) : (refreshChargeLed s).lwu = s.lwu := rfl
@[simp] theorem refreshChargeLed_psq (s : State) : (refreshChargeLed s).psq = s.psq := rfl
@[simp] theorem refreshChargeLed_flt (s : State) : (refreshChargeLed s).flt = s.flt := rfl
@[simp] theorem refreshChargeLed_lkp (s : State) : (refreshChargeLed s).lkp = s.lkp := rfl
@[simp] theorem refreshChargeLed_rpm (s : State) : (refreshChargeLed s).rpm = s.rpm := rfl
@[simp] theorem refreshChargeLed_pending (s : State) : (refreshChargeLed s).pending = s.pending := rfl
@[simp] theorem refreshPowerLed_uptime (s : State) : (refreshPowerLed s).uptime = s.uptime := rfl
@[simp] theorem refreshPowerLed_straps (s : State) : (refreshPowerLed s).straps = s.straps := rfl
@[simp] theorem refreshPowerLed_inputs (s : State) : (refreshPowerLed s).inputs = s.inputs := rfl
@[simp] theorem refreshPowerLed_srs (s : State) : (refreshPowerLed s).srs = s.srs := rfl
@[simp] theorem refreshPowerLed_pbc (s : State) : (refreshPowerLed s).pbc = s.pbc := rfl
@[simp] theorem refreshPowerLed_pks (s : State) : (refreshPowerLed s).pks = s.pks := rfl
@[simp] theorem refreshPowerLed_chc (s : State) : (refreshPowerLed s).chc = s.chc := rfl
@[simp] theorem refreshPowerLed_thu (s : State) : (refreshPowerLed s).thu = s.thu := rfl
@[simp] theorem refreshPowerLed_fnc (s : State) : (refreshPowerLed s).fnc = s.fnc := rfl
@[simp] theorem refreshPowerLed_kbs (s : State) : (refreshPowerLed s).kbs = s.kbs := rfl
@[simp] theorem refreshPowerLed_krp (s : State) : (refreshPowerLed s).krp = s.krp := rfl
@[simp] theorem refreshPowerLed_lwu (s : State) : (refreshPowerLed s).lwu = s.lwu := rfl
@[simp] theorem refreshPowerLed_psq (s : State) : (refreshPowerLed s).psq = s.psq := rfl
@[simp] theorem refreshPowerLed_flt (s : State) : (refreshPowerLed s).flt = s.flt := rfl
@[simp] theorem refreshPowerLed_lkp (s : State) : (refreshPowerLed s).lkp = s.lkp := rfl
@[simp] theorem refreshPowerLed_rpm (s : State) : (refreshPowerLed s).rpm = s.rpm := rfl
@[simp] theorem refreshPowerLed_pending (s : State) : (refreshPowerLed s).pending = s.pending := rfl
@[simp] theorem refuseStart_uptime (s : State) : (refuseStart s).uptime = s.uptime := rfl
@[simp] theorem refuseStart_straps (s : State) : (refuseStart s).straps = s.straps := rfl
@[simp] theorem refuseStart_inputs (s : State) : (refuseStart s).inputs = s.inputs := rfl
@[simp] theorem refuseStart_srs (s : State) : (refuseStart s).srs = s.srs := rfl
@[simp] theorem refuseStart_pbc (s : State) : (refuseStart s).pbc = s.pbc := rfl
@[simp] theorem refuseStart_pks (s : State) : (refuseStart s).pks = s.pks := rfl
@[simp] theorem refuseStart_chc (s : State) : (refuseStart s).chc = s.chc := rfl
@[simp] theorem refuseStart_thu (s : State) : (refuseStart s).thu = s.thu := rfl
@[simp] theorem refuseStart_fnc (s : State) : (refuseStart s).fnc = s.fnc := rfl
@[simp] theorem refuseStart_kbs (s : State) : (refuseStart s).kbs = s.kbs := rfl
@[simp] theorem refuseStart_krp (s : State) : (refuseStart s).krp = s.krp := rfl
@[simp] theorem refuseStart_lwu (s : State) : (refuseStart s).lwu = s.lwu := rfl
@[simp] theorem refuseStart_psq (s : State) : (refuseStart s).psq = s.psq := rfl
@[simp] theorem refuseStart_flt (s : State) : (refuseStart s).flt = s.flt := rfl
@[simp] theorem refuseStart_lkp (s : State) : (refuseStart s).lkp = s.lkp := rfl
@[simp] theorem refuseStart_rpm (s : State) : (refuseStart s).rpm = s.rpm := rfl
@[simp] theorem refuseStart_pending (s : State) : (refuseStart s).pending = s.pending := rfl
@[simp] theorem emptyKeyQueue_uptime (s : State) : (emptyKeyQueue s).uptime = s.uptime := rfl
@[simp] theorem emptyKeyQueue_straps (s : State) : (emptyKeyQueue s).straps = s.straps := rfl
@[simp] theorem emptyKeyQueue_inputs (s : State) : (emptyKeyQueue s).inputs = s.inputs := rfl
@[simp] theorem emptyKeyQueue_srs (s : State) : (emptyKeyQueue s).srs = s.srs := rfl
@[simp] theorem emptyKeyQueue_pbc (s : State) : (emptyKeyQueue s).pbc = s.pbc := rfl
@[simp] theorem emptyKeyQueue_pks (s : State) : (emptyKeyQueue s).pks = s.pks := rfl
@[simp] theorem emptyKeyQueue_chc (s : State) : (emptyKeyQueue s).chc = s.chc := rfl
@[simp] theorem emptyKeyQueue_thu (s : State) : (emptyKeyQueue s).thu = s.thu := rfl
@[simp] theorem emptyKeyQueue_fnc (s : State) : (emptyKeyQueue s).fnc = s.fnc := rfl
@[simp] theorem emptyKeyQueue_kbs (s : State) : (emptyKeyQueue s).kbs = s.kbs := rfl
@[simp] theorem emptyKeyQueue_krp (s : State) : (emptyKeyQueue s).krp = s.krp := rfl
@[simp] theorem emptyKeyQueue_lwu (s : State) : (emptyKeyQueue s).lwu = s.lwu := rfl
@[simp] theorem emptyKeyQueue_psq (s : State) : (emptyKeyQueue s).psq = s.psq := rfl
@[simp] theorem emptyKeyQueue_flt (s : State) : (emptyKeyQueue s).flt = s.flt := rfl
@[simp] theorem emptyKeyQueue_ind (s : State) : (emptyKeyQueue s).ind = s.ind := rfl
@[simp] theorem emptyKeyQueue_lkp (s : State) : (emptyKeyQueue s).lkp = s.lkp := rfl
@[simp] theorem emptyKeyQueue_pending (s : State) : (emptyKeyQueue s).pending = s.pending := rfl
@[simp] theorem linkToSetup_uptime (s : State) : (linkToSetup s).uptime = s.uptime := rfl
@[simp] theorem linkToSetup_straps (s : State) : (linkToSetup s).straps = s.straps := rfl
@[simp] theorem linkToSetup_inputs (s : State) : (linkToSetup s).inputs = s.inputs := rfl
@[simp] theorem linkToSetup_srs (s : State) : (linkToSetup s).srs = s.srs := rfl
@[simp] theorem linkToSetup_pbc (s : State) : (linkToSetup s).pbc = s.pbc := rfl
@[simp] theorem linkToSetup_pks (s : State) : (linkToSetup s).pks = s.pks := rfl
@[simp] theorem linkToSetup_chc (s : State) : (linkToSetup s).chc = s.chc := rfl
@[simp] theorem linkToSetup_thu (s : State) : (linkToSetup s).thu = s.thu := rfl
@[simp] theorem linkToSetup_fnc (s : State) : (linkToSetup s).fnc = s.fnc := rfl
@[simp] theorem linkToSetup_kbs (s : State) : (linkToSetup s).kbs = s.kbs := rfl
@[simp] theorem linkToSetup_krp (s : State) : (linkToSetup s).krp = s.krp := rfl
@[simp] theorem linkToSetup_lwu (s : State) : (linkToSetup s).lwu = s.lwu := rfl
@[simp] theorem linkToSetup_psq (s : State) : (linkToSetup s).psq = s.psq := rfl
@[simp] theorem linkToSetup_flt (s : State) : (linkToSetup s).flt = s.flt := rfl
@[simp] theorem linkToSetup_ind (s : State) : (linkToSetup s).ind = s.ind := rfl
@[simp] theorem linkToSetup_rpm (s : State) : (linkToSetup s).rpm = s.rpm := rfl
@[simp] theorem linkToSetup_pending (s : State) : (linkToSetup s).pending = s.pending := rfl
@[simp] theorem huntAgain_uptime (s : State) : (huntAgain s).uptime = s.uptime := rfl
@[simp] theorem huntAgain_straps (s : State) : (huntAgain s).straps = s.straps := rfl
@[simp] theorem huntAgain_inputs (s : State) : (huntAgain s).inputs = s.inputs := rfl
@[simp] theorem huntAgain_srs (s : State) : (huntAgain s).srs = s.srs := rfl
@[simp] theorem huntAgain_pbc (s : State) : (huntAgain s).pbc = s.pbc := rfl
@[simp] theorem huntAgain_pks (s : State) : (huntAgain s).pks = s.pks := rfl
@[simp] theorem huntAgain_chc (s : State) : (huntAgain s).chc = s.chc := rfl
@[simp] theorem huntAgain_thu (s : State) : (huntAgain s).thu = s.thu := rfl
@[simp] theorem huntAgain_fnc (s : State) : (huntAgain s).fnc = s.fnc := rfl
@[simp] theorem huntAgain_kbs (s : State) : (huntAgain s).kbs = s.kbs := rfl
@[simp] theorem huntAgain_krp (s : State) : (huntAgain s).krp = s.krp := rfl
@[simp] theorem huntAgain_lwu (s : State) : (huntAgain s).lwu = s.lwu := rfl
@[simp] theorem huntAgain_psq (s : State) : (huntAgain s).psq = s.psq := rfl
@[simp] theorem huntAgain_flt (s : State) : (huntAgain s).flt = s.flt := rfl
@[simp] theorem huntAgain_ind (s : State) : (huntAgain s).ind = s.ind := rfl
@[simp] theorem huntAgain_rpm (s : State) : (huntAgain s).rpm = s.rpm := rfl
@[simp] theorem huntAgain_pending (s : State) : (huntAgain s).pending = s.pending := rfl
@[simp] theorem linkReset_uptime (s : State) : (linkReset s).uptime = s.uptime := rfl
@[simp] theorem linkReset_straps (s : State) : (linkReset s).straps = s.straps := rfl
@[simp] theorem linkReset_inputs (s : State) : (linkReset s).inputs = s.inputs := rfl
@[simp] theorem linkReset_srs (s : State) : (linkReset s).srs = s.srs := rfl
@[simp] theorem linkReset_pbc (s : State) : (linkReset s).pbc = s.pbc := rfl
@[simp] theorem linkReset_pks (s : State) : (linkReset s).pks = s.pks := rfl
@[simp] theorem linkReset_chc (s : State) : (linkReset s).chc = s.chc := rfl
@[simp] theorem linkReset_thu (s : State) : (linkReset s).thu = s.thu := rfl
@[simp] theorem linkReset_fnc (s : State) : (linkReset s).fnc = s.fnc := rfl
@[simp] theorem linkReset_kbs (s : State) : (linkReset s).kbs = s.kbs := rfl
@[simp] theorem linkReset_krp (s : State) : (linkReset s).krp = s.krp := rfl
@[simp] theorem linkReset_lwu (s : State) : (linkReset s).lwu = s.lwu := rfl
@[simp] theorem linkReset_psq (s : State) : (linkReset s).psq = s.psq := rfl
@[simp] theorem linkReset_flt (s : State) : (linkReset s).flt = s.flt := rfl
@[simp] theorem linkReset_ind (s : State) : (linkReset s).ind = s.ind := rfl
@[simp] theorem linkReset_rpm (s : State) : (linkReset s).rpm = s.rpm := rfl
@[simp] theorem linkReset_pending (s : State) : (linkReset s).pending = s.pending := rfl
@[simp] theorem recompute_uptime (s : State) : (recompute s).uptime = s.uptime := rfl
@[simp] theorem recompute_straps (s : State) : (recompute s).straps = s.straps := rfl
@[simp] theorem recompute_inputs (s : State) : (recompute s).inputs = s.inputs := rfl
@[simp] theorem recompute_srs (s : State) : (recompute s).srs = s.srs := rfl
@[simp] theorem recompute_pbc (s : State) : (recompute s).pbc = s.pbc := rfl
@[simp] theorem recompute_pks (s : State) : (recompute s).pks = s.pks := rfl
@[simp] theorem recompute_thu (s : State) : (recompute s).thu = s.thu := rfl
@[simp] theorem recompute_fnc (s : State) : (recompute s).fnc = s.fnc := rfl
@[simp] theorem recompute_kbs (s : State) : (recompute s).kbs = s.kbs := rfl
@[simp] theorem recompute_krp (s : State) : (recompute s).krp = s.krp := rfl
@[simp] theorem recompute_lwu (s : State) : (recompute s).lwu = s.lwu := rfl
@[simp] theorem recompute_psq (s : State) : (recompute s).psq = s.psq := rfl
@[simp] theorem recompute_flt (s : State) : (recompute s).flt = s.flt := rfl
@[simp] theorem recompute_ind (s : State) : (recompute s).ind = s.ind := rfl
@[simp] theorem recompute_lkp (s : State) : (recompute s).lkp = s.lkp := rfl
@[simp] theorem recompute_rpm (s : State) : (recompute s).rpm = s.rpm := rfl
@[simp] theorem recompute_pending (s : State) : (recompute s).pending = s.pending := rfl
@[simp] theorem hastenPolls_uptime (s : State) : (hastenPolls s).uptime = s.uptime := rfl
@[simp] theorem hastenPolls_straps (s : State) : (hastenPolls s).straps = s.straps := rfl
@[simp] theorem hastenPolls_inputs (s : State) : (hastenPolls s).inputs = s.inputs := rfl
@[simp] theorem hastenPolls_srs (s : State) : (hastenPolls s).srs = s.srs := rfl
@[simp] theorem hastenPolls_pbc (s : State) : (hastenPolls s).pbc = s.pbc := rfl
@[simp] theorem hastenPolls_chc (s : State) : (hastenPolls s).chc = s.chc := rfl
@[simp] theorem hastenPolls_thu (s : State) : (hastenPolls s).thu = s.thu := rfl
@[simp] theorem hastenPolls_fnc (s : State) : (hastenPolls s).fnc = s.fnc := rfl
@[simp] theorem hastenPolls_kbs (s : State) : (hastenPolls s).kbs = s.kbs := rfl
@[simp] theorem hastenPolls_krp (s : State) : (hastenPolls s).krp = s.krp := rfl
@[simp] theorem hastenPolls_lwu (s : State) : (hastenPolls s).lwu = s.lwu := rfl
@[simp] theorem hastenPolls_psq (s : State) : (hastenPolls s).psq = s.psq := rfl
@[simp] theorem hastenPolls_flt (s : State) : (hastenPolls s).flt = s.flt := rfl
@[simp] theorem hastenPolls_ind (s : State) : (hastenPolls s).ind = s.ind := rfl
@[simp] theorem hastenPolls_lkp (s : State) : (hastenPolls s).lkp = s.lkp := rfl
@[simp] theorem hastenPolls_rpm (s : State) : (hastenPolls s).rpm = s.rpm := rfl
@[simp] theorem hastenPolls_pending (s : State) : (hastenPolls s).pending = s.pending := rfl
@[simp] theorem typeIdle_uptime (s : State) : (typeIdle s).uptime = s.uptime := rfl
@[simp] theorem typeIdle_straps (s : State) : (typeIdle s).straps = s.straps := rfl
@[simp] theorem typeIdle_inputs (s : State) : (typeIdle s).inputs = s.inputs := rfl
@[simp] theorem typeIdle_srs (s : State) : (typeIdle s).srs = s.srs := rfl
@[simp] theorem typeIdle_pbc (s : State) : (typeIdle s).pbc = s.pbc := rfl
@[simp] theorem typeIdle_pks (s : State) : (typeIdle s).pks = s.pks := rfl
@[simp] theorem typeIdle_chc (s : State) : (typeIdle s).chc = s.chc := rfl
@[simp] theorem typeIdle_thu (s : State) : (typeIdle s).thu = s.thu := rfl
@[simp] theorem typeIdle_fnc (s : State) : (typeIdle s).fnc = s.fnc := rfl
@[simp] theorem typeIdle_kbs (s : State) : (typeIdle s).kbs = s.kbs := rfl
@[simp] theorem typeIdle_lwu (s : State) : (typeIdle s).lwu = s.lwu := rfl
@[simp] theorem typeIdle_psq (s : State) : (typeIdle s).psq = s.psq := rfl
@[simp] theorem typeIdle_flt (s : State) : (typeIdle s).flt = s.flt := rfl
@[simp] theorem typeIdle_ind (s : State) : (typeIdle s).ind = s.ind := rfl
@[simp] theorem typeIdle_lkp (s : State) : (typeIdle s).lkp = s.lkp := rfl
@[simp] theorem typeIdle_rpm (s : State) : (typeIdle s).rpm = s.rpm := rfl
@[simp] theorem typeIdle_pending (s : State) : (typeIdle s).pending = s.pending := rfl
@[simp] theorem takeHeldKeys_uptime (s : State) : (takeHeldKeys s).uptime = s.uptime := rfl
@[simp] theorem takeHeldKeys_straps (s : State) : (takeHeldKeys s).straps = s.straps := rfl
@[simp] theorem takeHeldKeys_inputs (s : State) : (takeHeldKeys s).inputs = s.inputs := rfl
@[simp] theorem takeHeldKeys_srs (s : State) : (takeHeldKeys s).srs = s.srs := rfl
@[simp] theorem takeHeldKeys_pbc (s : State) : (takeHeldKeys s).pbc = s.pbc := rfl
@[simp] theorem takeHeldKeys_pks (s : State) : (takeHeldKeys s).pks = s.pks := rfl
@[simp] theorem takeHeldKeys_chc (s : State) : (takeHeldKeys s).chc = s.chc := rfl
@[simp] theorem takeHeldKeys_thu (s : State) : (takeHeldKeys s).thu = s.thu := rfl
@[simp] theorem takeHeldKeys_fnc (s : State) : (takeHeldKeys s).fnc = s.fnc := rfl
@[simp] theorem takeHeldKeys_krp (s : State) : (takeHeldKeys s).krp = s.krp := rfl
@[simp] theorem takeHeldKeys_lwu (s : State) : (takeHeldKeys s).lwu = s.lwu := rfl
@[simp] theorem takeHeldKeys_psq (s : State) : (takeHeldKeys s).psq = s.psq := rfl
@[simp] theorem takeHeldKeys_flt (s : State) : (takeHeldKeys s).flt = s.flt := rfl
@[simp] theorem takeHeldKeys_ind (s : State) : (takeHeldKeys s).ind = s.ind := rfl
@[simp] theorem takeHeldKeys_lkp (s : State) : (takeHeldKeys s).lkp = s.lkp := rfl
@[simp] theorem takeHeldKeys_rpm (s : State) : (takeHeldKeys s).rpm = s.rpm := rfl
@[simp] theorem takeHeldKeys_pending (s : State) : (takeHeldKeys s).pending = s.pending := rfl
@[simp] theorem takeHeldKeys_kbs_last (s : State) : (takeHeldKeys s).kbs.last = s.kbs.last := rfl
@[simp] theorem takeHeldKeys_kbs_map (s : State) : (takeHeldKeys s).kbs.map = s.kbs.map := rfl
@[simp] theorem takeHeldKeys_kbs_settings (s : State) : (takeHeldKeys s).kbs.settings = s.kbs.settings := rfl
@[simp] theorem takeHeldKeys_kbs_mode (s : State) : (takeHeldKeys s).kbs.mode = s.kbs.mode := rfl
@[simp] theorem takeHeldKeys_kbs_passRunning (s : State) : (takeHeldKeys s).kbs.passRunning = s.kbs.passRunning := rfl
@[simp] theorem takeHeldKeys_kbs_sinceStart (s : State) : (takeHeldKeys s).kbs.sinceStart = s.kbs.sinceStart := rfl
@[simp] theorem takeHeldKeys_kbs_suppression (s : State) : (takeHeldKeys s).kbs.suppression = s.kbs.suppression := rfl
@[simp] theorem takeHeldKeys_kbs_freshStart (s : State) : (takeHeldKeys s).kbs.freshStart = false := rfl
@[simp] theorem setBacklightOutput_uptime (s : State) : (setBacklightOutput s).uptime = s.uptime := rfl
@[simp] theorem setBacklightOutput_straps (s : State) : (setBacklightOutput s).straps = s.straps := rfl
@[simp] theorem setBacklightOutput_inputs (s : State) : (setBacklightOutput s).inputs = s.inputs := rfl
@[simp] theorem setBacklightOutput_srs (s : State) : (setBacklightOutput s).srs = s.srs := rfl
@[simp] theorem setBacklightOutput_pbc (s : State) : (setBacklightOutput s).pbc = s.pbc := rfl
@[simp] theorem setBacklightOutput_pks (s : State) : (setBacklightOutput s).pks = s.pks := rfl
@[simp] theorem setBacklightOutput_chc (s : State) : (setBacklightOutput s).chc = s.chc := rfl
@[simp] theorem setBacklightOutput_thu (s : State) : (setBacklightOutput s).thu = s.thu := rfl
@[simp] theorem setBacklightOutput_fnc (s : State) : (setBacklightOutput s).fnc = s.fnc := rfl
@[simp] theorem setBacklightOutput_kbs (s : State) : (setBacklightOutput s).kbs = s.kbs := rfl
@[simp] theorem setBacklightOutput_lwu (s : State) : (setBacklightOutput s).lwu = s.lwu := rfl
@[simp] theorem setBacklightOutput_psq (s : State) : (setBacklightOutput s).psq = s.psq := rfl
@[simp] theorem setBacklightOutput_flt (s : State) : (setBacklightOutput s).flt = s.flt := rfl
@[simp] theorem setBacklightOutput_ind (s : State) : (setBacklightOutput s).ind = s.ind := rfl
@[simp] theorem setBacklightOutput_lkp (s : State) : (setBacklightOutput s).lkp = s.lkp := rfl
@[simp] theorem setBacklightOutput_rpm (s : State) : (setBacklightOutput s).rpm = s.rpm := rfl
@[simp] theorem setBacklightOutput_pending (s : State) : (setBacklightOutput s).pending = s.pending := rfl
@[simp] theorem setBacklight_uptime (level : Nat) (s : State) : (setBacklight level s).uptime = s.uptime := rfl
@[simp] theorem setBacklight_straps (level : Nat) (s : State) : (setBacklight level s).straps = s.straps := rfl
@[simp] theorem setBacklight_inputs (level : Nat) (s : State) : (setBacklight level s).inputs = s.inputs := rfl
@[simp] theorem setBacklight_srs (level : Nat) (s : State) : (setBacklight level s).srs = s.srs := rfl
@[simp] theorem setBacklight_pbc (level : Nat) (s : State) : (setBacklight level s).pbc = s.pbc := rfl
@[simp] theorem setBacklight_pks (level : Nat) (s : State) : (setBacklight level s).pks = s.pks := rfl
@[simp] theorem setBacklight_chc (level : Nat) (s : State) : (setBacklight level s).chc = s.chc := rfl
@[simp] theorem setBacklight_thu (level : Nat) (s : State) : (setBacklight level s).thu = s.thu := rfl
@[simp] theorem setBacklight_fnc (level : Nat) (s : State) : (setBacklight level s).fnc = s.fnc := rfl
@[simp] theorem setBacklight_kbs (level : Nat) (s : State) : (setBacklight level s).kbs = s.kbs := rfl
@[simp] theorem setBacklight_lwu (level : Nat) (s : State) : (setBacklight level s).lwu = s.lwu := rfl
@[simp] theorem setBacklight_psq (level : Nat) (s : State) : (setBacklight level s).psq = s.psq := rfl
@[simp] theorem setBacklight_flt (level : Nat) (s : State) : (setBacklight level s).flt = s.flt := rfl
@[simp] theorem setBacklight_ind (level : Nat) (s : State) : (setBacklight level s).ind = s.ind := rfl
@[simp] theorem setBacklight_lkp (level : Nat) (s : State) : (setBacklight level s).lkp = s.lkp := rfl
@[simp] theorem setBacklight_rpm (level : Nat) (s : State) : (setBacklight level s).rpm = s.rpm := rfl
@[simp] theorem setBacklight_pending (level : Nat) (s : State) : (setBacklight level s).pending = s.pending := rfl
@[simp] theorem beginPass_uptime (s : State) : (beginPass s).uptime = s.uptime := rfl
@[simp] theorem beginPass_straps (s : State) : (beginPass s).straps = s.straps := rfl
@[simp] theorem beginPass_inputs (s : State) : (beginPass s).inputs = s.inputs := rfl
@[simp] theorem beginPass_srs (s : State) : (beginPass s).srs = s.srs := rfl
@[simp] theorem beginPass_pbc (s : State) : (beginPass s).pbc = s.pbc := rfl
@[simp] theorem beginPass_pks (s : State) : (beginPass s).pks = s.pks := rfl
@[simp] theorem beginPass_chc (s : State) : (beginPass s).chc = s.chc := rfl
@[simp] theorem beginPass_thu (s : State) : (beginPass s).thu = s.thu := rfl
@[simp] theorem beginPass_fnc (s : State) : (beginPass s).fnc = s.fnc := rfl
@[simp] theorem beginPass_krp (s : State) : (beginPass s).krp = s.krp := rfl
@[simp] theorem beginPass_lwu (s : State) : (beginPass s).lwu = s.lwu := rfl
@[simp] theorem beginPass_psq (s : State) : (beginPass s).psq = s.psq := rfl
@[simp] theorem beginPass_flt (s : State) : (beginPass s).flt = s.flt := rfl
@[simp] theorem beginPass_ind (s : State) : (beginPass s).ind = s.ind := rfl
@[simp] theorem beginPass_lkp (s : State) : (beginPass s).lkp = s.lkp := rfl
@[simp] theorem beginPass_rpm (s : State) : (beginPass s).rpm = s.rpm := rfl
@[simp] theorem beginPass_pending (s : State) : (beginPass s).pending = s.pending := rfl
@[simp] theorem mpgArrived_uptime (s : State) : (mpgArrived s).uptime = s.uptime := rfl
@[simp] theorem mpgArrived_straps (s : State) : (mpgArrived s).straps = s.straps := rfl
@[simp] theorem mpgArrived_inputs (s : State) : (mpgArrived s).inputs = s.inputs := rfl
@[simp] theorem mpgArrived_srs (s : State) : (mpgArrived s).srs = s.srs := rfl
@[simp] theorem mpgArrived_pbc (s : State) : (mpgArrived s).pbc = s.pbc := rfl
@[simp] theorem mpgArrived_pks (s : State) : (mpgArrived s).pks = s.pks := rfl
@[simp] theorem mpgArrived_chc (s : State) : (mpgArrived s).chc = s.chc := rfl
@[simp] theorem mpgArrived_thu (s : State) : (mpgArrived s).thu = s.thu := rfl
@[simp] theorem mpgArrived_fnc (s : State) : (mpgArrived s).fnc = s.fnc := rfl
@[simp] theorem mpgArrived_kbs (s : State) : (mpgArrived s).kbs = s.kbs := rfl
@[simp] theorem mpgArrived_krp (s : State) : (mpgArrived s).krp = s.krp := rfl
@[simp] theorem mpgArrived_lwu (s : State) : (mpgArrived s).lwu = s.lwu := rfl
@[simp] theorem mpgArrived_flt (s : State) : (mpgArrived s).flt = s.flt := rfl
@[simp] theorem mpgArrived_ind (s : State) : (mpgArrived s).ind = s.ind := rfl
@[simp] theorem mpgArrived_lkp (s : State) : (mpgArrived s).lkp = s.lkp := rfl
@[simp] theorem mpgArrived_rpm (s : State) : (mpgArrived s).rpm = s.rpm := rfl
@[simp] theorem mpgArrived_pending (s : State) : (mpgArrived s).pending = s.pending := rfl
@[simp] theorem dropMain_uptime (s : State) : (dropMain s).uptime = s.uptime := rfl
@[simp] theorem dropMain_straps (s : State) : (dropMain s).straps = s.straps := rfl
@[simp] theorem dropMain_srs (s : State) : (dropMain s).srs = s.srs := rfl
@[simp] theorem dropMain_pbc (s : State) : (dropMain s).pbc = s.pbc := rfl
@[simp] theorem dropMain_pks (s : State) : (dropMain s).pks = s.pks := rfl
@[simp] theorem dropMain_chc (s : State) : (dropMain s).chc = s.chc := rfl
@[simp] theorem dropMain_thu (s : State) : (dropMain s).thu = s.thu := rfl
@[simp] theorem dropMain_fnc (s : State) : (dropMain s).fnc = s.fnc := rfl
@[simp] theorem dropMain_kbs (s : State) : (dropMain s).kbs = s.kbs := rfl
@[simp] theorem dropMain_krp (s : State) : (dropMain s).krp = s.krp := rfl
@[simp] theorem dropMain_lwu (s : State) : (dropMain s).lwu = s.lwu := rfl
@[simp] theorem dropMain_flt (s : State) : (dropMain s).flt = s.flt := rfl
@[simp] theorem dropMain_ind (s : State) : (dropMain s).ind = s.ind := rfl
@[simp] theorem dropMain_lkp (s : State) : (dropMain s).lkp = s.lkp := rfl
@[simp] theorem dropMain_rpm (s : State) : (dropMain s).rpm = s.rpm := rfl
@[simp] theorem dropMain_pending (s : State) : (dropMain s).pending = s.pending := rfl
@[simp] theorem dropAll_uptime (s : State) : (dropAll s).uptime = s.uptime := rfl
@[simp] theorem dropAll_straps (s : State) : (dropAll s).straps = s.straps := rfl
@[simp] theorem dropAll_srs (s : State) : (dropAll s).srs = s.srs := rfl
@[simp] theorem dropAll_pbc (s : State) : (dropAll s).pbc = s.pbc := rfl
@[simp] theorem dropAll_pks (s : State) : (dropAll s).pks = s.pks := rfl
@[simp] theorem dropAll_chc (s : State) : (dropAll s).chc = s.chc := rfl
@[simp] theorem dropAll_thu (s : State) : (dropAll s).thu = s.thu := rfl
@[simp] theorem dropAll_fnc (s : State) : (dropAll s).fnc = s.fnc := rfl
@[simp] theorem dropAll_kbs (s : State) : (dropAll s).kbs = s.kbs := rfl
@[simp] theorem dropAll_krp (s : State) : (dropAll s).krp = s.krp := rfl
@[simp] theorem dropAll_lwu (s : State) : (dropAll s).lwu = s.lwu := rfl
@[simp] theorem dropAll_flt (s : State) : (dropAll s).flt = s.flt := rfl
@[simp] theorem dropAll_ind (s : State) : (dropAll s).ind = s.ind := rfl
@[simp] theorem dropAll_lkp (s : State) : (dropAll s).lkp = s.lkp := rfl
@[simp] theorem dropAll_rpm (s : State) : (dropAll s).rpm = s.rpm := rfl
@[simp] theorem dropAll_pending (s : State) : (dropAll s).pending = s.pending := rfl
@[simp] theorem handToThermal_uptime (p : PackId) (s : State) : (handToThermal p s).uptime = s.uptime := rfl
@[simp] theorem handToThermal_straps (p : PackId) (s : State) : (handToThermal p s).straps = s.straps := rfl
@[simp] theorem handToThermal_inputs (p : PackId) (s : State) : (handToThermal p s).inputs = s.inputs := rfl
@[simp] theorem handToThermal_srs (p : PackId) (s : State) : (handToThermal p s).srs = s.srs := rfl
@[simp] theorem handToThermal_pbc (p : PackId) (s : State) : (handToThermal p s).pbc = s.pbc := rfl
@[simp] theorem handToThermal_pks (p : PackId) (s : State) : (handToThermal p s).pks = s.pks := rfl
@[simp] theorem handToThermal_chc (p : PackId) (s : State) : (handToThermal p s).chc = s.chc := rfl
@[simp] theorem handToThermal_fnc (p : PackId) (s : State) : (handToThermal p s).fnc = s.fnc := rfl
@[simp] theorem handToThermal_kbs (p : PackId) (s : State) : (handToThermal p s).kbs = s.kbs := rfl
@[simp] theorem handToThermal_krp (p : PackId) (s : State) : (handToThermal p s).krp = s.krp := rfl
@[simp] theorem handToThermal_lwu (p : PackId) (s : State) : (handToThermal p s).lwu = s.lwu := rfl
@[simp] theorem handToThermal_psq (p : PackId) (s : State) : (handToThermal p s).psq = s.psq := rfl
@[simp] theorem handToThermal_flt (p : PackId) (s : State) : (handToThermal p s).flt = s.flt := rfl
@[simp] theorem handToThermal_ind (p : PackId) (s : State) : (handToThermal p s).ind = s.ind := rfl
@[simp] theorem handToThermal_lkp (p : PackId) (s : State) : (handToThermal p s).lkp = s.lkp := rfl
@[simp] theorem handToThermal_rpm (p : PackId) (s : State) : (handToThermal p s).rpm = s.rpm := rfl
@[simp] theorem handToThermal_pending (p : PackId) (s : State) : (handToThermal p s).pending = s.pending := rfl
@[simp] theorem judged_uptime (p : PackId) (s : State) : (judged p s).uptime = s.uptime := rfl
@[simp] theorem judged_straps (p : PackId) (s : State) : (judged p s).straps = s.straps := rfl
@[simp] theorem judged_inputs (p : PackId) (s : State) : (judged p s).inputs = s.inputs := rfl
@[simp] theorem judged_srs (p : PackId) (s : State) : (judged p s).srs = s.srs := rfl
@[simp] theorem judged_pbc (p : PackId) (s : State) : (judged p s).pbc = s.pbc := rfl
@[simp] theorem judged_chc (p : PackId) (s : State) : (judged p s).chc = s.chc := rfl
@[simp] theorem judged_thu (p : PackId) (s : State) : (judged p s).thu = s.thu := rfl
@[simp] theorem judged_fnc (p : PackId) (s : State) : (judged p s).fnc = s.fnc := rfl
@[simp] theorem judged_kbs (p : PackId) (s : State) : (judged p s).kbs = s.kbs := rfl
@[simp] theorem judged_krp (p : PackId) (s : State) : (judged p s).krp = s.krp := rfl
@[simp] theorem judged_lwu (p : PackId) (s : State) : (judged p s).lwu = s.lwu := rfl
@[simp] theorem judged_psq (p : PackId) (s : State) : (judged p s).psq = s.psq := rfl
@[simp] theorem judged_flt (p : PackId) (s : State) : (judged p s).flt = s.flt := rfl
@[simp] theorem judged_ind (p : PackId) (s : State) : (judged p s).ind = s.ind := rfl
@[simp] theorem judged_lkp (p : PackId) (s : State) : (judged p s).lkp = s.lkp := rfl
@[simp] theorem judged_rpm (p : PackId) (s : State) : (judged p s).rpm = s.rpm := rfl
@[simp] theorem judged_pending (p : PackId) (s : State) : (judged p s).pending = s.pending := rfl
@[simp] theorem setSwitches_uptime (s : State) : (setSwitches s).uptime = s.uptime := rfl
@[simp] theorem setSwitches_straps (s : State) : (setSwitches s).straps = s.straps := rfl
@[simp] theorem setSwitches_inputs (s : State) : (setSwitches s).inputs = s.inputs := rfl
@[simp] theorem setSwitches_srs (s : State) : (setSwitches s).srs = s.srs := rfl
@[simp] theorem setSwitches_pbc (s : State) : (setSwitches s).pbc = s.pbc := rfl
@[simp] theorem setSwitches_chc (s : State) : (setSwitches s).chc = s.chc := rfl
@[simp] theorem setSwitches_thu (s : State) : (setSwitches s).thu = s.thu := rfl
@[simp] theorem setSwitches_fnc (s : State) : (setSwitches s).fnc = s.fnc := rfl
@[simp] theorem setSwitches_kbs (s : State) : (setSwitches s).kbs = s.kbs := rfl
@[simp] theorem setSwitches_krp (s : State) : (setSwitches s).krp = s.krp := rfl
@[simp] theorem setSwitches_lwu (s : State) : (setSwitches s).lwu = s.lwu := rfl
@[simp] theorem setSwitches_psq (s : State) : (setSwitches s).psq = s.psq := rfl
@[simp] theorem setSwitches_ind (s : State) : (setSwitches s).ind = s.ind := rfl
@[simp] theorem setSwitches_lkp (s : State) : (setSwitches s).lkp = s.lkp := rfl
@[simp] theorem setSwitches_rpm (s : State) : (setSwitches s).rpm = s.rpm := rfl
@[simp] theorem setSwitches_pending (s : State) : (setSwitches s).pending = s.pending := rfl
@[simp] theorem requestRead_uptime (p : PortId) (s : State) : (requestRead p s).uptime = s.uptime := rfl
@[simp] theorem requestRead_straps (p : PortId) (s : State) : (requestRead p s).straps = s.straps := rfl
@[simp] theorem requestRead_inputs (p : PortId) (s : State) : (requestRead p s).inputs = s.inputs := rfl
@[simp] theorem requestRead_srs (p : PortId) (s : State) : (requestRead p s).srs = s.srs := rfl
@[simp] theorem requestRead_pks (p : PortId) (s : State) : (requestRead p s).pks = s.pks := rfl
@[simp] theorem requestRead_chc (p : PortId) (s : State) : (requestRead p s).chc = s.chc := rfl
@[simp] theorem requestRead_thu (p : PortId) (s : State) : (requestRead p s).thu = s.thu := rfl
@[simp] theorem requestRead_fnc (p : PortId) (s : State) : (requestRead p s).fnc = s.fnc := rfl
@[simp] theorem requestRead_kbs (p : PortId) (s : State) : (requestRead p s).kbs = s.kbs := rfl
@[simp] theorem requestRead_krp (p : PortId) (s : State) : (requestRead p s).krp = s.krp := rfl
@[simp] theorem requestRead_lwu (p : PortId) (s : State) : (requestRead p s).lwu = s.lwu := rfl
@[simp] theorem requestRead_psq (p : PortId) (s : State) : (requestRead p s).psq = s.psq := rfl
@[simp] theorem requestRead_flt (p : PortId) (s : State) : (requestRead p s).flt = s.flt := rfl
@[simp] theorem requestRead_ind (p : PortId) (s : State) : (requestRead p s).ind = s.ind := rfl
@[simp] theorem requestRead_lkp (p : PortId) (s : State) : (requestRead p s).lkp = s.lkp := rfl
@[simp] theorem requestRead_rpm (p : PortId) (s : State) : (requestRead p s).rpm = s.rpm := rfl
@[simp] theorem requestRead_pending (p : PortId) (s : State) : (requestRead p s).pending = s.pending := rfl
@[simp] theorem endTurn_uptime (s : State) : (endTurn s).uptime = s.uptime := rfl
@[simp] theorem endTurn_straps (s : State) : (endTurn s).straps = s.straps := rfl
@[simp] theorem endTurn_inputs (s : State) : (endTurn s).inputs = s.inputs := rfl
@[simp] theorem endTurn_srs (s : State) : (endTurn s).srs = s.srs := rfl
@[simp] theorem endTurn_pks (s : State) : (endTurn s).pks = s.pks := rfl
@[simp] theorem endTurn_chc (s : State) : (endTurn s).chc = s.chc := rfl
@[simp] theorem endTurn_thu (s : State) : (endTurn s).thu = s.thu := rfl
@[simp] theorem endTurn_fnc (s : State) : (endTurn s).fnc = s.fnc := rfl
@[simp] theorem endTurn_kbs (s : State) : (endTurn s).kbs = s.kbs := rfl
@[simp] theorem endTurn_krp (s : State) : (endTurn s).krp = s.krp := rfl
@[simp] theorem endTurn_lwu (s : State) : (endTurn s).lwu = s.lwu := rfl
@[simp] theorem endTurn_psq (s : State) : (endTurn s).psq = s.psq := rfl
@[simp] theorem endTurn_flt (s : State) : (endTurn s).flt = s.flt := rfl
@[simp] theorem endTurn_ind (s : State) : (endTurn s).ind = s.ind := rfl
@[simp] theorem endTurn_lkp (s : State) : (endTurn s).lkp = s.lkp := rfl
@[simp] theorem endTurn_rpm (s : State) : (endTurn s).rpm = s.rpm := rfl
@[simp] theorem endTurn_pending (s : State) : (endTurn s).pending = s.pending := rfl
@[simp] theorem lineFound_uptime (s : State) : (lineFound s).uptime = s.uptime := rfl
@[simp] theorem lineFound_straps (s : State) : (lineFound s).straps = s.straps := rfl
@[simp] theorem lineFound_inputs (s : State) : (lineFound s).inputs = s.inputs := rfl
@[simp] theorem lineFound_srs (s : State) : (lineFound s).srs = s.srs := rfl
@[simp] theorem lineFound_pks (s : State) : (lineFound s).pks = s.pks := rfl
@[simp] theorem lineFound_chc (s : State) : (lineFound s).chc = s.chc := rfl
@[simp] theorem lineFound_thu (s : State) : (lineFound s).thu = s.thu := rfl
@[simp] theorem lineFound_fnc (s : State) : (lineFound s).fnc = s.fnc := rfl
@[simp] theorem lineFound_kbs (s : State) : (lineFound s).kbs = s.kbs := rfl
@[simp] theorem lineFound_krp (s : State) : (lineFound s).krp = s.krp := rfl
@[simp] theorem lineFound_lwu (s : State) : (lineFound s).lwu = s.lwu := rfl
@[simp] theorem lineFound_psq (s : State) : (lineFound s).psq = s.psq := rfl
@[simp] theorem lineFound_ind (s : State) : (lineFound s).ind = s.ind := rfl
@[simp] theorem lineFound_lkp (s : State) : (lineFound s).lkp = s.lkp := rfl
@[simp] theorem lineFound_rpm (s : State) : (lineFound s).rpm = s.rpm := rfl
@[simp] theorem lineFound_pending (s : State) : (lineFound s).pending = s.pending := rfl
@[simp] theorem lineLevel_uptime (high : Bool) (s : State) : (lineLevel high s).uptime = s.uptime := rfl
@[simp] theorem lineLevel_straps (high : Bool) (s : State) : (lineLevel high s).straps = s.straps := rfl
@[simp] theorem lineLevel_srs (high : Bool) (s : State) : (lineLevel high s).srs = s.srs := rfl
@[simp] theorem lineLevel_pbc (high : Bool) (s : State) : (lineLevel high s).pbc = s.pbc := rfl
@[simp] theorem lineLevel_pks (high : Bool) (s : State) : (lineLevel high s).pks = s.pks := rfl
@[simp] theorem lineLevel_chc (high : Bool) (s : State) : (lineLevel high s).chc = s.chc := rfl
@[simp] theorem lineLevel_thu (high : Bool) (s : State) : (lineLevel high s).thu = s.thu := rfl
@[simp] theorem lineLevel_fnc (high : Bool) (s : State) : (lineLevel high s).fnc = s.fnc := rfl
@[simp] theorem lineLevel_kbs (high : Bool) (s : State) : (lineLevel high s).kbs = s.kbs := rfl
@[simp] theorem lineLevel_krp (high : Bool) (s : State) : (lineLevel high s).krp = s.krp := rfl
@[simp] theorem lineLevel_lwu (high : Bool) (s : State) : (lineLevel high s).lwu = s.lwu := rfl
@[simp] theorem lineLevel_psq (high : Bool) (s : State) : (lineLevel high s).psq = s.psq := rfl
@[simp] theorem lineLevel_flt (high : Bool) (s : State) : (lineLevel high s).flt = s.flt := rfl
@[simp] theorem lineLevel_ind (high : Bool) (s : State) : (lineLevel high s).ind = s.ind := rfl
@[simp] theorem lineLevel_lkp (high : Bool) (s : State) : (lineLevel high s).lkp = s.lkp := rfl
@[simp] theorem lineLevel_rpm (high : Bool) (s : State) : (lineLevel high s).rpm = s.rpm := rfl
@[simp] theorem lineLevel_pending (high : Bool) (s : State) : (lineLevel high s).pending = s.pending := rfl

end Sys2Proof.Machine
end

