-- ==== Sys2Proof/Laws/Families.lean ====
section
/-! SUPPORT. Reading back what has been written: the pairs, the source records, the fault table and the wake-source table. -/

namespace Sys2Proof.Machine

/-! ## Pairs -/

@[simp] theorem PerPack.get_set_same {α : Type} (x : PerPack α) (p : PackId) (v : α) : (x.set p v).get p = v := by
  cases p <;> rfl

@[simp] theorem PerPack.get_set_other {α : Type} (x : PerPack α) (p : PackId) (v : α) :
    (x.set p v).get p.other = x.get p.other := by
  cases p <;> rfl

@[simp] theorem PerPack.set_get {α : Type} (x : PerPack α) (p : PackId) : x.set p (x.get p) = x := by
  cases p <;> rfl

@[simp] theorem PerPort.get_set_same {α : Type} (x : PerPort α) (p : PortId) (v : α) : (x.set p v).get p = v := by
  cases p <;> rfl

@[simp] theorem PerPort.set_get {α : Type} (x : PerPort α) (p : PortId) : x.set p (x.get p) = x := by
  cases p <;> rfl

@[simp] theorem PerFan.get_set_same {α : Type} (x : PerFan α) (i : FanId) (v : α) : (x.set i v).get i = v := by
  cases i <;> rfl

@[simp] theorem PerFan.set_get {α : Type} (x : PerFan α) (i : FanId) : x.set i (x.get i) = x := by
  cases i <;> rfl

theorem PerFan.get_set_ne {α : Type} (x : PerFan α) (v : α) {i j : FanId} (h : j ≠ i) : (x.set i v).get j = x.get j := by
  cases i <;> cases j <;> first | rfl | exact absurd rfl h

theorem PerPack.get_set_ne {α : Type} (x : PerPack α) (v : α) {p q : PackId} (h : q ≠ p) :
    (x.set p v).get q = x.get q := by
  cases p <;> cases q <;> first | rfl | exact absurd rfl h

/-! ## Source records -/

@[simp] theorem Selector.get_set_same (x : Selector) (i : SourceId) (r : SourceRecord) : (x.set i r).get i = r := by
  cases i <;> rfl

theorem Selector.get_set_ne (x : Selector) (r : SourceRecord) {i j : SourceId} (h : j ≠ i) :
    (x.set i r).get j = x.get j := by
  cases i <;> cases j <;> first | rfl | exact absurd rfl h

@[simp] theorem Selector.set_get (x : Selector) (i : SourceId) : x.set i (x.get i) = x := by
  cases i <;> rfl

@[simp] theorem Selector.set_active (x : Selector) (i : SourceId) (r : SourceRecord) :
    (x.set i r).active = x.active := by
  cases i <;> rfl

@[simp] theorem Selector.set_switching (x : Selector) (i : SourceId) (r : SourceRecord) :
    (x.set i r).switching = x.switching := by
  cases i <;> rfl

/-! ## The fault table -/

theorem FaultKind.index_inj {j k : FaultKind} (h : j.index = k.index) : j = k := by
  revert h
  cases j <;> cases k <;> first | exact fun _ => rfl | exact fun h => absurd h (by decide)

@[simp] theorem FaultUnit.get_set_same (f : FaultUnit) (k : FaultKind) (r : FaultRecord) : (f.set k r).get k = r := by
  simp [FaultUnit.get, FaultUnit.set]

theorem FaultUnit.get_set_ne (f : FaultUnit) (r : FaultRecord) {j k : FaultKind} (h : j ≠ k) :
    (f.set k r).get j = f.get j := by
  have : k.index.val ≠ j.index.val := fun e => h (FaultKind.index_inj (Fin.ext e.symm))
  simp [FaultUnit.get, FaultUnit.set, this]

@[simp] theorem FaultUnit.set_level (f : FaultUnit) (k : FaultKind) (r : FaultRecord) : (f.set k r).level = f.level :=
  rfl

@[simp] theorem FaultUnit.set_mode (f : FaultUnit) (k : FaultKind) (r : FaultRecord) : (f.set k r).mode = f.mode := rfl

@[simp] theorem FaultUnit.set_throttle (f : FaultUnit) (k : FaultKind) (r : FaultRecord) :
    (f.set k r).throttle = f.throttle := rfl

@[simp] theorem mem_allFaultKinds (k : FaultKind) : k ∈ allFaultKinds := by
  cases k <;> decide

/-! ## The wake-source table -/

theorem WakeSource.index_inj {i j : WakeSource} (h : i.index = j.index) : i = j := by
  revert h
  cases i <;> cases j <;> first | exact fun _ => rfl | exact fun h => absurd h (by decide)

@[simp] theorem WakeUnit.get_set_same (w : WakeUnit) (i : WakeSource) (e : WakeEntry) : (w.set i e).get i = e := by
  simp [WakeUnit.get, WakeUnit.set]

theorem WakeUnit.get_set_ne (w : WakeUnit) (e : WakeEntry) {i j : WakeSource} (h : j ≠ i) :
    (w.set i e).get j = w.get j := by
  have : i.index.val ≠ j.index.val := fun x => h (WakeSource.index_inj (Fin.ext x.symm))
  simp [WakeUnit.get, WakeUnit.set, this]

@[simp] theorem mem_allWakeSources (i : WakeSource) : i ∈ allWakeSources := by
  cases i <;> decide

end Sys2Proof.Machine
end

