-- ==== Sys2Proof/Laws/Frames.lean ====
section
/-! SUPPORT. What each shared operation can change: one frame lemma for each, which says that every other block of the state
stands as it was, with the consequences that proofs cite. -/

namespace Sys2Proof.Machine

/-! ## Notices and detections -/

/-- The wake cause and stamp are all that a recorded wake changes. -/
theorem recordWake_frame (s : State) :
    recordWake s = { s with lwu := { s.lwu with cause := dueMask s, causeStamp := s.uptime } } := by
  unfold recordWake
  rfl

/-- A detection with no action touches the fault table and the charge LED, besides what the offer touches. -/
theorem detectWith_id (offer : Notice → State → State) (k : FaultKind) (detail : Byte) (s : State) :
    detectWith id offer k detail s =
      (let s1 := { s with flt := s.flt.set k (recordedFault k detail s.uptime (s.flt.get k)) }
       if (s.flt.get k).status then s1
       else if (s.flt.get k).masked then refreshChargeLed s1
       else offer (.fault k detail (recordedFault k detail s.uptime (s.flt.get k)).count) (refreshChargeLed s1)) := by
  simp only [detectWith, id]

/-- The blocks that a notice can touch: the report memory, and through RPM's own detections the fault records and the charge
LED. -/
def OnlyReports (s t : State) : Prop :=
  t = { s with rpm := t.rpm, flt := { s.flt with record := t.flt.record }, ind := { s.ind with charge := t.ind.charge } }

theorem OnlyReports.refl (s : State) : OnlyReports s s := rfl

theorem OnlyReports.trans {s t u : State} (h : OnlyReports s t) (g : OnlyReports t u) : OnlyReports s u := by
  unfold OnlyReports at *
  rw [h] at g
  exact g

theorem onlyReports_detectWith {offer : Notice → State → State} (ho : ∀ n s, OnlyReports s (offer n s)) (k : FaultKind)
    (detail : Byte) (s : State) : OnlyReports s (detectWith id offer k detail s) := by
  rw [detectWith_id]
  have h1 : OnlyReports s { s with flt := s.flt.set k (recordedFault k detail s.uptime (s.flt.get k)) } := rfl
  have h2 : ∀ t : State, OnlyReports t (refreshChargeLed t) := fun _ => rfl
  dsimp only
  split
  · exact h1
  · split
    · exact h1.trans (h2 _)
    · exact (h1.trans (h2 _)).trans (ho _ _)

theorem onlyReports_foldl {offer : Notice → State → State} (ho : ∀ n s, OnlyReports s (offer n s)) (ds : Reports)
    (s : State) : OnlyReports s (ds.foldl (fun t d => detectWith id offer d.1 d.2 t) s) := by
  induction ds generalizing s with
  | nil => exact OnlyReports.refl s
  | cons d ds ih => exact (onlyReports_detectWith ho d.1 d.2 s).trans (ih _)

theorem onlyReports_offerDepth (n : Nat) (notice : Notice) (s : State) : OnlyReports s (offerDepth n notice s) := by
  induction n generalizing notice s with
  | zero => exact OnlyReports.refl s
  | succ n ih =>
    have h1 : OnlyReports s { s with rpm := judgeAttn (placeNotice notice s.uptime s.rpm).1 } := rfl
    exact h1.trans (onlyReports_foldl ih _ _)

/-- A notice touches the report memory, the fault records and the charge LED alone. -/
theorem raise_frame (n : Notice) (s : State) : OnlyReports s (raise n s) := onlyReports_offerDepth 4 n s

/-- So does a detection that is not SEVERE. -/
theorem detectMild_frame (k : FaultKind) (detail : Byte) (s : State) : OnlyReports s (detectMild k detail s) :=
  onlyReports_detectWith raise_frame k detail s

/-- And a run of notices. -/
theorem raiseAll_frame (ns : List Notice) (s : State) : OnlyReports s (raiseAll ns s) := by
  induction ns generalizing s with
  | nil => exact OnlyReports.refl s
  | cons n ns ih => exact (raise_frame n s).trans (ih _)

/-- And the detections that RPM reports. -/
theorem takeReports_frame (ds : Reports) (s : State) : OnlyReports s (takeReports ds s) := by
  induction ds generalizing s with
  | nil => exact OnlyReports.refl s
  | cons d ds ih => exact (detectMild_frame d.1 d.2 s).trans (ih _)

/-! ## Charge -/

/-- The blocks that a recompute and its notices can touch. -/
def OnlyCharge (s t : State) : Prop :=
  t = { s with
        chc := { s.chc with context := t.chc.context, budget := t.chc.budget }
        pks := { s.pks with schedule := t.pks.schedule }
        rpm := t.rpm, flt := { s.flt with record := t.flt.record }, ind := { s.ind with charge := t.ind.charge } }

theorem OnlyCharge.refl (s : State) : OnlyCharge s s := rfl

theorem OnlyCharge.trans {s t u : State} (h : OnlyCharge s t) (g : OnlyCharge t u) : OnlyCharge s u := by
  unfold OnlyCharge at *
  rw [h] at g
  exact g

theorem OnlyReports.onlyCharge {s t : State} (h : OnlyReports s t) : OnlyCharge s t := by
  unfold OnlyReports at h
  unfold OnlyCharge
  rw [h]

/-- An input change that CHC takes whole touches contexts, budget record and poll waits, and raises notices. -/
theorem chargeRefresh_frame (force : Bool) (ns : List Notice) (s : State) : OnlyCharge s (chargeRefresh force ns s) := by
  unfold chargeRefresh
  dsimp only
  refine OnlyCharge.trans ?_ (raiseAll_frame _ _).onlyCharge
  split <;> rfl

end Sys2Proof.Machine
end

