-- ==== Sys2Proof/Laws/Serving.lean ====
section
/-! SUPPORT. What the shared operations of the link and the bus do in each of their cases, and what the end of a command
leaves: the lemmas to cite where a command runs alone (Safety.lean, `quiet`). -/

namespace Sys2Proof.Machine

open Sys2Proof.Safety

/-! ## The reply queue and the service slot (R181) -/

theorem deliver_room (o : Outgoing) (s : State) (h : repliesFull s = false) :
    deliver o s =
      { s with
        lkp := { s.lkp with replies := s.lkp.replies ++ [o], service := if o.restarts then .restart else .empty } } := by
  simp [deliver, h]

theorem deliver_full (o : Outgoing) (s : State) (h : repliesFull s = true) :
    deliver o s = { s with lkp.service := .finished o } := by
  simp [deliver, h]

theorem disposeFrame_room (f : Frame) (s : State) (h : repliesFull s = false) :
    disposeFrame f s =
      { s with
        lkp := { s.lkp with assembly := .hunt, gapLeft := 0, replies := s.lkp.replies ++ [⟨f, false⟩] } } := by
  simp [disposeFrame, h, huntAgain]

theorem disposeFrame_full (f : Frame) (s : State) (h : repliesFull s = true) :
    disposeFrame f s = { s with lkp := { s.lkp with assembly := .waiting f, gapLeft := 0 } } := by
  simp [disposeFrame, h]

theorem receive_waiting (type : Byte) (p : List Byte) (serve : State → State) (s : State) (h : assemblyWaits s = true) :
    receive type p serve s = countErrors 1 (4 + p.length) s := by
  simp [receive, h]

theorem receive_busy (type : Byte) (p : List Byte) (serve : State → State) (s : State) (h : assemblyWaits s = false)
    (hs : serviceFree s = false) : receive type p serve s = disposeFrame ⟨replyType type, [stBusy]⟩ s := by
  simp [receive, h, hs]

theorem receive_free (type : Byte) (p : List Byte) (serve : State → State) (s : State) (h : assemblyWaits s = false)
    (hs : serviceFree s = true) : receive type p serve s = serve (huntAgain s) := by
  simp [receive, h, hs]

/-! ## A link that is idle -/

theorem linkIdle_serviceFree {s : State} (h : linkIdle s = true) : serviceFree s = true := by
  simp [linkIdle] at h
  exact h.1.1

theorem linkIdle_assemblyWaits {s : State} (h : linkIdle s = true) : assemblyWaits s = false := by
  simp [linkIdle] at h
  exact h.1.2

theorem linkIdle_repliesFull {s : State} (h : linkIdle s = true) : repliesFull s = false := by
  simp [linkIdle] at h
  exact h.2

theorem serviceFree_empty {s : State} (h : serviceFree s = true) : s.lkp.service = .empty := by
  unfold serviceFree at h
  split at h
  · assumption
  · cases h

theorem quiet_linkIdle {s : State} (h : quiet s = true) : linkIdle s = true := by
  simp [quiet] at h
  exact h.1

theorem quiet_busSettled {s : State} (h : quiet s = true) : busSettled s = true := by
  simp [quiet] at h
  exact h.2

/-- A request on an idle link is served and its reply delivered. -/
theorem request_idle (type : Byte) (serve : List Byte → State → State × List Byte) (p : List Byte) (s : State)
    (h : linkIdle s = true) :
    request type serve p s =
      deliver (replyTo type (serve p (huntAgain s)).2) (serve p (huntAgain s)).1 := by
  unfold request
  rw [receive_free _ _ _ _ (linkIdle_assemblyWaits h) (linkIdle_serviceFree h)]

@[simp] theorem repliesFull_huntAgain (s : State) : repliesFull (huntAgain s) = repliesFull s := rfl

/-- A reply with no effect, on an idle link: nothing but the answer. -/
theorem deliver_huntAgain (type : Byte) (payload : List Byte) (s : State) (h : linkIdle s = true) :
    deliver (replyTo type payload) (huntAgain s) = answered type payload s := by
  rw [deliver_room _ _ ((repliesFull_huntAgain s).trans (linkIdle_repliesFull h))]
  rfl

/-- A request that is refused on an idle link changes nothing but the reply queue (R182). -/
theorem request_refused (type status : Byte) (serve : List Byte → State → State × List Byte) (p : List Byte) (s : State)
    (h : linkIdle s = true) (hr : serve p (huntAgain s) = (huntAgain s, [status])) :
    request type serve p s = answered type [status] s := by
  rw [request_idle type serve p s h, hr]
  exact deliver_huntAgain type [status] s h

/-! ## Link errors (R178) -/

theorem countError_quiet (detail : Byte) (s : State) (h : s.lkp.errors < 65535) (h64 : (s.lkp.errors + 1) % 64 ≠ 0) :
    countError detail s = { s with lkp.errors := s.lkp.errors + 1 } := by
  have : ¬ 65535 ≤ s.lkp.errors := by omega
  simp [countError, this, h64]

theorem countError_held (detail : Byte) (s : State) (h : 65535 ≤ s.lkp.errors) : countError detail s = s := by
  simp [countError, h]

theorem countError_detects (detail : Byte) (s : State) (h : s.lkp.errors < 65535)
    (h64 : (s.lkp.errors + 1) % 64 = 0) :
    countError detail s = detectMild .linkErrors detail { s with lkp.errors := s.lkp.errors + 1 } := by
  have : ¬ 65535 ≤ s.lkp.errors := by omega
  simp [countError, this, h64]

/-! ## The end of a command -/

/-- Nothing is granted on a bus that is at work or has no work (R21 case 4). -/
theorem busGrant_settled (s : State) (h : busSettled s = true) : busGrant s = s := by
  unfold busSettled at h
  unfold busGrant
  by_cases hr : s.pbc.running.isSome = true
  · simp [hr]
  · have hr' : s.pbc.running.isSome = false := by simpa using hr
    simp only [hr', Bool.false_or, Bool.and_eq_true, Bool.not_eq_true'] at h
    obtain ⟨⟨⟨⟨⟨hs, ht⟩, ha⟩, hb⟩, h1⟩, h2⟩ := h
    have turn : s.pbc.turn = none := by
      cases hx : s.pbc.turn with
      | none => rfl
      | some x => rw [hx] at ht; simp at ht
    have grant : grantTurn s = s := by
      unfold grantTurn
      rw [turn]
      unfold grantPoller
      cases s.pbc.lastTurn <;> simp [rotation, ha, hb, h1, h2]
    rw [if_neg hr]
    cases hq : s.pbc.slot with
    | none => exact grant
    | some q =>
      rw [hq] at hs
      simp only at hs
      simp only [hs, if_true]
      exact grant

theorem offerAtOff_same (s t : State) (h : t.psq.state = s.psq.state) : offerAtOff s t = t := by
  unfold offerAtOff
  rw [h]
  simp

/-- A command that neither arrives in OFF nor frees a bus with work ends as its own effect leaves it. -/
theorem conclude_settled (s t : State) (hs : t.psq.state = s.psq.state) (hb : busSettled t = true) : conclude s t = t := by
  unfold conclude
  rw [offerAtOff_same s t hs, busGrant_settled t hb]

/-! ## Runs of one step -/

/-- Every command answers a next state: no meaning of this part faults or refuses. -/
theorem exec_answers_next (c : Instr) (s : State) : ∃ t, exec c s = .next t := by
  cases c <;> exact ⟨_, rfl⟩

/-! ## The KEY queue and ATTN (R119, R194, R198) -/

theorem offerKey_room (e : KeyEvent) (s : State) (h : s.rpm.keys.length < keyCapacity s.rpm) :
    offerKey e s =
      { s with
        rpm := judgeAttn { s.rpm with keys := s.rpm.keys ++ [⟨{ e with overrun := s.krp.overrun }, .good, .good⟩] }
        krp.overrun := false } := by
  simp [offerKey, h]

theorem offerKey_full (e : KeyEvent) (s : State) (h : ¬ s.rpm.keys.length < keyCapacity s.rpm) :
    offerKey e s = { s with krp := { s.krp with overrun := true, keyLost := min 65535 (s.krp.keyLost + 1) } } := by
  simp [offerKey, h]

@[simp] theorem judgeAttn_keys (r : ReportMemory) : (judgeAttn r).keys = r.keys := rfl
@[simp] theorem judgeAttn_notices (r : ReportMemory) : (judgeAttn r).notices = r.notices := rfl
@[simp] theorem judgeAttn_keyArea (r : ReportMemory) : (judgeAttn r).keyArea = r.keyArea := rfl
@[simp] theorem judgeAttn_noticeArea (r : ReportMemory) : (judgeAttn r).noticeArea = r.noticeArea := rfl
@[simp] theorem judgeAttn_attnLow (r : ReportMemory) : (judgeAttn r).attnLow = attnWanted r := rfl
@[simp] theorem judgeAttn_idem (r : ReportMemory) : judgeAttn (judgeAttn r) = judgeAttn r := rfl

/-! ## Wakes (R134, R136, R138) -/

theorem sourceDue_on (s : State) (i : WakeSource) (h : s.psq.state = .on) : sourceDue s i = false := by
  simp [sourceDue, enabledIn, h]

/-- In ON a setting event marks its source, and no wake is offered. -/
theorem settingEvent_on (i : WakeSource) (s : State) (h : s.psq.state = .on) :
    settingEvent i s = markSource i s := by
  have : sourceDue (markSource i s) i = false := sourceDue_on _ _ h
  simp [settingEvent, this]

theorem offerWake_on (s : State) (h : s.psq.state = .on) : offerWake s = s := by
  unfold offerWake
  split
  · rfl
  · rw [h]

/-! ## Forced stops (R155) -/

theorem forcedStop_off (cause : StopCause) (s : State) (h : s.psq.state = .off) : forcedStop cause s = s := by
  simp [forcedStop, h]

theorem setLevel_same (l : ContainmentLevel) (s : State) (h : s.flt.level = l) : setLevel l s = s := by
  simp [setLevel, h]

theorem raiseLevel_held (s : State) (h : s.flt.level ≠ .none) : raiseLevel s = s := by
  simp [raiseLevel, h]

/-! ## Detections (R164) -/

/-- A detection whose status was set already records, acts, and raises nothing. -/
theorem detectWith_again (action : State → State) (offer : Notice → State → State) (k : FaultKind) (detail : Byte)
    (s : State) (h : (s.flt.get k).status = true) :
    detectWith action offer k detail s =
      action { s with flt := s.flt.set k (recordedFault k detail s.uptime (s.flt.get k)) } := by
  simp [detectWith, h]

theorem detect_mild (k : FaultKind) (detail : Byte) (s : State) (h : k.severe = false) :
    detect k detail s = detectMild k detail s := by
  simp [detect, h]

theorem detect_severe (k : FaultKind) (detail : Byte) (s : State) (h : k.severe = true) :
    detect k detail s = detectWith (contain k) raise k detail s := by
  simp [detect, h]

/-! ## The SWITCHING interval (R12) -/

/-- The expiry of an interval that has been abandoned or restarted at this moment does nothing but be used up. -/
theorem switchingExpired_replaced (s : State) (h : s.srs.switchReplaced = true) :
    switchingExpired s = { s with srs.switchReplaced := false } := by
  simp [switchingExpired, h]

theorem switchingExpired_steady (s : State) (hr : s.srs.switchReplaced = false) (h : s.srs.switching = false) :
    switchingExpired s = s := by
  simp [switchingExpired, hr, h]

/-! ## Expiries of a tick (R138, R154) -/

theorem whenDue_not (due : State → Bool) (act : State → State) (s : State) (h : due s = false) :
    whenDue due act s = s := by
  simp [whenDue, h]

/-- An expiry that does not reach OFF offers no wake. -/
theorem whenDue_stays (due : State → Bool) (act : State → State) (s : State) (h : due s = true)
    (hs : (act s).psq.state ≠ .off) : whenDue due act s = act s := by
  simp [whenDue, offerAtOff, h, hs]

/-! ## The words of an entry (R197) -/

/-- Each single-bit error is counted, wherever it stands, and any double-bit error drops the entry. -/
theorem checkWords_eq (ws : List WordCheck) :
    checkWords ws = (ws.count .single, ws.contains .double) := by
  induction ws with
  | nil => rfl
  | cons w ws ih => cases w <;> simp [checkWords, ih]

/-! ## The LEDs (R169) -/

theorem drivenLit_off (x : LedRecord) (h : x.shown.pattern = .off) : drivenLit x = x.invert := by
  simp [drivenLit, litPhase, h]

theorem drivenLit_solid (x : LedRecord) (h : x.shown.pattern = .solid) : drivenLit x = !x.invert := by
  simp [drivenLit, litPhase, h]

/-- The end of a phase swaps the driven level of a blinking LED. -/
theorem drivenLit_nextPhase (x : LedRecord) (h : blinks x.shown.pattern = true) :
    drivenLit (nextPhase x) = !drivenLit x := by
  obtain ⟨_, _, _, ⟨pattern, _⟩, lit, _⟩ := x
  cases pattern <;> cases lit <;> simp_all [drivenLit, litPhase, nextPhase, blinks]

/-! ## The keyboard at the first pass after a start (R109) -/

/-- Without a fresh start, and in WAKE mode, the key table stands as it is. -/
theorem takeHeldKeys_keys_same (s : State) (h : (s.kbs.freshStart && s.kbs.mode == .active) = false) :
    (takeHeldKeys s).kbs.keys = s.kbs.keys := by
  simp [takeHeldKeys, h]

/-- At the first pass after a start each position is taken for itself. -/
theorem takeHeldKeys_key (s : State) (p : Position) (hf : s.kbs.freshStart = true) (hm : s.kbs.mode = .active) :
    (takeHeldKeys s).kbs.keys[p] = heldAtStart (s.kbs.last.getLsbD p.val) s.kbs.keys[p] := by
  simp [takeHeldKeys, hf, hm]

/-! ## A failed recovery (R20, R177) -/

/-- Where BUS_STUCK is not active, the second failed recovery in a row alone detects it. -/
theorem stuckDetected_inactive (s : State) (h : (s.flt.get .busStuck).active = false) :
    stuckDetected s = (s.pbc.recoveryFails == 1) := by
  simp [stuckDetected, h]

/-- Where a restart has kept BUS_STUCK active, the first failed recovery alone detects it. -/
theorem stuckDetected_kept (s : State) (h : (s.flt.get .busStuck).active = true) :
    stuckDetected s = (s.pbc.recoveryFails == 0) := by
  simp [stuckDetected, h]

end Sys2Proof.Machine
end

