-- ==== Sys2Proof/Laws/Reach.lean ====
section
/-! SUPPORT. How far the platform's operations reach: sources, pack records, the bus, the straps and the uptime stand as they
were under every change of the platform state, wake, detection and trip. -/

namespace Sys2Proof.Machine

/-- The blocks that PSQ's operations and what they hand on can touch. -/
def OnlyPlatform (s t : State) : Prop :=
  t = { s with
        inputs := { s.inputs with spg := t.inputs.spg, mpg := t.inputs.mpg }
        pks := { s.pks with schedule := t.pks.schedule }
        chc := { s.chc with context := t.chc.context, budget := t.chc.budget, policy := t.chc.policy }
        thu := t.thu, fnc := t.fnc, kbs := t.kbs, krp := t.krp, lwu := t.lwu, psq := t.psq, flt := t.flt, ind := t.ind
        lkp := { s.lkp with run := t.lkp.run }
        rpm := t.rpm }

theorem OnlyPlatform.refl (s : State) : OnlyPlatform s s := rfl

theorem OnlyPlatform.trans {s t u : State} (h : OnlyPlatform s t) (g : OnlyPlatform t u) : OnlyPlatform s u := by
  unfold OnlyPlatform at *
  rw [h] at g
  exact g

theorem OnlyCharge.onlyPlatform {s t : State} (h : OnlyCharge s t) : OnlyPlatform s t := by
  unfold OnlyCharge at h
  unfold OnlyPlatform
  rw [h]

theorem OnlyReports.onlyPlatform {s t : State} (h : OnlyReports s t) : OnlyPlatform s t := h.onlyCharge.onlyPlatform

theorem onlyPlatform_ite {c : Prop} [Decidable c] {s t u : State} (h : OnlyPlatform s t) (g : OnlyPlatform s u) :
    OnlyPlatform s (if c then t else u) := by
  split
  · exact h
  · exact g

theorem onlyPlatform_foldl {α : Type} {f : State → α → State} (hf : ∀ s x, OnlyPlatform s (f s x)) (xs : List α)
    (s : State) : OnlyPlatform s (xs.foldl f s) := by
  induction xs generalizing s with
  | nil => exact OnlyPlatform.refl s
  | cons x xs ih => exact (hf s x).trans (ih _)

/-! ## Fans -/

theorem remakeFan_reach (i : FanId) (s : State) : OnlyPlatform s (remakeFan i s) := by
  unfold remakeFan
  exact onlyPlatform_ite rfl rfl

theorem remakeDuties_reach (s : State) : OnlyPlatform s (remakeDuties s) :=
  (remakeFan_reach .fan0 s).trans (remakeFan_reach .fan1 _)

theorem setOverride_reach (i : FanId) (mode : OverrideMode) (duty : Nat) (left : Option Nat) (s : State) :
    OnlyPlatform s (setOverride i mode duty left s) := by
  unfold setOverride
  have h : OnlyPlatform s { s with fnc.fan := s.fnc.fan.set i (withOverride mode duty left (s.fnc.fan.get i)) } := rfl
  exact (h.trans (remakeFan_reach i _)).trans (raiseAll_frame _ _).onlyPlatform

theorem cancelOverride_reach (i : FanId) (s : State) : OnlyPlatform s (cancelOverride i s) := by
  unfold cancelOverride
  exact onlyPlatform_ite (.refl _) (setOverride_reach _ _ _ _ _)

/-! ## Keys -/

theorem offerKey_reach (e : KeyEvent) (s : State) : OnlyPlatform s (offerKey e s) := by
  unfold offerKey
  exact onlyPlatform_ite rfl rfl

theorem handRelease_reach (synthetic : Bool) (p : Position) (code : Byte) (layer : Bool) (s : State) :
    OnlyPlatform s (handRelease synthetic p code layer s) := by
  unfold handRelease
  refine onlyPlatform_ite ?_ rfl
  unfold typeRelease queueEvent
  exact (offerKey_reach _ _).trans (onlyPlatform_ite rfl rfl)

theorem setScanMode_reach (m : ScanMode) (s : State) : OnlyPlatform s (setScanMode m s) := by
  unfold setScanMode
  exact onlyPlatform_ite rfl rfl

theorem syntheticRelease_reach (s : State) (p : Position) : OnlyPlatform s (syntheticRelease s p) := by
  unfold syntheticRelease
  have h : OnlyPlatform s (setKey p (silentKey .latent) s) := rfl
  exact h.trans (handRelease_reach _ _ _ _ _)

theorem beginSuppression_reach (m : ScanMode) (s : State) : OnlyPlatform s (beginSuppression m s) := by
  unfold beginSuppression
  have h : ∀ t : State, OnlyPlatform t
      (setBacklightOutput (typeIdle { t with kbs.keys := t.kbs.keys.map suppressKey })) := fun _ => rfl
  exact ((setScanMode_reach m s).trans (onlyPlatform_foldl syntheticRelease_reach _ _)).trans (h _)

theorem updateKeyboard_reach (s : State) : OnlyPlatform s (updateKeyboard s) := by
  unfold updateKeyboard
  have h : ∀ (x : Suppression) (y : Bool), OnlyPlatform s { s with kbs.suppression := x, kbs.freshStart := y } :=
    fun _ _ => rfl
  have e : ∀ m t, OnlyPlatform t (endSuppression m t) := fun m t =>
    (setScanMode_reach m t).trans (show OnlyPlatform _ (setBacklightOutput _) from rfl)
  exact (h _ _).trans
    (onlyPlatform_ite (beginSuppression_reach _ _) (onlyPlatform_ite (e _ _) (setScanMode_reach _ _)))

/-! ## The platform state -/

theorem resetHeld_reach (s : State) (i : WakeSource) : OnlyPlatform s (resetHeld s i) := by
  unfold resetHeld
  exact onlyPlatform_ite rfl rfl

theorem clearPending_reach (s : State) : OnlyPlatform s (clearPending s) := by
  unfold clearPending
  have h : OnlyPlatform s { s with lwu.table := s.lwu.table.map fun e => { e with pending := false } } := rfl
  exact h.trans (onlyPlatform_foldl resetHeld_reach _ _)

theorem setLevel_reach (l : ContainmentLevel) (s : State) : OnlyPlatform s (setLevel l s) := by
  unfold setLevel
  refine onlyPlatform_ite (.refl _) ?_
  have h : OnlyPlatform s { s with flt.level := l } := rfl
  have j : ∀ t : State, OnlyPlatform t (judgeThrottle t) := fun _ => rfl
  exact ((h.trans (chargeRefresh_frame _ _ _).onlyPlatform).trans (remakeDuties_reach _)).trans (j _)

theorem judgeTripEnd_reach (s : State) : OnlyPlatform s (judgeTripEnd s) := by
  unfold judgeTripEnd
  exact onlyPlatform_ite rfl rfl

theorem thermalLeaveOn_reach (s : State) : OnlyPlatform s (thermalLeaveOn s) := by
  unfold thermalLeaveOn
  have h : OnlyPlatform s (endFault .supplyStale
      (setSensor 5 (leaveOnSensor s.thu.sensors[5]) (setSensor 4 (leaveOnSensor s.thu.sensors[4]) s))) := rfl
  exact h.trans (judgeTripEnd_reach _)

theorem fansTakeState_reach (leaving : Bool) (s : State) : OnlyPlatform s (fansTakeState leaving s) := by
  unfold fansTakeState
  exact (onlyPlatform_ite ((cancelOverride_reach _ _).trans (cancelOverride_reach _ _)) (.refl _)).trans
    (remakeDuties_reach _)

/-- A change of the platform state, with all that PSQ hands on (R147). -/
theorem changeState_reach (new : PlatformState) (s : State) : OnlyPlatform s (changeState new s) := by
  unfold changeState
  extract_lets old x s1 s2 s3 s4 s5
  have h1 : OnlyPlatform s s1 := rfl
  have h2 : OnlyPlatform s1 s2 := onlyPlatform_ite (clearPending_reach _) (.refl _)
  have h3 : OnlyPlatform s2 s3 := (updateKeyboard_reach _).trans (fansTakeState_reach _ _)
  have h4 : OnlyPlatform s3 s4 := onlyPlatform_ite (thermalLeaveOn_reach _) (onlyPlatform_ite rfl (.refl _))
  have h5 : OnlyPlatform s4 s5 := rfl
  exact ((((h1.trans h2).trans h3).trans h4).trans h5).trans (onlyPlatform_ite rfl (.refl _))

theorem beginGrace_reach (s : State) : OnlyPlatform s (beginGrace s) := by
  unfold beginGrace
  have h : OnlyPlatform s { s with psq.grace := some (s.psq.settings.grace * 1000) } := rfl
  have g : ∀ t : State, OnlyPlatform t (refreshChargeLed (markSource .lowEnergy t)) := fun _ => rfl
  exact (h.trans (raise_frame _ _).onlyPlatform).trans (g _)

theorem endGrace_reach (event : Nat) (off : Bool) (s : State) : OnlyPlatform s (endGrace event off s) := by
  unfold endGrace
  have h : OnlyPlatform s { s with psq.grace := none } := rfl
  have g : ∀ t : State, OnlyPlatform t (refreshChargeLed t) := fun _ => rfl
  split
  · exact OnlyPlatform.refl s
  · exact (h.trans (raise_frame _ _).onlyPlatform).trans (g _)

theorem enterMpgWait_reach (s : State) : OnlyPlatform s (enterMpgWait s) := by
  unfold enterMpgWait
  exact onlyPlatform_ite rfl rfl

theorem releaseAtStart_reach (s : State) : OnlyPlatform s (releaseAtStart s) := by
  unfold releaseAtStart
  exact onlyPlatform_ite (.refl _) (setLevel_reach _ _)

theorem recordWake_reach (s : State) : OnlyPlatform s (recordWake s) := by
  rw [recordWake_frame]
  rfl

theorem takeStart_reach (s : State) : OnlyPlatform s (takeStart s) := by
  unfold takeStart
  extract_lets s0 x s1 s2 s3
  have h0 : OnlyPlatform s s0 := recordWake_reach s
  clear_value s0
  have h1 : OnlyPlatform s s1 := h0.trans (show OnlyPlatform s0 s1 from rfl)
  clear_value s1
  have h2 : OnlyPlatform s1 s2 :=
    ((changeState_reach _ _).trans (clearPending_reach _)).trans (releaseAtStart_reach _)
  clear_value s2
  have h3 : OnlyPlatform s2 s3 := onlyPlatform_ite (beginGrace_reach _) (.refl _)
  clear_value s3
  exact ((h1.trans h2).trans h3).trans (onlyPlatform_ite (enterMpgWait_reach _) (.refl _))

theorem takeResume_reach (s : State) : OnlyPlatform s (takeResume s) := by
  unfold takeResume
  have h1 := recordWake_reach s
  exact ((h1.trans (changeState_reach _ _)).trans (clearPending_reach _)).trans (enterMpgWait_reach _)

/-- The offer of a wake, taken or refused (R138, R148, R153). -/
theorem offerWake_reach (s : State) : OnlyPlatform s (offerWake s) := by
  unfold offerWake
  refine onlyPlatform_ite (.refl _) ?_
  split
  · exact takeResume_reach s
  · exact onlyPlatform_ite (takeStart_reach s) rfl
  · exact OnlyPlatform.refl s

theorem settingEvent_reach (i : WakeSource) (s : State) : OnlyPlatform s (settingEvent i s) := by
  unfold settingEvent
  have h : OnlyPlatform s (markSource i s) := rfl
  exact h.trans (onlyPlatform_ite (offerWake_reach _) (.refl _))

/-- One pack alarm, and each of those of one poll (R28, R134). -/
theorem packAlarm_reach (p : PackId) (s : State) : OnlyPlatform s (packAlarm p s) := by
  unfold packAlarm
  exact (raise_frame _ _).onlyPlatform.trans (settingEvent_reach _ _)

theorem judgeAlarm_reach (p : PackId) (old : AlarmFlags) (s : State) : OnlyPlatform s (judgeAlarm p old s) := by
  unfold judgeAlarm
  induction alarmsRisen old (s.pks.record.get p).alarm with
  | zero => exact OnlyPlatform.refl s
  | succ n ih => exact ih.trans (packAlarm_reach p _)

theorem startGrace_reach (s : State) : OnlyPlatform s (startGrace s) := by
  unfold startGrace
  exact (beginGrace_reach s).trans (onlyPlatform_ite (offerWake_reach _) (.refl _))

theorem judgeCritical_reach (s : State) : OnlyPlatform s (judgeCritical s) := by
  unfold judgeCritical
  have h : ∀ b, OnlyPlatform s { s with psq.critical := b } := fun _ => rfl
  exact onlyPlatform_ite (.refl _) (onlyPlatform_ite ((h true).trans (onlyPlatform_ite (startGrace_reach _) (.refl _)))
    ((h false).trans (endGrace_reach _ _ _)))

theorem arriveOff_reach (s : State) : OnlyPlatform s (arriveOff s) := by
  unfold arriveOff
  have h : OnlyPlatform s { s with psq.step := .none, psq.stepLeft := 0, psq.stopKind := .none } := rfl
  have g : ∀ t : State, OnlyPlatform t (emptyKeyQueue t) := fun _ => rfl
  exact (((h.trans (changeState_reach _ _)).trans (g _)).trans (raise_frame _ _).onlyPlatform).trans
    (endGrace_reach _ _ _)

/-- A forced stop (R155). -/
theorem forcedStop_reach (cause : StopCause) (s : State) : OnlyPlatform s (forcedStop cause s) := by
  unfold forcedStop
  refine onlyPlatform_ite (.refl _) ?_
  have h : OnlyPlatform s
      { s with psq.lastStop := cause, psq.stopKind := .forced, psq.step := .none, psq.stepLeft := 0 } := rfl
  have g : ∀ t : State, OnlyPlatform t (dropAll t) := fun _ => rfl
  exact ((h.trans (onlyPlatform_ite (.refl _) (changeState_reach _ _))).trans (g _)).trans (arriveOff_reach _)

theorem arriveStandby_reach (s : State) : OnlyPlatform s (arriveStandby s) := by
  unfold arriveStandby
  have h : OnlyPlatform s { dropMain s with psq.step := .none, psq.stepLeft := 0 } := rfl
  exact ((h.trans (changeState_reach _ _)).trans (raise_frame _ _).onlyPlatform).trans (offerWake_reach _)

/-! ## Detections and the trip -/

theorem contain_reach (k : FaultKind) (s : State) : OnlyPlatform s (contain k s) := by
  unfold contain
  split
  · exact OnlyPlatform.refl s
  · exact onlyPlatform_ite (setLevel_reach _ _) (.refl _)
  · exact setLevel_reach _ _
  · exact (forcedStop_reach _ _).trans (onlyPlatform_ite (setLevel_reach _ _) (.refl _))

theorem detectWith_reach {action : State → State} (ha : ∀ s, OnlyPlatform s (action s)) (k : FaultKind) (detail : Byte)
    (s : State) : OnlyPlatform s (detectWith action raise k detail s) := by
  unfold detectWith
  have h : OnlyPlatform s { s with flt := s.flt.set k (recordedFault k detail s.uptime (s.flt.get k)) } := rfl
  have g : ∀ t : State, OnlyPlatform t (refreshChargeLed t) := fun _ => rfl
  refine (h.trans (ha _)).trans (onlyPlatform_ite (.refl _) ?_)
  exact (g _).trans (onlyPlatform_ite (.refl _) (raise_frame _ _).onlyPlatform)

/-- A detection of any kind, with its containment action (R164, R166). -/
theorem detect_reach (k : FaultKind) (detail : Byte) (s : State) : OnlyPlatform s (detect k detail s) := by
  unfold detect
  exact onlyPlatform_ite (detectWith_reach (contain_reach k) _ _ _) (detectMild_frame _ _ _).onlyPlatform

theorem judgeTrip_reach (s : State) : OnlyPlatform s (judgeTrip s) := by
  unfold judgeTrip
  have h : OnlyPlatform s { s with thu.trip := true } := rfl
  exact onlyPlatform_ite ((h.trans (detect_reach _ _ _)).trans (raise_frame _ _).onlyPlatform)
    (judgeTripEnd_reach s)

theorem judgeWakeCondition_reach (s : State) : OnlyPlatform s (judgeWakeCondition s) := by
  unfold judgeWakeCondition
  refine onlyPlatform_ite (.refl _) ?_
  have h : ∀ b, OnlyPlatform s { s with thu.wakeCondition := b } := fun _ => rfl
  exact (h _).trans (onlyPlatform_ite (settingEvent_reach _ _) (.refl _))

theorem arriveOn_reach (s : State) : OnlyPlatform s (arriveOn s) := by
  unfold arriveOn
  have h : OnlyPlatform s { s with psq.prst := false, psq.step := .none, psq.stepLeft := 0 } := rfl
  exact (((h.trans (changeState_reach _ _)).trans (raise_frame _ _).onlyPlatform).trans
    (raise_frame _ _).onlyPlatform).trans (judgeTrip_reach _)

theorem railFail_reach (detail : Byte) (s : State) : OnlyPlatform s (railFail detail s) :=
  (forcedStop_reach _ _).trans (detect_reach _ _ _)

/-! ## Packs and sources -/

/-- The discharge switches: the pack records and THROTTLE alone (R30, R168). -/
theorem setSwitches_frame (s : State) :
    setSwitches s =
      { s with
        pks := { s.pks with record := (setSwitches s).pks.record }
        flt := { s.flt with throttle := (setSwitches s).flt.throttle } } := rfl

/-- The platform RSOC, with what PSQ makes of it (R31, R159). -/
theorem updateRsoc_reach (s : State) :
    OnlyPlatform { s with pks.rsoc := rsocOf s.pks.record.a s.pks.record.b } (updateRsoc s) :=
  judgeCritical_reach _

theorem endFault_frame (k : FaultKind) (s : State) : OnlyReports s (endFault k s) := rfl

/-- SOURCE_INVALID: notices and the fault table alone (R7). -/
theorem judgeInvalid_frame (i : SourceId) (old new : SourceRecord) (s : State) :
    OnlyReports s (judgeInvalid i old new s) := by
  unfold judgeInvalid
  split
  · exact detectMild_frame _ _ _
  · split
    · exact OnlyReports.refl s
    · exact endFault_frame _ _

/-! ## Consequences -/

theorem OnlyPlatform.uptime {s t : State} (h : OnlyPlatform s t) : t.uptime = s.uptime := by rw [h]
theorem OnlyPlatform.straps {s t : State} (h : OnlyPlatform s t) : t.straps = s.straps := by rw [h]
theorem OnlyPlatform.srs {s t : State} (h : OnlyPlatform s t) : t.srs = s.srs := by rw [h]
theorem OnlyPlatform.pbc {s t : State} (h : OnlyPlatform s t) : t.pbc = s.pbc := by rw [h]
theorem OnlyPlatform.record {s t : State} (h : OnlyPlatform s t) : t.pks.record = s.pks.record := by rw [h]
theorem OnlyPlatform.rsoc {s t : State} (h : OnlyPlatform s t) : t.pks.rsoc = s.pks.rsoc := by rw [h]
theorem OnlyPlatform.handed {s t : State} (h : OnlyPlatform s t) : t.chc.handed = s.chc.handed := by rw [h]
theorem OnlyPlatform.pending {s t : State} (h : OnlyPlatform s t) : t.pending = s.pending := by rw [h]

end Sys2Proof.Machine
end

