-- ==== Sys2Proof/Tests/Slice0.lean ====
section
/-! SUPPORT. Tests: the well-formedness smokes, small checks of single steps against values that the manual prints, and one
witness theorem for the hypotheses of each statement. -/

namespace Sys2Proof.Tests

open Sys2Proof.Machine Sys2Proof.Safety

set_option Elab.async false

/-! ## Well-formedness: each check refuses an ill-formed command -/

theorem test_payload_of_57_is_ill_formed :
    (Instr.ping (List.replicate 57 0)).wellFormed = false ∧ (Instr.ping (List.replicate 56 0)).wellFormed = true := by
  decide

theorem test_settings_of_one_byte_are_ill_formed :
    (Instr.platformRequestSettings [1]).wellFormed = false ∧ (Instr.platformRequestSettings []).wellFormed = true := by
  decide

theorem test_known_type_is_no_unknown_type :
    (Instr.unknownType 0x44 []).wellFormed = false ∧ (Instr.unknownType 0x45 []).wellFormed = true := by decide

theorem test_frame_mark_is_no_skipped_byte :
    (Instr.skippedByte 0x5A).wellFormed = false ∧ (Instr.skippedByte 0x5B).wellFormed = true := by decide

theorem test_gap_needs_a_partial_frame :
    (Instr.gapTimeout []).wellFormed = false ∧ (Instr.gapTimeout [0x5A, 1, 57]).wellFormed = false ∧
      (Instr.gapTimeout [0x5A, 1, 0, 0x15]).wellFormed = false ∧ (Instr.gapTimeout [0x5A, 1, 0]).wellFormed = true := by
  decide +kernel

theorem test_length_of_56_is_no_fault :
    (Instr.lengthFault 1 56).wellFormed = false ∧ (Instr.lengthFault 1 57).wellFormed = true := by decide

theorem test_right_check_is_no_fault :
    (Instr.checkFault 1 [] 0x15).wellFormed = false ∧ (Instr.checkFault 1 [] 0x16).wellFormed = true := by
  decide +kernel

theorem test_bus_reads_at_most_32_bytes :
    (Instr.busAttemptEnd (.acked (List.replicate 33 0)) true).wellFormed = false ∧
      (Instr.busAttemptEnd (.acked (List.replicate 32 0)) true).wellFormed = true := by
  decide +kernel

theorem test_window_counts_at_most_2184_pulses :
    (Instr.tachWindowEnd .fan0 2185).wellFormed = false ∧ (Instr.tachWindowEnd .fan0 2184).wellFormed = true := by decide

/-! ## Values that the manual prints -/

/-- The state that a command leads to. -/
def after (c : Instr) (s : State) : State :=
  match exec c s with
  | .next t => t
  | _ => s

/-- The empty PING and its reply, on the line (section 10.7). -/
theorem test_ping_frames :
    Frame.bytes ⟨0x01, []⟩ = [0x5A, 0x01, 0x00, 0x15] ∧ Frame.bytes ⟨0x81, [0]⟩ = [0x5A, 0x81, 0x01, 0x00, 0x75] := by
  decide +kernel

/-- An empty PING is answered OK (R186). -/
theorem test_ping_is_answered_ok :
    (after (.ping []) State.reset).lkp.replies = [⟨⟨0x81, [0]⟩, false⟩] := by decide +kernel

/-- The power-on reset of a part with nothing attached is the reset state. -/
theorem test_power_on_gives_the_reset_state : powerOn resetStraps resetInputs [] = State.reset := by decide +kernel

/-- A selector with the barrel of 65 W in use and PORT1 at a given current (the worked sequence of section 1.5). -/
def twoSources (mA : Nat) : Selector :=
  { State.reset.srs with
    barrel := { absentSource true false with
      present := true, valid := true, settled := true, voltage := 20000, current := 3250, power := 65000, cls := .w65 }
    port1 := { absentSource true false with
      present := true, valid := true, settled := true, voltage := 20000, current := mA, power := 20 * mA }
    active := some .barrel }

/-- 60000 mW does not replace 65000 mW; 100000 mW does; the edge lies at 71500 mW (R10). -/
theorem test_hysteresis_of_selection :
    outcome (twoSources 3000) = some .barrel ∧ outcome (twoSources 5000) = some .port1 ∧
      outcome (twoSources 3575) = some .port1 ∧ outcome (twoSources 3574) = some .barrel := by decide +kernel

/-- P_in_max of the worked case of section 3.4 (R14). -/
theorem test_input_limit_of_65_watts : pInMax (twoSources 3000) = 61750 := by decide +kernel

/-- A pack context that is CHARGING in a CC stage (the worked case of section 3.4). -/
def chargingContext (mA : Nat) : ChargeContext :=
  { absentContext [⟨.cc, mA, 16800, 17600, 0, false⟩] with state := .charging }

/-- A pack record of a READY pack at a voltage. -/
def readyPack (mV : Nat) : PackRecord :=
  { absentPack true with
    present := true, state := .ready, identified := true, voltage := mV, temperature := 250, rsoc := 50,
    remaining := 2500, full := 5000, reqCurrent := 2000, reqVoltage := 16800, switchOn := true, switchWritten := true }

/-- The worked case of section 3.4: two packs under derating. -/
def twoPacks (order : ChargeOrder) : State :=
  { State.reset with
    srs := { twoSources 0 with port1 := absentSource true false, pSys := 23400 }
    chc := { State.reset.chc with
      policy := { defaultPolicy with order }
      context := ⟨chargingContext 2000, chargingContext 500⟩, handed := ⟨readyPack 12600, readyPack 16200⟩ }
    thu := { State.reset.thu with derate := 75 } }

/-- P_budget, finals and target currents of the worked case, BALANCED and A_FIRST (R54 to R57). -/
theorem test_budget_of_two_packs :
    (computeBudget (twoPacks .balanced)).pBudget = 25886 ∧
      (computeBudget (twoPacks .balanced)).packs.a.allotted = 17786 ∧
      (computeBudget (twoPacks .balanced)).packs.a.targetCurrent = 1400 ∧
      (computeBudget (twoPacks .balanced)).packs.b.targetCurrent = 500 ∧
      (computeBudget (twoPacks .aFirst)).packs.a.targetCurrent = 2000 ∧
      (computeBudget (twoPacks .aFirst)).packs.b.targetCurrent = 25 := by decide +kernel

/-- The worked evaluations of section 4.8, from a curve value to the next (R79). -/
theorem test_curve_with_hysteresis :
    let fan (v : Nat) : FanRecord := { restingFan true 0x11 with curveValue := v }
    nextCurveValue (fan 600) 673 = 682 ∧ nextCurveValue (fan 682) 660 = 682 ∧ nextCurveValue (fan 682) 640 = 675 ∧
      nextCurveValue (fan 600) 380 = 262 := by decide

/-- A NOTICE queue of four, as in the worked sequence of section 11.4. -/
def smallQueue : State :=
  { State.reset with
    rpm := { freshMemory with
      noticeArea := ⟨32, 33⟩, attnLevel := 3
      notices := [freshEntry (.budget 0 0 0 0) 1, freshEntry (.charge .a .idle .paused noBars) 2,
        freshEntry (.pack .a .identify .ready) 3, freshEntry (.fan .fan0 0) 4] } }

/-- THERMAL evicts BUDGET, and REPORT_OVERFLOW is detected with detail 17 (section 11.4). -/
theorem test_eviction_of_the_lowest :
    let t := raise (.derate 100 75 1 460) smallQueue
    (t.rpm.notices.map fun e => e.notice.code) = [10, 7, 13, 12] ∧ t.rpm.noticeLost = 1 ∧
      (t.flt.get .reportOverflow).detail = 17 ∧ (t.flt.get .reportOverflow).count = 1 ∧ t.rpm.attnLow = true := by
  decide +kernel

/-- A second CHARGE merges in place with a repeat count of 2, and a STAGE of level 2 is discarded then (section 11.4). -/
theorem test_merge_and_discard :
    let t := raise (.charge .a .paused .charging noBars) (raise (.derate 100 75 1 460) smallQueue)
    let u := raise (.stage .a 0 (some 1) 0) t
    (t.rpm.notices.map fun e => e.count) = [2, 1, 1, 1] ∧ u.rpm.notices = t.rpm.notices ∧
      (u.flt.get .reportOverflow).detail = 9 ∧ u.rpm.noticeLost = 2 := by decide +kernel

/-- The first byte of a break takes the counter from 63 to 64: LINK_ERRORS with detail 0 (section 10.8). -/
theorem test_sixty_fourth_link_error :
    let t := after .framingError { State.reset with lkp := { freshLink with errors := 63 } }
    t.lkp.errors = 64 ∧ (t.flt.get .linkErrors).status = true ∧ (t.flt.get .linkErrors).detail = 0 := by
  decide +kernel

/-- A corrupted PING leaves LINK_FAULT (CHECK, 0x01, 0x00) (section 10.8). -/
theorem test_link_fault_frame :
    (after (.checkFault 1 [] 0x16) State.reset).lkp.replies = [⟨⟨0xFF, [1, 1, 0]⟩, false⟩] := by decide +kernel

/-- The platform RSOC is the quotient of the sums, rounded down (R31). -/
theorem test_rsoc_of_two_packs :
    rsocOf { readyPack 12600 with remaining := 1000, full := 4000 }
      { readyPack 12600 with remaining := 1085, full := 1500 } = 37 := by decide +kernel

/-- A discharging current is negative: 0xFF38 is -200 mA, and 2982 tenths of a kelvin are 25.0 degrees (R25). -/
theorem test_poll_words :
    let r := polledRecord [12600, 0xFF38, 2982, 101, 2000, 4000, 0x09, 1500, 16800] 7 (readyPack 0)
    r.current = -200 ∧ r.temperature = 250 ∧ r.rsoc = 100 ∧ r.alarm = ⟨true, false, false, true, false⟩ := by
  decide +kernel

/-- A double-bit error does not stop the check of the words after it (R197). -/
theorem test_single_after_double_is_counted : checkWords [.double, .single] = (1, true) := by decide

/-- A tick in which the wake timer starts the platform and the override time forces it off again ends with the offer, in OFF,
of the input that is held: the platform starts once more (R138, R154, R158). -/
theorem test_arrival_in_a_tick_offers_a_wake :
    let lwu := (State.reset.lwu.set .ext0 ⟨false, false, false, true⟩).set .timer ⟨false, false, false, true⟩
    let s : State :=
      { State.reset with
        srs := twoSources 3000, inputs := { resetInputs with ext0 := true, button := true }
        lwu := { lwu with ext0 := ⟨true, false⟩, wakeTimer := some 1 }
        psq := { State.reset.psq with pressed := true, holding := true, hold := 3999 } }
    let t := tick s
    t.psq.state = .starting ∧ t.psq.lastStop = .button ∧ t.lwu.cause.getLsbD WakeSource.ext0.index.val = true := by
  decide +kernel

/-- The wake timer that reaches 0 in the ms in which the button has taken the wake is cancelled, and TIMER is set (R140). -/
theorem test_wake_timer_runs_out_beside_a_wake :
    let s : State :=
      { State.reset with
        srs := twoSources 3000, inputs := { resetInputs with button := true }
        lwu := { State.reset.lwu with wakeTimer := some 1 }, psq := { State.reset.psq with buttonTimer := some 1 } }
    let t := tick s
    t.psq.state = .starting ∧ t.lwu.wakeTimer = none ∧ (t.lwu.get .timer).status = true := by decide +kernel

/-- The expiry of the interval that a change of the active source has just restarted does not end the new one (R12). -/
theorem test_expiry_of_a_restarted_interval :
    let s := { State.reset with srs := { twoSources 5000 with switching := true, switchLeft := 1 } }
    let t := selectSource s
    t.srs.active = some .port1 ∧ t.srs.switchLeft = 30 ∧ (switchingExpired t).srs.switching = true ∧
      (switchingExpired (switchingExpired t)).srs.switching = false := by decide +kernel

/-- An inverted SOLID is dark and an inverted OFF is lit (R169). -/
theorem test_inverted_leds :
    drivenLit { darkLed with shown := ⟨.solid, none⟩, lit := true, invert := true } = false ∧
      drivenLit { darkLed with invert := true } = true ∧ drivenLit darkLed = false := by decide

/-! ## Witnesses: states and operands that meet the hypotheses of each statement -/

/-- The bus free, with nothing that waits or is due. -/
def free (s : State) : State :=
  { s with pbc := { s.pbc with running := none, turn := none, slot := none, portDue := ⟨false, false⟩ } }

/-- The platform in ON. -/
def on (s : State) : State :=
  { s with
    psq := { s.psq with state := .on, sre := true, mre := true, prst := false, lastRest := .off }
    kbs := { s.kbs with mode := .active, suppression := ⟨false, false, false⟩ } }

/-- The platform in a state and step. -/
def at_ (state : PlatformState) (step : SeqStep) (s : State) : State :=
  { s with psq := { s.psq with state, step, sre := true, mre := true } }

/-- A pack in place, with its handed copy. -/
def withPack (r : PackRecord) (s : State) : State :=
  { s with pks := { s.pks with record := ⟨r, s.pks.record.b⟩ }, chc := { s.chc with handed := ⟨r, s.chc.handed.b⟩ } }

/-- Pack A's charge context. -/
def withContext (c : ChargeContext) (s : State) : State :=
  { s with chc := { s.chc with context := ⟨c, s.chc.context.b⟩ } }

/-- A transaction on the bus with its poller's turn. -/
def onBus (x : Transaction) (t : Option Turn) (s : State) : State :=
  { s with pbc := { s.pbc with running := some x, turn := t } }

/-- Two alarm flags that rise at one poll are two alarms (R28): the notice tells it twice, and in STANDBY, where the first
wakes the platform, the second is left pending in RESUMING (R134, R137). -/
theorem test_two_alarms_of_one_poll :
    let s := at_ .standby .none
      (withPack { readyPack 12600 with alarm := ⟨false, true, true, false, false⟩ } State.reset)
    let t := judgeAlarm .a ⟨false, false, false, false, false⟩ s
    (t.rpm.notices.map fun e => e.count) = [2] ∧ t.psq.state = .resuming ∧ (t.lwu.get .packAlarm).pending = true := by
  decide +kernel

/-- A BUS_STUCK that a restart has kept active is detected again at the failed recovery of the first attempt, with the device
of that attempt, and not at the next (R177, R20). -/
theorem test_kept_bus_stuck_is_judged_at_the_first_attempt :
    let x : Transaction := ⟨.port1, false, .readBlock 0x40 5, false, true, 0, false⟩
    let s := onBus x none { State.reset with
      flt := State.reset.flt.set .busStuck { clearFault false with status := true, active := true, count := 1 } }
    let t := after (.busRecoveryEnd false) s
    let u := after (.busRecoveryEnd false) t
    (t.flt.get .busStuck).count = 2 ∧ (t.flt.get .busStuck).detail = 2 ∧ (u.flt.get .busStuck).count = 2 ∧
      u.pbc.recoveryFails = 2 := by decide +kernel

/-- A key that is closed at the first pass after a start is LATENT and reported by nothing; the next pass finds it so (R109). -/
theorem test_key_held_through_the_start_is_silent :
    let s := on State.reset
    let t := after (.scanPassEnd (BitVec.twoPow 144 16))
      { s with kbs := { s.kbs with passRunning := true, freshStart := true } }
    t.kbs.keys[(16 : Position)] = silentKey .latent ∧ t.kbs.freshStart = false ∧ t.rpm.keys = [] := by decide +kernel

theorem witness_StepRunsTheFrontCommand :
    { State.reset with pending := [Instr.fanEvaluation] }.pending = [Instr.fanEvaluation] ∧
      State.reset.pending = [] := by decide +kernel

theorem witness_OnlyPowerOnTouchesUptimeAndStraps :
    (∃ t, exec .fanEvaluation State.reset = .next t) ∧
      ∃ t, exec (.powerOnReset resetStraps resetInputs) State.reset = .next t := ⟨⟨_, rfl⟩, ⟨_, rfl⟩⟩

/-- A restart reply that is being sent, a break that discards it, and board readings at both ends of the good range. -/
theorem witness_ControllerRestartKeepsAndResets :
    let o : Outgoing := ⟨⟨0x84, [0]⟩, true⟩
    let s := { State.reset with
      lkp := { freshLink with replies := [o], service := .restart }
      inputs := { resetInputs with board0 := -300, board1 := 999 }
      flt := State.reset.flt.set .fanStall { clearFault false with status := true, count := 1 } }
    (s.lkp.replies = o :: [] ∧ o.restarts = true) ∧ s.lkp.service = .restart ∧
      { s with lkp := { s.lkp with service := .finished o } }.lkp.service = .finished o ∧ (s.flt.get .fanStall).status = true ∧
      ([s.inputs.board0, s.inputs.board1, s.inputs.board2, s.inputs.board3].all fun b =>
        decide (-300 ≤ b) && decide (b < 1000)) = true := by decide +kernel

/-- A state with a command in front that every invariant's statement applies to. -/
def waiting : State := { State.reset with pending := [.framingError, .fanEvaluation] }

/-- The hypotheses of the nine statements "every step keeps it", with `witness_invariants_step`:
RailOutputsFollowTheirTable, FaultTableStaysSound, ReportMemoryStaysSound, PendingWakeSourcesHaveStatus,
ChargeTargetsFlowOnlyWhileCharging, FanDutyFollowsTheState, ReportedDownSetStaysBounded,
BudgetStaysTheComputationOfItsInputs, RsocSwitchesAndOutputsStayDerived. -/
theorem witness_Invariants :
    railsOk waiting.psq = true ∧ faultsOk waiting.flt = true ∧ memoryOk waiting.rpm = true ∧
      wakeTableOk waiting.lwu = true ∧ (chargeOk waiting .a = true ∧ chargeOk waiting .b = true) ∧
      (dutyOk waiting .fan0 = true ∧ dutyOk waiting .fan1 = true) ∧ keyboardOk waiting = true ∧
      budgetOk waiting = true ∧ waiting.pks.rsoc = rsocShare waiting.pks.record.a waiting.pks.record.b ∧
      switchesOk waiting = true ∧ outputsOk waiting = true := by decide +kernel

/-- Also the hypothesis of BusNeverIdlesOverDueWork. -/
theorem witness_invariants_step : ∃ t, step waiting = .next t := ⟨_, rfl⟩

/-- The hypothesis of PingEchoesItsPayload, LinkStartRestartAndStatusAreServed, AttnLevelSetJudgesAttn and every statement
about a request that is served at once. -/
theorem witness_quiet : quiet State.reset = true ∧ quiet (free State.reset) = true ∧ quiet (on State.reset) = true := by
  decide +kernel

/-- A link in RUN; areas that are empty, and areas that touch at unit 32 and end at unit 64. -/
theorem witness_LinkSetupLaysOutTheQueues :
    let s := State.reset
    ({ s with lkp := { s.lkp with run := true } }).lkp.run = true ∧ s.lkp.run = false ∧
      ¬((0 : Byte).toNat < (0 : Byte).toNat ∧ (32 : Byte).toNat < (64 : Byte).toNat ∧ (0 : Byte).toNat ≤ 64 ∧
        (64 : Byte).toNat ≤ 64 ∧ ((0 : Byte).toNat ≤ (32 : Byte).toNat ∨ (64 : Byte).toNat ≤ (0 : Byte).toNat)) ∧
      (0 : Byte).toNat < (32 : Byte).toNat ∧ (32 : Byte).toNat < (64 : Byte).toNat ∧ (32 : Byte).toNat ≤ 64 ∧
      (64 : Byte).toNat ≤ 64 ∧ (32 : Byte).toNat ≤ (32 : Byte).toNat ∧ s.rpm.corrected < max 1 (1 : Byte).toNat := by
  decide +kernel

/-- A corrected counter at the new limit, with the detection masked and not, and status clear. -/
theorem witness_LinkSetupLaysOutTheQueues_reached :
    let s := { State.reset with rpm := { State.reset.rpm with corrected := 16 } }
    quiet s = true ∧ s.lkp.run = false ∧ max 1 (16 : Byte).toNat ≤ s.rpm.corrected ∧
      (s.flt.get .ramCorrectedLimit).masked = true ∧ (s.flt.get .ramCorrectedLimit).status = false ∧
      (clearFault false).masked = false ∧ (clearFault false).status = false := by decide +kernel

/-- A key event in the KEY queue, with its words checked so. -/
def storedKey (w0 w1 : WordCheck) : StoredKey :=
  ⟨⟨0x11, .press, false, false, false, 16, 0, 5⟩, w0, w1⟩

/-- The KEY queue holds these entries. -/
def withKeys (ks : List StoredKey) : State := { State.reset with rpm := { freshMemory with keys := ks, attnLow := true } }

theorem witness_QueueReadDeliversTheOldest :
    (6 : Byte) ≠ 0 ∧ (6 : Byte).toNat ≤ 6 ∧ ((withKeys [storedKey .good .good]).rpm.keys.all soundKey) = true ∧
      (smallQueue.rpm.notices.all soundNotice) = true ∧ quiet (withKeys [storedKey .good .double]) = true ∧
      quiet smallQueue = true ∧
      (withKeys [storedKey .good .double]).rpm.keys = [storedKey .good .double] ∧
      (freshMemory.corrected < freshMemory.correctedLimit ∧ 15 + singles [.good, .single] = freshMemory.correctedLimit ∧
        15 + singles [.single, .single] < 2 * freshMemory.correctedLimit) ∧
      spoilt [(storedKey .good .double).w0, (storedKey .good .double).w1] = true ∧
      spoilt [.good, .single, .good, .good] = false := by decide +kernel

/-- An only notice with a word in error, and the two kinds with no notice to raise. -/
theorem witness_QueueReadDeliversTheOldest_notice :
    let f : StoredNotice := { freshEntry (.fan .fan0 0) 1 with w3 := .single }
    let s : State :=
      { State.reset with
        rpm := { freshMemory with notices := [f], corrected := 15 }
        flt := State.reset.flt.set .ramUncorrectable { clearFault false with masked := true } }
    quiet s = true ∧ (3 : Byte).toNat ≤ 3 ∧ s.rpm.notices = [f] ∧ (s.flt.get .ramCorrectedLimit).masked = true ∧
      (s.flt.get .ramUncorrectable).masked = true ∧
      15 + singles [f.w0, f.w1, f.w2, f.w3] = s.rpm.correctedLimit := by decide +kernel

/-- A button release in ON, which raises POWER_BUTTON, with a NOTICE queue of four entries. -/
def releasing (q : List Notice) : State :=
  let s := on State.reset
  { s with
    rpm := { freshMemory with noticeArea := ⟨32, 33⟩, notices := q.map fun n => freshEntry n 1 }
    psq := { s.psq with buttonTimer := some 1, pressed := true, pressInOn := true }
    flt := s.flt.set .reportOverflow { clearFault false with masked := true } }

/-- A queue with POWER_BUTTON, one with room, a full one with entries below level 5, and a full one without. -/
theorem witness_AttnLevelSetJudgesAttn :
    let merging := releasing [.fan .fan0 0, .powerButton 3, .lid true .closed]
    let full := releasing [.lid true .closed, .fan .fan0 0, .fault .railFail 3 5, .overload false none 5]
    let high := releasing [.critical 0 false 3 3, .supplyStale 4 3, .overload false none 5, .fault .railFail 3 5]
    let before := full.rpm.notices.take 1
    let rest := full.rpm.notices.drop 2
    let lowest := freshEntry (.fan .fan0 0) 1
    (busSettled full = true ∧ full.psq.state = .on ∧ full.psq.buttonTimer.isSome = true ∧
      full.inputs.button = false ∧ full.psq.pressed = true ∧ full.psq.pressInOn = true ∧
      full.psq.overrideFired = false ∧ (full.flt.get .reportOverflow).masked = true) ∧
    (merging.rpm.notices =
        [freshEntry (.fan .fan0 0) 1] ++ freshEntry (.powerButton 3) 1 :: [freshEntry (.lid true .closed) 1] ∧
      (∀ x ∈ [freshEntry (.fan .fan0 0) 1], x.notice.code ≠ (Notice.powerButton 0).code) ∧
      soundNotice (freshEntry (.powerButton 3) 1) = true ∧ merging.rpm.notices.length < noticeCapacity merging.rpm) ∧
    (noticeCapacity full.rpm ≤ full.rpm.notices.length ∧
      (∀ x ∈ full.rpm.notices, x.notice.code ≠ (Notice.powerButton 0).code) ∧
      full.rpm.notices = before ++ lowest :: rest ∧ (∀ x ∈ before, lowest.notice.level < x.notice.level) ∧
      (∀ x ∈ rest, lowest.notice.level ≤ x.notice.level) ∧ lowest.notice.level < 5) ∧
    (noticeCapacity high.rpm ≤ high.rpm.notices.length ∧
      (∀ x ∈ high.rpm.notices, x.notice.code ≠ (Notice.powerButton 0).code) ∧
      (∀ x ∈ high.rpm.notices, 5 ≤ x.notice.level)) := by decide +kernel

theorem witness_BadLengthAndUnknownTypeChangeNothing :
    requestOf (.ping (List.replicate 56 0)) = some (0x01, List.replicate 56 0) ∧
      (Instr.ping (List.replicate 56 0)).wellFormed = true ∧ lengthAllowed 0x01 (List.replicate 56 0) = false ∧
      requestOf (.unknownType 0x7F []) = some (0x7F, []) ∧ (Instr.unknownType 0x7F []).wellFormed = true ∧
      requestTypes.contains 0x7F = false := by decide +kernel

/-- A PACK_READ in the service slot. -/
def busy : State := { State.reset with lkp := { freshLink with service := .passthrough 0x22 false } }

theorem witness_BusyRequestIsNotExecuted :
    requestOf (.ping []) = some (0x01, []) ∧ serviceFree busy = false ∧ assemblyWaits busy = false ∧
      repliesFull busy = false ∧ busSettled busy = true := by decide +kernel

/-- The link with an error count. -/
def errors (n : Nat) : State := { State.reset with lkp := { freshLink with errors := n } }

/-- A frame that waits for room behind two frames. -/
def choked : State :=
  { State.reset with
    lkp := { freshLink with
      assembly := .waiting ⟨0x81, [2]⟩, replies := [⟨⟨0x81, [0]⟩, false⟩, ⟨⟨0x82, [0]⟩, false⟩] } }

theorem witness_LinkErrorsAreCountedAndDetected :
    busSettled State.reset = true ∧ ((errors 0).lkp.errors + 1) % 64 ≠ 0 ∧ (errors 65534).lkp.errors < 65535 ∧
      ((errors 65534).lkp.errors + 1) % 64 ≠ 0 ∧ ((errors 63).lkp.errors + 1) % 64 = 0 ∧
      ((errors 65471).lkp.errors + 1) % 64 = 0 ∧ (errors 65535).lkp.errors = 65535 ∧
      (errors 65535).lkp.assembly = .hunt ∧ assemblyWaits (errors 0) = false ∧ assemblyWaits choked = true ∧
      partialFrame [0x5A, 0x01, 56] = true ∧ (0x5B : Byte) ≠ 0x5A ∧ busSettled choked = true := by decide +kernel

/-- The sixty-fourth error, in HUNT, with room for its LINK_FAULT frame, and while a frame waits. -/
theorem witness_LinkErrorsAreCountedAndDetected_at_64 :
    let s := errors 63
    let t := { choked with lkp := { choked.lkp with errors := 65471 } }
    busSettled s = true ∧ busSettled t = true ∧ s.lkp.assembly = .hunt ∧ assemblyWaits s = false ∧
      repliesFull s = false ∧ assemblyWaits t = true ∧ t.lkp.errors < 65535 ∧ (t.lkp.errors + 1) % 64 = 0 := by
  decide +kernel

theorem witness_FaultyFrameMakesLinkFault :
    busSettled State.reset = true ∧ assemblyWaits State.reset = false ∧ repliesFull State.reset = false ∧
      State.reset.lkp.errors < 65535 ∧ (State.reset.lkp.errors + 1) % 64 ≠ 0 := by decide +kernel

theorem witness_SentFramesAndBreaksFreeTheLink :
    let o : Outgoing := ⟨⟨0x81, [0]⟩, false⟩
    let f : Outgoing := ⟨⟨0xA2, [0]⟩, false⟩
    let s := { State.reset with lkp := { freshLink with replies := [o, o], service := .finished f } }
    (s.lkp.replies = o :: [o] ∧ o.restarts = false ∧ [o].length < 2 ∧ s.lkp.service = .finished f ∧
      f.restarts = false ∧ busSettled s = true) ∧
    (choked.lkp.assembly = .waiting ⟨0x81, [2]⟩ ∧ choked.lkp.service = .empty ∧ busSettled choked = true) ∧
    State.reset.lkp.replies = [] ∧ restartPending State.reset = false := by decide +kernel

/-- A barrel record that is present and valid but not settled, with a given power. -/
def barrelAt (settle power : Nat) (s : State) : State :=
  { s with
    srs := { s.srs with
      barrel := { absentSource true false with
        present := true, valid := true, voltage := 20000, current := power / 20, power, cls := .w45, settle } } }

theorem witness_BarrelDetectionReadsTheContract :
    let s := State.reset
    let t := { barrelAt 499 45000 s with inputs := { resetInputs with barrelDetect := true } }
    (busSettled s = true ∧ s.srs.barrel.populated = true ∧ s.srs.active ≠ some .barrel ∧
      s.srs.barrel.settled = false ∧ s.inputs.barrelDetect = false ∧ s.srs.barrel.present = false) ∧
    (busSettled t = true ∧ t.srs.barrel.populated = true ∧ t.srs.active ≠ some .barrel ∧
      t.srs.barrel.settled = false ∧ t.inputs.barrelDetect = true ∧ t.srs.barrel.present = true) := by decide +kernel

/-- The clauses on a barrel that is in use: its loss, and a lesser contract that gives way to PORT1. -/
theorem witness_BarrelDetectionReadsTheContract_in_use :
    let s := { State.reset with srs := twoSources 3000, inputs := { resetInputs with barrelDetect := true } }
    busSettled s = true ∧ s.srs.barrel.populated = true ∧ s.srs.barrel.present = true ∧
      s.inputs.barrelDetect = true ∧ s.srs.active = some .barrel ∧
      outcome { s.srs with barrel := { s.srs.barrel with power := 45000 } } = some .port1 ∧
      outcome { s.srs with barrel := { s.srs.barrel with present := false, settled := false } } = some .port1 := by
  decide +kernel

/-- PORT1 present; pack A's waits running. -/
def scheduled : State :=
  { State.reset with
    srs := { State.reset.srs with port1 := { absentSource true false with present := true, valid := true } }
    pks := { State.reset.pks with schedule := ⟨⟨false, false, some 1, some 1⟩, idleSchedule⟩ } }

theorem witness_ReadsFallDueAndBegin :
    (scheduled.pbc.running.isSome = true ∧ (scheduled.srs.get PortId.port1.source).present = true ∧
      (scheduled.pks.schedule.get .a).identLeft.isSome = true ∧
      (scheduled.pks.schedule.get .a).pollLeft.isSome = true) ∧
    (busSettled State.reset = true ∧ (State.reset.srs.get PortId.port2.source).present = false ∧
      (State.reset.pks.schedule.get .b).identLeft = none ∧ (State.reset.pks.schedule.get .b).pollLeft = none) ∧
    (busSettled (free State.reset) = true ∧ (free State.reset).pbc.running = none ∧
      (free State.reset).inputs.busLineHigh = true) := by decide +kernel

/-- The barrel in use. -/
def inUse (s : State) : State :=
  { s with
    srs := { s.srs with
      barrel := { absentSource true false with
        present := true, valid := true, settled := true, settle := 500, voltage := 20000, current := 3250
        power := 65000, cls := .w65 }
      active := some .barrel } }

theorem witness_SettlingAndSwitchingExpire :
    let new (p : Nat) : SourceRecord := { (barrelAt 499 p State.reset).srs.barrel with settle := 500, settled := true }
    eligible (new 7499) = false ∧ eligible (new 7500) = true ∧ busSettled (barrelAt 499 7500 State.reset) = true ∧
      (State.reset.srs.barrel.present && State.reset.srs.barrel.valid && !State.reset.srs.barrel.settled) = false ∧
      { (inUse State.reset).srs with switching := true }.switching = true ∧
      outcome { (inUse State.reset).srs with switching := false, switchLeft := 0 } = some .barrel ∧
      outcome { twoSources 5000 with switching := false, switchLeft := 0 } ≠ (twoSources 5000).active ∧
      State.reset.srs.switching = false ∧ State.reset.srs.switchReplaced = false ∧
      { State.reset.srs with switchReplaced := true }.switchReplaced = true := by decide +kernel

/-- A pin, an ineligible pin, 109.9 % and 110 %, and no eligible source. -/
theorem witness_SelectionFollowsPinStayBest :
    (let x := { twoSources 3000 with pin := some .port1 }
     x.pin = some .port1 ∧ eligible (x.get .port1) = true) ∧
    eligible (({ twoSources 3000 with pin := some .port2 }).get .port2) = false ∧
    (let x := twoSources 3574
     x.active = some .barrel ∧ eligible (x.get .barrel) = true ∧
      (x.get .port1).power * 100 < (x.get .barrel).power * 110) ∧
    (let x := twoSources 3575
     (x.get .barrel).power * 110 ≤ (x.get .port1).power * 100) ∧
    (eligible State.reset.srs.barrel = false ∧ eligible State.reset.srs.port1 = false ∧
      eligible State.reset.srs.port2 = false) := by decide +kernel

theorem witness_isBest : isBest (twoSources 3575) .port1 ∧ isBest (twoSources 3250) .barrel := by
  refine ⟨⟨by decide +kernel, ?_⟩, ⟨by decide +kernel, ?_⟩⟩ <;> intro j <;> cases j <;> decide +kernel

theorem witness_PSysSampleIsJudgedForOverload :
    busSettled (inUse State.reset) = true ∧ (inUse State.reset).srs.active ≠ none ∧
      (inUse State.reset).srs.switching = false ∧
      decide (pInMax (inUse State.reset).srs < min 200000 61751) ≠ (inUse State.reset).srs.overload ∧
      decide (pInMax (inUse State.reset).srs < min 200000 61750) = (inUse State.reset).srs.overload := by
  decide +kernel

theorem witness_SourcePolicyIsRefusedOrTaken :
    (3 < (4 : Byte).toNat ∧ 7 < (8 : Byte).toNat) ∧
      ((3 : Byte).toNat ≤ 3 ∧ (7 : Byte).toNat ≤ 7 ∧
        outcome { State.reset.srs with pin := some .port2, margin := 20 } = none ∧
        (State.reset.pks.record.a.switchOn || State.reset.pks.record.b.switchOn) = false) ∧
      (quiet (inUse State.reset) = true ∧ outcome (inUse State.reset).srs ≠ none ∧
        outcome (inUse State.reset).srs = (inUse State.reset).srs.active) ∧
      (quiet (withPack (readyPack 12600) State.reset) = true ∧
        ((withPack (readyPack 12600) State.reset).pks.record.a.switchOn = true)) := by decide +kernel

theorem witness_PowerRecordsAreReadOrCopied :
    let s := { State.reset with
      pks := { State.reset.pks with
        snapshot := some ⟨State.reset.pks.record, State.reset.chc.budget, 0, 0⟩ } }
    quiet s = true ∧ (s.pks.record.get .b).populated = true ∧ s.pks.snapshot.isSome = true ∧ (7 : Byte).toNat ≤ 7 ∧
      (1 : Byte).toNat ≤ 1 ∧ State.reset.pks.snapshot = none := by decide +kernel

theorem witness_PlatformRecordsAreReadWithoutEffect :
    (143 : Byte).toNat < (if State.reset.straps.columns18 then 144 else 128) ∧ (255 : Byte) ≠ 0 ∧
      (19 : Byte).toNat ≤ 19 := by decide +kernel

/-- A transaction of pack A's poller. -/
def pollerRead (second recovering : Bool) : Transaction :=
  ⟨.packA, false, .readWord 0x28, second, recovering, 25, false⟩

theorem witness_BusAttemptsRepeatAndRecover :
    let s (r : Bool) (n : Nat) : State :=
      { onBus (pollerRead false r) none State.reset with
        pbc := { (onBus (pollerRead false r) none State.reset).pbc with recoveryFails := n } }
    ((s false 0).pbc.running = some (pollerRead false false) ∧ (pollerRead false false).second = false ∧
      (pollerRead false false).recovering = false) ∧
    ((s true 1).pbc.running = some (pollerRead false true) ∧ (pollerRead false true).recovering = true ∧
      (s true 1).pbc.recoveryFails = 1 ∧ (s true 0).pbc.recoveryFails = 0 ∧
      ((s true 0).flt.get .busStuck).active = false ∧
      (({ s true 0 with
        flt := State.reset.flt.set .busStuck { clearFault false with active := true } }).flt.get .busStuck).active =
        true) := by decide +kernel

/-- The recovery of a passthrough's second attempt. -/
theorem witness_BusAttemptsRepeatAndRecover_second :
    let x : Transaction := ⟨.packA, true, .readBlock 0x24 2, true, true, 0, false⟩
    let q : Passthrough := ⟨.packA, .readBlock 0x24 2, false, true, false⟩
    let s := { State.reset with
      pbc := { State.reset.pbc with running := some x, turn := none, slot := some q }
      lkp := { freshLink with service := .passthrough 0x22 false } }
    s.pbc.running = some x ∧ x.second = true ∧ x.recovering = true ∧ x.passthrough = true ∧ s.pbc.slot = some q ∧
      q.packGone = false ∧ s.lkp.service = .passthrough 0x22 false ∧ repliesFull s = false := by decide +kernel

theorem witness_PassthroughEntersItsSlot :
    let s := withPack (readyPack 12600) State.reset
    linkIdle s = true ∧ s.pbc.running.isSome = true ∧ s.pks.record.a.state ≠ .absent ∧
      s.pks.record.b.state = .absent ∧ (33 : Byte) ≠ 0 ∧ 1 ≤ (List.replicate 32 (0 : Byte)).length ∧
      (List.replicate 32 (0 : Byte)).length ≤ 32 ∧ 3 < (4 : Byte).toNat := by decide +kernel

/-- A passthrough on the bus. -/
def passing (op : BusOp) (second : Bool) : State :=
  let x : Transaction := ⟨.packA, true, op, second, false, 25, false⟩
  let s := free busy
  { s with pbc := { s.pbc with running := some x, slot := some ⟨.packA, op, false, true, false⟩ } }

theorem witness_BusOutcomesReachTheirRequester :
    let s := passing (.readBlock 0x24 2) true
    (s.pbc.running = some ⟨.packA, true, .readBlock 0x24 2, true, false, 25, false⟩ ∧
      s.pbc.slot = some ⟨.packA, .readBlock 0x24 2, false, true, false⟩ ∧
      s.lkp.service = .passthrough 0x22 false ∧ repliesFull s = false ∧ s.pbc.turn = none ∧
      (pollerDue s .packA = false ∧ pollerDue s .packB = false ∧ pollerDue s .port1 = false ∧
        pollerDue s .port2 = false) ∧ [(1 : Byte), 2].length = 2) ∧
    (passing (.writeBlock 0x24 [1]) false).pbc.running =
      some ⟨.packA, true, .writeBlock 0x24 [1], false, false, 25, false⟩ ∧
    (State.reset.pbc.running = some ⟨.port1, false, .readBlock 0x40 5, false, false, 25, false⟩ ∧
      State.reset.pbc.turn = some ⟨.port1, .contract, [], []⟩ ∧ (State.reset.srs.get .port1).settled = false ∧
      State.reset.srs.active ≠ some .port1 ∧ [(1 : Byte), 100, 0, 44, 1].length = 5 ∧
      50 * le16At [1, 100, 0, 44, 1] 1 = 5000 ∧ 50 * le16At [1, 0x90, 1, 44, 1] 1 = 20000) := by decide +kernel

/-- A port that is in use and settled, with its contract block on the bus, as its power falls behind the barrel's. -/
theorem witness_BusOutcomesReachTheirRequester_in_use :
    let s := { State.reset with srs := { twoSources 5000 with active := some .port1 } }
    let new : SourceRecord := { s.srs.port1 with current := 3000, power := 60000, cls := .none }
    s.pbc.running = some ⟨PortId.port1.device, false, .readBlock 0x40 5, false, false, 25, false⟩ ∧
      s.pbc.turn = some ⟨.port1, .contract, [], []⟩ ∧ [(1 : Byte), 144, 1, 44, 1].length = 5 ∧
      50 * le16At [1, 144, 1, 44, 1] 1 = 20000 ∧ min 5000 (10 * le16At [1, 144, 1, 44, 1] 3) = 3000 ∧
      (s.srs.get PortId.port1.source).settled = true ∧ s.srs.active = some PortId.port1.source ∧
      eligible new = true ∧ (s.srs.get .port1).power ≠ new.power ∧ outcome (s.srs.set .port1 new) = some .port1 ∧
      outcome (s.srs.set .port1 { new with current := 2950, power := 59000 }) = some .barrel := by decide +kernel

theorem witness_PresenceBeginsAndEndsAPack :
    (State.reset.pbc.running.isSome = true ∧ (State.reset.pks.record.get .a).populated = true ∧
      (State.reset.pks.record.get .a).present = false) ∧
    ((withPack (readyPack 12600) State.reset).pbc.running.isSome = true ∧
      ((withPack (readyPack 12600) State.reset).pks.record.get .a).populated = true ∧
      ((withPack (readyPack 12600) State.reset).pks.record.get .a).present = true) ∧
    ((withPack (absentPack false) State.reset).pks.record.get .a).populated = false := by decide +kernel

/-- Pack A with a passthrough in its slot, beside a poller's attempt (`runs` false) or on the bus itself. -/
def slotted (runs gone : Bool) : State :=
  let op : BusOp := .readBlock 0x26 2
  let s := withPack { readyPack 12600 with switchWritten := true } State.reset
  { s with
    pks := { s.pks with schedule := ⟨idleSchedule, idleSchedule⟩ }
    pbc :=
      { State.reset.pbc with
        running := some ⟨if runs then .packA else .port1, runs, op, true, false, 25, false⟩
        slot := some ⟨.packA, op, false, runs, gone⟩, turn := none, portDue := ⟨false, false⟩ }
    lkp := { s.lkp with service := .passthrough 0x22 false } }

/-- A passthrough to the pack that is removed, waiting and running, and its outcome after the removal. -/
theorem witness_PresenceBeginsAndEndsAPack_passthrough :
    ((slotted false false).pbc.running.isSome = true ∧ ((slotted false false).pks.record.get .a).populated = true ∧
      ((slotted false false).pks.record.get .a).present = true ∧ repliesFull (slotted false false) = false) ∧
    (slotted false false).pbc.slot = some ⟨PackId.a.device, .readBlock 0x26 2, false, false, false⟩ ∧
    (slotted true false).pbc.slot = some ⟨PackId.a.device, .readBlock 0x26 2, false, true, false⟩ ∧
    (slotted true true).pbc.slot = some ⟨PackId.a.device, .readBlock 0x26 2, false, true, true⟩ ∧
    (slotted true true).pbc.running = some ⟨.packA, true, .readBlock 0x26 2, true, false, 25, false⟩ ∧
    (slotted true true).pbc.turn = none ∧ ([.packA, .packB, .port1, .port2].all fun d =>
      !pollerDue (slotted true true) d) = true ∧ fits (.readBlock 0x26 2) [1, 2] = true := by decide +kernel

/-- A passthrough that waits is answered NOT_PRESENT as its pack is removed (R35). -/
theorem test_removal_answers_a_waiting_passthrough :
    (after (.packPresenceChange .a false) (slotted false false)).lkp.replies = [⟨⟨0xA2, [7]⟩, false⟩] := by
  decide +kernel

/-- The last word of pack A's poll on the bus, after `n` failed polls in a row. -/
def lastWord (second : Bool) (n : Nat) : State :=
  onBus (pollerRead second false) (some ⟨.packA, .poll, [], [1, 2, 3, 4, 5, 6, 7, 8]⟩)
    (withPack { readyPack 12600 with failRun := n } State.reset)

theorem witness_PollsUpdateOrFaultThePack :
    (lastWord true 2).pbc.running = some (pollerRead true false) ∧ (pollerRead true false).passthrough = false ∧
      (pollerRead true false).abandoned = false ∧ (pollerRead true false).device = PackId.a.device ∧
      (pollerRead true false).op = .readWord 0x28 ∧
      (lastWord true 2).pbc.turn = some ⟨PackId.a.device, .poll, [], [1, 2, 3, 4, 5, 6, 7, 8]⟩ ∧
      ((lastWord true 1).pks.record.get .a).failRun < 2 ∧ ((lastWord true 2).pks.record.get .a).failRun = 2 ∧
      ((lastWord true 2).pks.record.get .a).causes.comm = false := by decide +kernel

/-- The last word of a poll, of an identification, and a discharge-switch write, each on the bus. -/
theorem witness_PollsUpdateOrFaultThePack_on_bus :
    lastWordOnBus .a .poll (pollerRead true false) [1, 2, 3, 4, 5, 6, 7, 8] (lastWord true 2) ∧
      lastWordOnBus .a .identification (pollerRead true false) [1, 2, 3, 4, 5, 6, 7, 8, 9, 10]
        (onBus (pollerRead true false) (some ⟨.packA, .identification, [], [1, 2, 3, 4, 5, 6, 7, 8, 9, 10]⟩)
          (lastWord true 2)) ∧
      packOnBus .a { pollerRead true false with op := .writeWord 0x2B 1 } (.writeWord 0x2B 1)
        (onBus { pollerRead true false with op := .writeWord 0x2B 1 } (some ⟨.packA, .poll, [], []⟩) (lastWord true 2)) := by
  unfold lastWordOnBus packOnBus
  decide +kernel

/-- One CC stage of nine bytes, and one with a stage code above 7. -/
def ccBytes : List Byte := [0, 208, 7, 160, 65, 192, 68, 0, 0]

theorem witness_ProfileRequestsReplaceTheStages :
    (State.reset.pks.record.get .a).populated = true ∧
      stagesAt (0 :: ccBytes) 1 1 = some [⟨.cc, 2000, 16800, 17600, 0, false⟩] ∧
      (stagesAt (0 :: (List.replicate 6 ccBytes).flatten) 1 6).isSome = true ∧
      ((List.replicate 6 ccBytes).flatten).length = 9 * 6 ∧ stagesAt (0 :: 8 :: ccBytes.drop 1) 1 1 = none ∧
      stageAt (0 :: ccBytes) 1 = some ⟨.cc, 2000, 16800, 17600, 0, false⟩ ∧
      8 ≤ (absentContext (List.replicate 8 defaultStage)).stages.length ∧
      (absentContext (List.replicate 7 defaultStage)).stages.length < 8 ∧
      quiet (withContext (absentContext (List.replicate 8 defaultStage)) State.reset) = true := by decide +kernel

theorem witness_ChargePolicyIsTakenWhole :
    2 < (3 : Byte).toNat ∧ (2 : Byte).toNat ≤ 2 ∧
      quiet (withContext (chargingContext 2000) State.reset) = true ∧
      ((withContext (chargingContext 2000) State.reset).chc.context.get .a).state ≠ .absent := by decide +kernel

theorem witness_StageTimersEndOrFaultTheStage :
    let rest := { absentContext [⟨.rest, 0, 6000, 5, 4, false⟩] with state := .charging }
    let limit (fault : Bool) : ChargeContext :=
      { absentContext [⟨.cc, 2000, 16800, 17600, 10, fault⟩] with state := .charging, targetCurrent := 25 }
    busSettled (withContext rest State.reset) = true ∧ rest.state = .charging ∧
      (rest.stages.getD rest.pointer defaultStage).mode = .rest ∧
      ((rest.stages.getD rest.pointer defaultStage).limit < (rest.stages.getD rest.pointer defaultStage).endValue) ∧
      busSettled (withContext (limit true) State.reset) = true ∧
      ((limit true).stages.getD (limit true).pointer defaultStage).faultOnLimit = true ∧
      ((limit false).stages.getD (limit false).pointer defaultStage).faultOnLimit = false ∧
      0 < ((limit true).stages.getD (limit true).pointer defaultStage).limit ∧ 0 < (limit true).targetCurrent ∧
      ¬(State.reset.chc.context.a.state = .charging) := by decide +kernel

/-- A pack with a poll's last word on the bus that charges, and one whose complete profile starts again. -/
theorem witness_StageTimersEndOrFaultTheStage_polled :
    let words : List Word16 := [0, 0, 2982, 50, 0, 0, 0, 0]
    let s := onBus (pollerRead false false) (some ⟨.packA, .poll, [], words⟩)
      (withContext (chargingContext 2000) (withPack (readyPack 12600) (inUse State.reset)))
    let r := s.pks.record.get .a
    let c := s.chc.context.get .a
    (lastWordOnBus .a .poll (pollerRead false false) words s ∧ r.state = .ready ∧ r.causes = ⟨false, false, false⟩ ∧
      (words.getD 6 0).getLsbD 2 = false ∧ (words.getD 6 0).getLsbD 3 = false ∧ (words.getD 6 0).getLsbD 4 = false ∧
      2732 ≤ (words.getD 2 0).toNat ∧ (words.getD 2 0).toNat ≤ 3182 ∧ s.srs.active.isSome = true ∧
      s.srs.switching = false ∧ s.thu.derate ≠ 0 ∧ s.flt.level = .none ∧ channelFault s.inputs .a = false ∧
      c.timeoutLatch = false ∧ c.completeLatch = false ∧ c.heldLatch = false ∧ 50 < s.chc.policy.limit) ∧
    ({ c with completeLatch := true }.completeLatch = true ∧ State.reset.srs.active = none ∧
      50 ≤ s.chc.policy.recharge) := by
  unfold lastWordOnBus packOnBus
  decide +kernel

/-- A poll whose alarm wakes the platform from OFF and so releases a containment: the poll was taken with a target of 0,
and the taper run of its CV stage stays as it was (R49). -/
theorem test_taper_run_keeps_its_count_where_a_poll_releases_containment :
    let words : List Word16 := [0, 0, 2982, 50, 0, 0, 2, 1000]
    let c := { absentContext [⟨.cv, 2000, 16800, 100, 0, false⟩] with state := .paused, taperRun := 1 }
    let s := onBus (pollerRead false false) (some ⟨.packA, .poll, [], words⟩)
      (withContext c (withPack (readyPack 12600) (inUse State.reset)))
    let s' : State :=
      { s with
        flt := { s.flt with level := .stopCharge }
        lwu := s.lwu.set .packAlarm { s.lwu.get .packAlarm with offEnable := true } }
    let t := after (.busAttemptEnd (.acked [0, 0]) true) s'
    t.psq.state = .starting ∧ t.flt.level = .none ∧ (t.chc.context.get .a).state = .charging ∧
      0 < (t.chc.context.get .a).targetCurrent ∧ (t.chc.context.get .a).taperRun = 1 := by decide +kernel

/-- Pack A charges from the barrel. -/
def charging : State :=
  withContext { chargingContext 2000 with targetCurrent := 2000, targetVoltage := 16800 }
    (withPack (readyPack 12600) (inUse State.reset))

theorem witness_ChannelFaultStopsCharging :
    busSettled charging = true ∧ channelFault charging.inputs .a = false ∧ chargeOk charging .a = true ∧
      chargeOk charging .b = true ∧ 0 < (charging.chc.context.get .a).targetCurrent ∧
      (charging.chc.context.get .b).targetCurrent = 0 ∧ channelFault charging.inputs .b = false ∧
      channelFault { charging.inputs with channelFaultA := true } .a = true := by decide +kernel

/-- The eligible packs, needs that fit, and a derate factor at 100. -/
theorem witness_BudgetIsSharedOutAndNeverExceeded :
    (computeBudget charging).packs.a.eligible = true ∧
      (computeBudget charging).packs.a.need + (computeBudget charging).packs.b.need ≤ (computeBudget charging).pBudget ∧
      charging.thu.derate ≤ 100 ∧ (computeBudget State.reset).active = none ∧
      (computeBudget (twoPacks .balanced)).packs.b.eligible = true := by decide +kernel

theorem witness_BoardConversionReadsAndTrips :
    let s := State.reset
    busSettled s = true ∧ s.thu.trip = false ∧ s.thu.settings.trip ≤ 1000 ∧
      s.thu.sensors[0].substitute = false ∧ (decide (-300 ≤ (1301 : Int)) && decide ((1301 : Int) ≤ 1300)) = false ∧
      (699 : Int) < min s.thu.settings.trip s.thu.settings.wake ∧
      tripHolds { s.thu with sensors := (after (.boardConversion 699 699 699 (-300)) s).thu.sensors } = false := by
  decide +kernel

theorem witness_SuppliedSensorsAreFreshOrStale :
    let s := on State.reset
    quiet s = true ∧ s.thu.trip = false ∧ tripHolds s.thu = false ∧
      max (-400) (min 1500 ((0x03 : Byte) ++ (0xE7 : Byte)).toInt) < s.thu.settings.trip ∧
      ((0x80 : Byte) ++ (0x00 : Byte)).toInt = -32768 ∧ s.psq.state = .on ∧
      s.thu.sensors[SupplyId.sup0.sensor].stale = false ∧ s.thu.settings.staleSubstitute < s.thu.settings.trip ∧
      State.reset.psq.state ≠ .on := by decide +kernel

/-- The default settings as a payload; a table whose thresholds do not rise is refused. -/
theorem witness_ThermalConfigIsRefusedOrTaken :
    let p := thermalBytes State.reset.thu
    let q := p.take 14 ++ [0, 0, 75] ++ p.drop 17
    p.length = 23 ∧ q.length = 23 ∧ signed16At p 11 < signed16At p 14 ∧ signed16At p 14 < signed16At p 17 ∧
      signed16At p 17 < signed16At p 20 ∧ byteAt p 16 ≤ byteAt p 13 ∧ byteAt p 19 ≤ byteAt p 16 ∧
      byteAt p 22 ≤ byteAt p 19 ∧ ¬(signed16At q 11 < signed16At q 14) := by decide +kernel

/-- A sound curve and one that is not; a fan in BOOST. -/
theorem witness_FanSettingsAreTaken :
    let sound : List CurvePoint := [⟨-400, 0⟩, ⟨1500, 1000⟩]
    let f := { restingFan true 0x11 with mode := .boost, overrideDuty := 800, overrideLeft := some 60 }
    2 ≤ sound.length ∧ sound.all (fun c => decide (-400 ≤ c.temp ∧ c.temp ≤ 1500 ∧ c.duty ≤ 1000)) = true ∧
      curveSound sound = true ∧ curveSound sound.reverse = false ∧ (0x01 : Byte) ≠ 0 ∧
      (State.reset.fnc.fan.get .fan0).populated = true ∧ (3601 : Nat) < 65536 ∧
      1000 < (0xE9 : Byte).toNat + 256 * (0x03 : Byte).toNat ∧
      (restingFan false 0x25).populated = false ∧ State.reset.psq.state ≠ .on ∧
      (on State.reset).psq.state = .on ∧ f.mode ≠ .auto ∧ f.overrideLeft.isSome = true ∧
      (State.reset.fnc.fan.get .fan1).mode = .auto := by decide +kernel

/-- A driven window at the stall limit and below it, the third in a row, the third of a FAILED fan that turns again, and a
window of a fan at rest. -/
theorem witness_FanEventsFollowTheirRules :
    let f := { restingFan true 0x11 with windowDriven := true, stallRun := 2, duty := 300, applied := 300 }
    let g := { f with failed := true, recoveryRun := 2 }
    busSettled State.reset = true ∧ f.populated = true ∧ f.failed = false ∧
      (f.windowDriven && !f.windowSpin) = true ∧ 300 ≤ 10 * 30 ∧ 9 * 30 < 300 ∧ f.stallRun = 2 ∧
      0 < { f with spinLeft := 1 }.spinLeft ∧ (restingFan false 0x11).populated = false ∧
      g.failed = true ∧ (g.windowDriven && !g.windowSpin) = true ∧ 2 ≤ g.recoveryRun ∧
      ((restingFan true 0x11).windowDriven && !(restingFan true 0x11).windowSpin) = false := by decide +kernel

/-- A pass in ACTIVE mode. -/
def scanning : State := { on State.reset with kbs := { (on State.reset).kbs with passRunning := true } }

theorem witness_KeySettingsAreTaken :
    let total := if State.reset.straps.columns18 then 144 else 128
    total ≤ (144 : Byte).toNat ∧ (144 : Byte) ≠ 255 ∧ (143 : Byte).toNat < total ∧
      (reportedSet State.reset.kbs).length ≤ 2 ∧ (15 : Byte).toNat ≤ 15 ∧ 15 < (16 : Byte).toNat ∧
      ((List.replicate 16 ((1, 2, 15) : Byte × Byte × Byte)).length = 16 ∧ (128 : Byte).toNat + 16 = total ∧
        total < (129 : Byte).toNat + 16 ∧ 128 < (128 : Byte).toNat + 1) ∧
      2 < (reportedSet { State.reset.kbs with
        keys := Vector.ofFn fun p : Position => if p.val < 3 then ⟨.down, 0, 0x10, false, 0⟩ else upKey }).length := by
  decide +kernel

/-- A new scan period of 1 ms that has gone by, with no pass in progress and with one. -/
theorem witness_KeySettingsAreTaken_due :
    let s := { on State.reset with kbs := { (on State.reset).kbs with sinceStart := 1 } }
    quiet s = true ∧ s.kbs.mode = .active ∧ s.kbs.passRunning = false ∧ 1 ≤ s.kbs.sinceStart ∧
      quiet scanning = true ∧ scanning.kbs.passRunning = true := by decide +kernel

theorem witness_ScanPassMovesEachPosition :
    busSettled scanning = true ∧ scanning.kbs.passRunning = true ∧ scanning.kbs.mode = .active ∧
      (on State.reset).kbs.mode ≠ .stopped ∧ (on State.reset).kbs.passRunning = false ∧
      State.reset.kbs.mode = .stopped ∧ scanning.kbs.freshStart = false := by decide +kernel

/-- A key that was pressed in OFF and is held at the first pass after the start. -/
def heldThroughStart : State := { scanning with kbs := { scanning.kbs with freshStart := true } }

theorem witness_ScanPassMovesEachPosition_fresh :
    busSettled heldThroughStart = true ∧ heldThroughStart.kbs.passRunning = true ∧
      heldThroughStart.kbs.mode = .active ∧ heldThroughStart.kbs.freshStart = true ∧
      heldThroughStart.kbs.keys[(16 : Position)].state = .up ∧
      shut heldThroughStart (BitVec.twoPow 144 16) 16 = true := by decide +kernel

/-- WAKE mode, with position 16 one pass short of its press. -/
def wakeScanning : State :=
  { at_ .standby .none State.reset with
    kbs := { State.reset.kbs with
      mode := .wake, passRunning := true
      keys := Vector.ofFn fun p : Position => if p.val = 16 then ⟨.pressWait, 2, 0, false, 0⟩ else upKey } }

/-- A press that is ghost-blocked, and a keyboard wake with its enable on and off. -/
theorem witness_ScanPassMovesEachPosition_wake :
    let samples : Samples := BitVec.twoPow 144 16
    let corners : Samples := BitVec.twoPow 144 16 ||| BitVec.twoPow 144 17 ||| BitVec.twoPow 144 24 ||| BitVec.twoPow 144 25
    keyboardOk wakeScanning = true ∧ wakeScanning.kbs.passRunning = true ∧ wakeScanning.psq.state = .standby ∧
      busSettled wakeScanning = true ∧ pressDone wakeScanning samples 16 ∧
      (wakeScanning.kbs.map[(16 : Position)]).wake = true ∧ ¬ringed wakeScanning samples 16 ∧
      ringed wakeScanning corners 16 ∧
      (State.reset.lwu.set .keyboard ⟨false, false, true, false⟩ |>.get .keyboard).standbyEnable = true ∧
      (State.reset.lwu.set .keyboard ⟨false, false, false, false⟩ |>.get .keyboard).standbyEnable = false := by
  unfold pressDone ringed
  decide +kernel

/-- Position 16 one pass short of its press. -/
def pressing : State :=
  { scanning with
    kbs := { scanning.kbs with
      keys := Vector.ofFn fun p : Position => if p.val = 16 then ⟨.pressWait, 2, 0, false, 0⟩ else upKey } }

theorem witness_PressAndRepeatAreQueued :
    let p : Position := 16
    busSettled pressing = true ∧ pressing.rpm.keys.length < keyCapacity pressing.rpm ∧ pressing.kbs.mode = .active ∧
      pressing.kbs.passRunning = true ∧ pressing.straps.columns18 = true ∧ pressing.kbs.settings.fn = none ∧
      1 ≤ pressing.kbs.map[p].base.toNat ∧ pressing.kbs.map[p].base.toNat ≤ 0xDF ∧
      pressing.kbs.map[p].repeats = true ∧
      pressing.kbs.settings.pressDebounce ≤ pressing.kbs.keys[p].counter + 1 ∧
      pressing.kbs.keys[p].state = .pressWait ∧
      ((List.finRange 144).all fun q => q == p || pressing.kbs.keys[q].state == .up) = true ∧
      0 < pressing.kbs.settings.rollover ∧ State.reset.krp.phase = .idle ∧
      { freshReporter with phase := .delay }.phase ≠ .idle := by decide +kernel

/-- The same press with the KEY queue full and the key-lost counter at its end. -/
def pressingFull : State :=
  { pressing with
    rpm := { freshMemory with keyArea := ⟨0, 1⟩, keys := List.replicate 8 (storedKey .good .good) }
    krp := { freshReporter with keyLost := 65535 } }

theorem witness_PressAndRepeatAreQueued_full :
    busSettled pressingFull = true ∧ ¬(pressingFull.rpm.keys.length < keyCapacity pressingFull.rpm) ∧
      pressingFull.krp.keyLost = 65535 ∧ pressingFull.kbs = pressing.kbs := by decide +kernel

/-- A press that finds the KEY queue full is lost, and the counter holds (R119). -/
theorem test_full_key_queue_refuses_the_press :
    let t := after (.scanPassEnd (BitVec.twoPow 144 16)) pressingFull
    t.krp.overrun = true ∧ t.krp.keyLost = 65535 ∧ t.rpm = pressingFull.rpm ∧
      t.kbs.keys[(16 : Position)].state = .down := by decide +kernel

/-- Two keys that are held with reported codes beside the press of position 16. -/
def holding : State :=
  { pressing with
    kbs := { pressing.kbs with
      keys := pressing.kbs.keys.set 0 ⟨.down, 0, 1, false, 0⟩ |>.set 1 ⟨.down, 0, 2, false, 0⟩ } }

/-- A press beside held keys, with room in the set and with none, ghost-blocked and not, and a release. -/
theorem witness_PressAndRepeatAreQueued_general :
    let held : Samples := BitVec.twoPow 144 0 ||| BitVec.twoPow 144 1
    let samples : Samples := held ||| BitVec.twoPow 144 16
    let full := { holding with kbs := { holding.kbs with settings := { holding.kbs.settings with rollover := 2 } } }
    let ring := { holding with kbs := { holding.kbs with keys := holding.kbs.keys.set 17 ⟨.down, 0, 3, false, 0⟩ } }
    let lift := { holding with kbs := { holding.kbs with keys := holding.kbs.keys.set 16 ⟨.releaseWait, 3, 9, false, 0⟩ } }
    othersRest holding samples 16 ∧ pressDone holding samples 16 ∧ ¬ringed holding samples 16 ∧
      (reportedSet holding.kbs).length < holding.kbs.settings.rollover ∧
      full.kbs.settings.rollover ≤ (reportedSet full.kbs).length ∧
      othersRest ring (samples ||| BitVec.twoPow 144 17) 16 ∧ ringed ring (samples ||| BitVec.twoPow 144 17) 16 ∧
      othersRest lift held 16 ∧ held.getLsbD 16 = false ∧ lift.kbs.keys[(16 : Position)].state = .releaseWait ∧
      lift.kbs.settings.releaseDebounce ≤ lift.kbs.keys[(16 : Position)].counter + 1 := by
  unfold othersRest pressDone ringed
  decide +kernel

/-- The key of position 16 held through a start, with every other position at rest. -/
theorem witness_PressAndRepeatAreQueued_fresh :
    othersRest heldThroughStart (BitVec.twoPow 144 16) 16 ∧ heldThroughStart.kbs.freshStart = true ∧
      heldThroughStart.kbs.keys[(16 : Position)].state = .up ∧ (BitVec.twoPow 144 16 : Samples).getLsbD 16 = true ∧
      heldThroughStart.kbs.mode = .active ∧ heldThroughStart.kbs.passRunning = true ∧
      heldThroughStart.straps.columns18 = true ∧ busSettled heldThroughStart = true ∧ holding.kbs.freshStart = false := by
  unfold othersRest
  decide +kernel

/-- Suppression that begins while two keys are held, and codes at the ends of their classes. -/
theorem witness_PressAndRepeatAreQueued_suppressed :
    let s := { holding with
      inputs := { resetInputs with lidClosed := true }, lwu := { holding.lwu with lidTimer := some 1 } }
    keyboardOk s = true ∧ suppressed s.kbs.suppression = false ∧ s.lwu.lidTimer.isSome = true ∧
      s.inputs.lidClosed = true ∧ s.lwu.lidClosed = false ∧ (reportedSet s.kbs).length = 2 ∧
      s.rpm.keys.length + (reportedSet s.kbs).length ≤ keyCapacity s.rpm ∧ 8 ≤ noticeCapacity s.rpm ∧
      s.rpm.notices = [] ∧ (0xDF : Byte).toNat ≤ 0xDF ∧ 0xE0 ≤ (0xE0 : Byte).toNat ∧ (0xE3 : Byte).toNat ≤ 0xE3 ∧
      ¬((0xE4 : Byte).toNat ≤ 0xE3) := by decide +kernel

theorem witness_WakeRequestsAreTaken :
    2047 < (0 : Byte).toNat + 256 * (8 : Byte).toNat ∧ (255 : Byte).toNat + 256 * (7 : Byte).toNat ≤ 2047 ∧
      15 < (16 : Byte).toNat ∧ (15 : Byte).toNat ≤ 15 ∧ (on State.reset).psq.state = .on ∧
      quiet (on State.reset) = true := by decide +kernel

theorem witness_RawInputsRunTheirSettleTimers :
    let s := on State.reset
    busSettled s = true ∧ s.inputs.lidClosed ≠ true ∧ s.inputs.hinge1 ≠ true ∧ s.inputs.hinge2 ≠ true ∧
      s.inputs.button ≠ true ∧ s.psq.state = .on ∧ s.inputs.ext0 ≠ true ∧ true ≠ s.lwu.ext0.invert ∧
      s.inputs.ext1 ≠ true ∧ true ≠ s.lwu.ext1.invert ∧
      { s with lwu := { s.lwu with ext0 := ⟨false, true⟩, ext1 := ⟨false, true⟩ } }.lwu.ext0.invert = true := by
  decide +kernel

/-- Timers that run, with inputs away from their filtered levels. -/
def settling : State :=
  { State.reset with
    inputs := { resetInputs with lidClosed := true, hinge1 := true, hinge2 := true, button := true }
    lwu := { State.reset.lwu with
      lidTimer := some 1, hinge1Timer := some 1, hinge2Timer := some 1, wakeTimer := some 1 }
    psq := { State.reset.psq with buttonTimer := some 1 } }

theorem witness_SettleExpiriesMoveTheFilteredLevels :
    busSettled settling = true ∧ settling.lwu.lidTimer.isSome = true ∧
      settling.inputs.lidClosed ≠ settling.lwu.lidClosed ∧ settling.lwu.hinge2Timer.isSome = true ∧
      (!settling.lwu.hinge1 && settling.inputs.hinge2) = true ∧
      (!settling.lwu.hinge1 && settling.lwu.hinge2) = false ∧ settling.psq.buttonTimer.isSome = true ∧
      settling.inputs.button = true ∧ settling.psq.pressed = false ∧ settling.lwu.wakeTimer.isSome = true ∧
      settling.psq.state = .off ∧ State.reset.lwu.lidTimer = none ∧ State.reset.lwu.hinge1Timer = none ∧
      State.reset.psq.buttonTimer = none ∧ State.reset.lwu.wakeTimer = none := by decide +kernel

/-- The clauses on a hinge pair that leaves (0,1), and on a release. -/
theorem witness_SettleExpiriesMoveTheFilteredLevels_back :
    let s := { settling with
      lwu := { settling.lwu with hinge2 := true }, inputs := { settling.inputs with hinge1 := true, button := false }
      psq := { settling.psq with pressed := true, holding := true } }
    (!s.lwu.hinge1 && s.lwu.hinge2) = true ∧ (!s.inputs.hinge1 && s.lwu.hinge2) = false ∧
      s.psq.buttonTimer.isSome = true ∧ s.inputs.button = false ∧ s.psq.pressed = true ∧ s.psq.state ≠ .on := by
  decide +kernel

/-- A press in OFF with the barrel in use, and without power. -/
theorem witness_StartSequenceRunsToOn :
    let press (s : State) := s.psq.state = .off ∧ s.psq.buttonTimer.isSome = true ∧ s.inputs.button = true ∧
      s.psq.pressed = false ∧ (s.lwu.get .powerButton).offEnable = true
    press (inUse settling) ∧ (inUse settling).srs.active ≠ none ∧ (inUse settling).inputs.spg = false ∧
      press settling ∧ settling.srs.active = none ∧ settling.pks.rsoc < settling.psq.settings.start ∧
      (at_ .starting .spgWait State.reset).psq.step = .spgWait ∧
      (at_ .resuming .mpgWait State.reset).psq.step = .mpgWait ∧
      (at_ .starting .resetHold State.reset).psq.step = .resetHold ∧
      busSettled (at_ .starting .resetHold State.reset) = true ∧ State.reset.psq.step ≠ .resetHold := by decide +kernel

/-- No SEVERE kind is active; every sensor lies below the trip temperature. -/
theorem witness_start_conditions :
    (∀ k : FaultKind, k.severity = .severe → (State.reset.flt.get k).active = false) ∧
      (∀ i : Fin 8, i.val < 4 → State.reset.thu.sensors[i].value < State.reset.thu.settings.trip) ∧
      ∀ i : Fin 8, i = 4 ∨ i = 5 → State.reset.thu.sensors[i].valid = true →
        State.reset.thu.sensors[i].supplied < State.reset.thu.settings.trip :=
  ⟨fun k => by cases k <;> decide +kernel, by decide +kernel, by decide +kernel⟩

theorem witness_EveryStopArrivesInOff :
    let held := { at_ .on .none State.reset with
      psq := { (at_ .on .none State.reset).psq with pressed := true, holding := true, grace := some 1 } }
    (busSettled held = true ∧ noWakeAfterStop held = true ∧ held.psq.state ≠ .off ∧ held.psq.sre = true ∧
      held.psq.mre = true ∧ held.psq.step ≠ .mpgWait ∧ held.psq.overrideFired = false ∧
      held.psq.overrideReached = false ∧ held.psq.grace.isSome = true) ∧
    (noWakeAfterStop (at_ .starting .spgWait State.reset) = true ∧ noWakeAfterStop (at_ .starting .mpgWait State.reset) = true ∧
      noWakeAfterStop (at_ .resuming .mpgWait State.reset) = true ∧ noWakeAfterStop (at_ .stopping .delay State.reset) = true) ∧
    (State.reset.psq.step ≠ .spgWait ∧ State.reset.psq.step ≠ .mpgWait ∧ State.reset.psq.sre = false ∧
      State.reset.psq.mre = false ∧ State.reset.psq.state ≠ .stopping ∧ State.reset.psq.pressed = false ∧
      State.reset.psq.grace = none) := by decide +kernel

/-- A press held in ON, with POWER_BUTTON still pending, and the three containment stops. -/
theorem witness_EveryStopArrivesInOff_contained :
    let s := at_ .on .none charging
    let held := { s with
      lwu := s.lwu.set .powerButton ⟨true, true, true, true⟩
      psq := { s.psq with pressed := true, holding := true } }
    let forced := { s with flt := { s.flt with mode := .forceOff } }
    let words : List Word16 := [0, 0, 2982, 50, 0, 0, 0x10, 0]
    let polled := onBus (pollerRead false false) (some ⟨.packA, .poll, [], words⟩) forced
    (busSettled held = true ∧ noWakeAfterStop held = true ∧ held.psq.state ≠ .off) ∧
    (s.thu.trip = false ∧ s.thu.settings.trip ≤ (if (-300 : Int) ≤ 1301 ∧ (1301 : Int) ≤ 1300 then 1301 else 1250) ∧
      s.thu.settings.trip ≤ 1000) ∧
    (noWakeAfterStop forced = true ∧ forced.flt.mode = .forceOff ∧ channelFault forced.inputs .a = false ∧
      0 < (forced.chc.context.get .a).targetCurrent) ∧
    (busSettled polled = true ∧ lastWordOnBus .a .poll (pollerRead false false) words polled ∧
      (polled.pks.record.get .a).state = .ready ∧ (polled.pks.record.get .a).causes = ⟨false, false, false⟩ ∧
      (words.getD 6 0).getLsbD 4 = true) := by
  unfold lastWordOnBus packOnBus
  decide +kernel

/-- A suspend without and with a due wake. -/
theorem witness_SuspendAndStopRunTheirDelays :
    let s := at_ .suspending .delay State.reset
    let w := { s with lwu := s.lwu.set .lidOpen { s.lwu.get .lidOpen with status := true, pending := true } }
    busSettled s = true ∧ s.psq.state = .suspending ∧ wakeDue s = false ∧ wakeDue w = true ∧
      1 < (2 : Byte).toNat ∧ (1 : Byte).toNat ≤ 1 ∧ State.reset.psq.state ≠ .on ∧
      (on State.reset).psq.state = .on := by decide +kernel

/-- A known pack at the critical threshold in a restart hold. -/
theorem witness_SettingsAndRestartHoldJudgeEnergy :
    let s := withPack { readyPack 12600 with remaining := 150 } (on State.reset)
    let t := { s with
      pks := { s.pks with rsoc := 3 }, psq := { s.psq with restartHold := some 1 } }
    [(1 : Byte), 0, 0, 0, 0, 0, 0, 0, 0].length = 9 ∧ quiet t = true ∧ t.psq.restartHold.isSome = true ∧
      t.psq.pressed = false ∧ t.srs.active = none ∧ t.pks.rsoc ≤ t.psq.settings.critical ∧
      (t.pks.record.get .a).present = true ∧ (t.pks.record.get .a).identified = true ∧ t.psq.critical = false ∧
      t.psq.state ≠ .off ∧ t.psq.grace = none ∧ State.reset.psq.restartHold = none := by decide +kernel

/-- A known pack at the critical threshold with no restart hold, and a press past the new override time. -/
theorem witness_SettingsAndRestartHoldJudgeEnergy_now :
    let s := withPack { readyPack 12600 with remaining := 150 } (on State.reset)
    let t := { s with pks := { s.pks with rsoc := 10 } }
    let u := { t with psq := { t.psq with pressed := true, holding := true, hold := 2000 } }
    quiet t = true ∧ t.psq.restartHold = none ∧ t.psq.pressed = false ∧ t.srs.active = none ∧ t.pks.rsoc ≤ 10 ∧
      t.psq.critical = false ∧ t.psq.grace = none ∧ ¬(t.pks.rsoc ≤ 9) ∧ 2 * 1000 ≤ u.psq.hold ∧
      u.psq.hold < 3 * 1000 ∧ u.psq.overrideFired = false ∧ u.psq.overrideReached = false ∧
      noWakeAfterStop u = true ∧ u.psq.state ≠ .off ∧ quiet u = true := by decide +kernel

/-- Masks at both ends of their range, and a fault that is active as it is named. -/
theorem witness_FaultRequestsClearAndSet :
    let mask (a b c : Byte) : Nat := a.toNat + 256 * b.toNat + 65536 * c.toNat
    let s := { State.reset with
      flt := State.reset.flt.set .fanStall { clearFault false with status := true, active := true, count := 3 } }
    1048575 < mask 0 0 16 ∧ mask 255 255 15 ≤ 1048575 ∧ (mask 64 0 0).testBit FaultKind.fanStall.index.val = true ∧
      (s.flt.get .fanStall).active = true ∧ FaultKind.fanStall.lasting = true ∧ s.flt.level = .none ∧
      3 < (4 : Byte).toNat ∧ (3 : Byte).toNat ≤ 3 ∧ quiet s = true := by decide +kernel

/-- A mask that names PACK_COMM_LOST and FAN_STALL alone names neither pack alarm and no SEVERE kind. -/
theorem witness_FaultRequestsClearAndSet_names :
    (∀ k : FaultKind, (192 : Nat).testBit k.index.val = true → k ≠ .packOverTemp ∧ k ≠ .packOverCharged) ∧
      (∀ k : FaultKind, (192 : Nat).testBit k.index.val = true → (State.reset.flt.get k).active = false) ∧
      (∀ k : FaultKind, k.severity = .severe → (192 : Nat).testBit k.index.val = true →
        (State.reset.flt.get k).active = false) ∧
      ∀ k : FaultKind, k.severity = .severe →
        (State.reset.flt.get k).active = false ∧
          ((State.reset.flt.get k).status = true → (192 : Nat).testBit k.index.val = true) := by
  refine ⟨?_, ?_, ?_, ?_⟩ <;> intro k <;> cases k <;> decide +kernel

/-- A named SEVERE kind that is active, under SHED and FORCE_OFF in ON, and a thermal trip that has forced OFF, with no wake
left for OFF; and packs whose cause the clear removes, leaves because its condition holds, and leaves because it is not
named. -/
theorem witness_FaultRequestsClearAndSet_severe :
    let f : FaultRecord := { clearFault false with status := true, active := true, count := 3, detail := 1 }
    let s (k : FaultKind) (m : ContainmentMode) (u : State) : State :=
      { u with flt := { State.reset.flt.set k f with mode := m, level := .stopCharge } }
    let shed := s .packOverTemp .shed (on State.reset)
    let forced := s .packOverTemp .forceOff (on State.reset)
    let tripped := s .thermalTrip .notify State.reset
    let r : PackRecord := { readyPack 12600 with state := .faulted, causes := ⟨false, false, true⟩ }
    (quiet shed = true ∧ faultsOk shed.flt = true ∧ noWakeAfterStop shed = true ∧
      (shed.flt.get .packOverTemp).active = true ∧ (shed.flt.get .thermalTrip).active = false) ∧
    (quiet forced = true ∧ noWakeAfterStop forced = true ∧ forced.flt.mode = .forceOff ∧ forced.psq.state = .on) ∧
    (quiet tripped = true ∧ faultsOk tripped.flt = true ∧ noWakeAfterStop tripped = true ∧
      (tripped.flt.get .thermalTrip).active = true ∧ tripped.psq.state = .off) ∧
    ((6 : Nat).testBit FaultKind.packOverTemp.index.val ∧ (6 : Nat).testBit FaultKind.thermalTrip.index.val) ∧
    (FaultKind.packOverTemp.severity = .severe ∧ FaultKind.packOverTemp.lasting = true) ∧
    (quiet (withPack r State.reset) = true ∧ r.state ≠ .identify ∧ ¬(r.alarm.overTemp = true ∨ 600 ≤ r.temperature) ∧
      600 ≤ { r with temperature := 600 }.temperature ∧ (State.reset.flt.get .packOverTemp).active = false ∧
      (8 : Nat).testBit FaultKind.packOverTemp.index.val = false) := by decide +kernel

/-- FAULT_CLEAR of PACK_OVER_TEMP frees a pack that has cooled, and not one at 60.0 degrees (R29, R173). -/
theorem test_clear_removes_the_pack_cause :
    let r : PackRecord := { readyPack 12600 with state := .faulted, causes := ⟨false, false, true⟩ }
    ((after (.faultClear [4, 0, 0]) (withPack r State.reset)).pks.record.get .a).state = .ready ∧
      ((after (.faultClear [4, 0, 0])
        (withPack { r with temperature := 600 } State.reset)).pks.record.get .a).state = .faulted := by decide +kernel

theorem witness_IndicatorsShowOverridesAndBlink :
    let s := { State.reset with
      ind := { State.reset.ind with
        blink := 1, charge := { darkLed with shown := amberFast, lit := false, left := 1 }
        power := { darkLed with shown := ⟨.slow, none⟩ } } }
    quiet s = true ∧ 4 < (5 : Byte).toNat ∧ (4 : Byte).toNat ≤ 4 ∧ (1 : Byte).toNat ≤ 1 ∧ s.ind.blink = 1 ∧
      s.ind.charge.lit = false ∧ s.ind.charge.shown.pattern = .fast ∧ s.ind.power.shown.pattern = .slow ∧
      State.reset.ind.power.shown ≠ ⟨.solid, none⟩ ∧ State.reset.ind.power.shown = ⟨.off, none⟩ ∧
      State.reset.ind.power.shown.pattern ≠ .slow ∧ State.reset.ind.power.shown.pattern ≠ .fast := by decide +kernel

/-- A FAULT_CLEAR of PACK_COMM_LOST and FAN_STALL, neither active, with no containment. -/
theorem witness_IndicatorsShowOverridesAndBlink_clear :
    let s := { State.reset with
      flt := State.reset.flt.set .fanStall { clearFault false with status := true, count := 3 } }
    (192 : Byte).toNat + 256 * (0 : Byte).toNat + 65536 * (0 : Byte).toNat ≤ 1048575 ∧ quiet s = true ∧
      s.flt.level = .none ∧ ∀ k : FaultKind, (192 : Nat).testBit k.index.val = true →
        (s.flt.get k).active = false ∧ k ≠ .packOverTemp ∧ k ≠ .packOverCharged := by
  refine ⟨?_, ?_, ?_, ?_⟩
  · decide +kernel
  · decide +kernel
  · decide +kernel
  · intro k; cases k <;> decide +kernel

end Sys2Proof.Tests
end

section
/-! What no command but POWER_ON_RESET touches: the uptime counter, the straps and the queue of waiting commands belong to no
block, and each operation of a block leaves them as they were. Each lemma `onlyBlocks_<operation>` carries this from the state
that the operation takes to the state that it leaves, so that the proof for a composition has the composition's own shape. -/

namespace Sys2Proof.Machine

/-- What belongs to no block: the uptime counter (R1), the straps (R2) and the queue of waiting commands (log 42). -/
def outside (s : State) : Stamp × Straps × List Instr := (s.uptime, s.straps, s.pending)

/-- Between the two states nothing outside the blocks and the inputs has changed. -/
def OnlyBlocks (s t : State) : Prop := outside t = outside s

variable {s t u : State}

theorem onlyBlocks_iff : OnlyBlocks s t ↔ t.uptime = s.uptime ∧ t.straps = s.straps ∧ t.pending = s.pending := by
  simp [OnlyBlocks, outside]

theorem OnlyBlocks.refl (s : State) : OnlyBlocks s s := rfl

theorem OnlyBlocks.trans (h : OnlyBlocks s t) (g : OnlyBlocks t u) : OnlyBlocks s u := Eq.trans g h

theorem OnlyPlatform.onlyBlocks (h : OnlyPlatform s t) : OnlyBlocks s t :=
  onlyBlocks_iff.mpr ⟨h.uptime, h.straps, h.pending⟩

/-- An operation of the platform, after whatever went before it. -/
theorem OnlyBlocks.platform (g : OnlyPlatform t u) (h : OnlyBlocks s t) : OnlyBlocks s u := h.trans g.onlyBlocks

theorem onlyBlocks_ite {c : Prop} [Decidable c] (h : OnlyBlocks s t) (g : OnlyBlocks s u) :
    OnlyBlocks s (if c then t else u) := by
  split
  · exact h
  · exact g

/-- The same for the state of an operation that also answers something. -/
theorem onlyBlocks_fst_ite {α : Type} {c : Prop} [Decidable c] {x y : State × α} (h : OnlyBlocks s x.1)
    (g : OnlyBlocks s y.1) : OnlyBlocks s (if c then x else y).1 := by
  split
  · exact h
  · exact g

theorem onlyBlocks_foldl {α : Type} {f : State → α → State} (xs : List α)
    (hf : ∀ {u x}, OnlyBlocks s u → OnlyBlocks s (f u x)) (h : OnlyBlocks s t) : OnlyBlocks s (xs.foldl f t) := by
  induction xs generalizing t with
  | nil => exact h
  | cons x xs ih => exact ih (hf h)

/-! ## Reports, faults and charge -/

theorem onlyBlocks_raise {n : Notice} (h : OnlyBlocks s t) : OnlyBlocks s (raise n t) :=
  h.platform (raise_frame n t).onlyPlatform

theorem onlyBlocks_detectMild {k : FaultKind} {detail : Byte} (h : OnlyBlocks s t) :
    OnlyBlocks s (detectMild k detail t) :=
  h.platform (detectMild_frame k detail t).onlyPlatform

theorem onlyBlocks_endFault {k : FaultKind} (h : OnlyBlocks s t) : OnlyBlocks s (endFault k t) := h

theorem onlyBlocks_chargeRefresh {force : Bool} {ns : List Notice} (h : OnlyBlocks s t) :
    OnlyBlocks s (chargeRefresh force ns t) :=
  h.platform (chargeRefresh_frame force ns t).onlyPlatform

theorem onlyBlocks_detect {k : FaultKind} {detail : Byte} (h : OnlyBlocks s t) : OnlyBlocks s (detect k detail t) :=
  h.platform (detect_reach k detail t)

theorem onlyBlocks_settingEvent {i : WakeSource} (h : OnlyBlocks s t) : OnlyBlocks s (settingEvent i t) :=
  h.platform (settingEvent_reach i t)

/-! ## Stages (R43 to R52) -/

theorem onlyBlocks_chargeAtPoll {p : PackId} {target : Nat} (h : OnlyBlocks s t) :
    OnlyBlocks s (chargeAtPoll p target t) := by
  unfold chargeAtPoll
  exact onlyBlocks_chargeRefresh h

theorem onlyBlocks_handToCharge {p : PackId} (h : OnlyBlocks s t) : OnlyBlocks s (handToCharge p t) := by
  unfold handToCharge
  exact onlyBlocks_chargeRefresh h

theorem onlyBlocks_judgePolicy {recharge : Bool} (h : OnlyBlocks s t) : OnlyBlocks s (judgePolicy recharge t) := by
  unfold judgePolicy
  exact onlyBlocks_chargeRefresh h

theorem onlyBlocks_restEnded {p : PackId} (h : OnlyBlocks s t) : OnlyBlocks s (restEnded p t) := by
  unfold restEnded
  exact onlyBlocks_ite (onlyBlocks_chargeRefresh h) h

theorem onlyBlocks_limitExpired {p : PackId} (h : OnlyBlocks s t) : OnlyBlocks s (limitExpired p t) := by
  unfold limitExpired
  exact onlyBlocks_ite
    (onlyBlocks_ite (onlyBlocks_detectMild (onlyBlocks_chargeRefresh h)) (onlyBlocks_chargeRefresh h)) h

/-! ## Fans (R77 to R84) -/

theorem onlyBlocks_remakeFan {i : FanId} (h : OnlyBlocks s t) : OnlyBlocks s (remakeFan i t) :=
  h.platform (remakeFan_reach i t)

theorem onlyBlocks_remakeDuties (h : OnlyBlocks s t) : OnlyBlocks s (remakeDuties t) :=
  h.platform (remakeDuties_reach t)

theorem onlyBlocks_evaluateFan {i : FanId} (h : OnlyBlocks s t) : OnlyBlocks s (evaluateFan i t) := by
  unfold evaluateFan
  exact onlyBlocks_ite (onlyBlocks_remakeFan h) h

theorem onlyBlocks_setOverride {i : FanId} {mode : OverrideMode} {duty : Nat} {left : Option Nat} (h : OnlyBlocks s t) :
    OnlyBlocks s (setOverride i mode duty left t) :=
  h.platform (setOverride_reach i mode duty left t)


theorem onlyBlocks_cancelOverride {i : FanId} (h : OnlyBlocks s t) : OnlyBlocks s (cancelOverride i t) :=
  h.platform (cancelOverride_reach i t)

theorem onlyBlocks_endBoost {i : FanId} (h : OnlyBlocks s t) : OnlyBlocks s (endBoost i t) := by
  unfold endBoost
  exact onlyBlocks_ite (onlyBlocks_setOverride h) h

theorem onlyBlocks_startBoost {i : FanId} (h : OnlyBlocks s t) : OnlyBlocks s (startBoost i t) := by
  unfold startBoost
  exact onlyBlocks_ite (onlyBlocks_setOverride h) h

theorem onlyBlocks_toggleBoost (h : OnlyBlocks s t) : OnlyBlocks s (toggleBoost t).1 := by
  unfold toggleBoost
  split
  · exact onlyBlocks_endBoost (onlyBlocks_endBoost h)
  · exact onlyBlocks_startBoost (onlyBlocks_startBoost h)

theorem onlyBlocks_applyDerate (h : OnlyBlocks s t) : OnlyBlocks s (applyDerate t) := by
  unfold applyDerate
  exact onlyBlocks_ite h (onlyBlocks_raise (onlyBlocks_chargeRefresh h))

/-! ## Keys (R94 to R124) -/

theorem onlyBlocks_queueEvent {kind : KeyKind} {code : Byte} {fn synthetic : Bool} {p : Position} {stamp : Stamp}
    (h : OnlyBlocks s t) : OnlyBlocks s (queueEvent kind code fn synthetic p stamp t) :=
  h.platform (offerKey_reach _ t)

theorem onlyBlocks_handRelease {synthetic : Bool} {p : Position} {code : Byte} {layer : Bool} (h : OnlyBlocks s t) :
    OnlyBlocks s (handRelease synthetic p code layer t) :=
  h.platform (handRelease_reach synthetic p code layer t)

theorem onlyBlocks_updateKeyboard (h : OnlyBlocks s t) : OnlyBlocks s (updateKeyboard t) :=
  h.platform (updateKeyboard_reach t)

theorem onlyBlocks_typePress {p : Position} {code : Byte} {layer : Bool} (h : OnlyBlocks s t) :
    OnlyBlocks s (typePress p code layer t) := by
  unfold typePress
  exact onlyBlocks_ite h h

theorem onlyBlocks_typeExpired (h : OnlyBlocks s t) : OnlyBlocks s (typeExpired t) := by
  unfold typeExpired
  exact onlyBlocks_ite h (onlyBlocks_queueEvent h)

theorem onlyBlocks_toggleLimit (h : OnlyBlocks s t) : OnlyBlocks s (toggleLimit t) := by
  unfold toggleLimit
  exact onlyBlocks_judgePolicy h

theorem onlyBlocks_runAction {code : Byte} {p : Position} {layer : Bool} (h : OnlyBlocks s t) :
    OnlyBlocks s (runAction code p layer t) := by
  unfold runAction
  split
  · exact onlyBlocks_raise h
  · exact onlyBlocks_raise (onlyBlocks_toggleBoost h)
  · exact onlyBlocks_raise (onlyBlocks_toggleLimit h)
  · exact onlyBlocks_raise h
  · exact h

theorem onlyBlocks_handPress {p : Position} {code : Byte} {layer : Bool} {stamp : Stamp} (h : OnlyBlocks s t) :
    OnlyBlocks s (handPress p code layer stamp t) := by
  unfold handPress
  exact onlyBlocks_ite (onlyBlocks_typePress (onlyBlocks_queueEvent h)) (onlyBlocks_ite (onlyBlocks_runAction h) h)

theorem onlyBlocks_completePress {p : Position} (h : OnlyBlocks s t) : OnlyBlocks s (completePress p t) := by
  unfold completePress
  exact onlyBlocks_ite h (onlyBlocks_ite (onlyBlocks_queueEvent h) (onlyBlocks_handPress h))

/-- One position of a pass, whatever its state (R94, R99, R100, R104). -/
theorem onlyBlocks_evaluatePosition {mode : ScanMode} {wakes : Nat} {p : Position} (h : OnlyBlocks s t) :
    OnlyBlocks s (evaluatePosition mode (t, wakes) p).1 := by
  unfold evaluatePosition
  dsimp only
  split
  case h_1 | h_2 =>
    exact onlyBlocks_fst_ite
      (onlyBlocks_fst_ite (onlyBlocks_fst_ite (onlyBlocks_completePress h) h) h) h
  case h_3 | h_4 => exact onlyBlocks_fst_ite h (onlyBlocks_fst_ite (onlyBlocks_handRelease h) h)
  case h_5 | h_6 => exact onlyBlocks_fst_ite h (onlyBlocks_fst_ite h h)

theorem onlyBlocks_foldl_evaluatePosition {mode : ScanMode} {wakes : Nat} (ps : List Position) (h : OnlyBlocks s t) :
    OnlyBlocks s (ps.foldl (evaluatePosition mode) (t, wakes)).1 := by
  induction ps generalizing t wakes with
  | nil => exact h
  | cons p ps ih => exact ih (onlyBlocks_evaluatePosition h)

theorem onlyBlocks_evaluatePass {raw : Samples} (h : OnlyBlocks s t) : OnlyBlocks s (evaluatePass raw t).1 := by
  unfold evaluatePass
  exact onlyBlocks_foldl_evaluatePosition _ h

theorem onlyBlocks_keyboardWakes {n : Nat} (h : OnlyBlocks s t) : OnlyBlocks s (keyboardWakes n t) := by
  induction n generalizing t with
  | zero => exact h
  | succ n ih => exact ih (onlyBlocks_settingEvent h)

theorem onlyBlocks_passEnds {raw : Samples} (h : OnlyBlocks s t) : OnlyBlocks s (passEnds raw t) := by
  unfold passEnds
  have h1 : OnlyBlocks s { t with inputs.matrix := raw } := h
  exact onlyBlocks_ite (onlyBlocks_keyboardWakes (onlyBlocks_evaluatePass h1)) h1

theorem onlyBlocks_passStarts (h : OnlyBlocks s t) : OnlyBlocks s (passStarts t) := by
  unfold passStarts
  exact onlyBlocks_ite h h

/-! ## Sensors (R69 to R75) -/

theorem onlyBlocks_convertSensor {i : Fin 8} {v : Int} (h : OnlyBlocks s t) : OnlyBlocks s (convertSensor i v t) := by
  unfold convertSensor
  exact onlyBlocks_ite (onlyBlocks_detectMild h) h

theorem onlyBlocks_convertBoard {cpu charger skin ambient : Int} (h : OnlyBlocks s t) :
    OnlyBlocks s (convertBoard cpu charger skin ambient t) := by
  unfold convertBoard
  extract_lets t1
  have h1 : OnlyBlocks s t1 :=
    onlyBlocks_convertSensor (onlyBlocks_convertSensor (onlyBlocks_convertSensor (onlyBlocks_convertSensor h)))
  exact onlyBlocks_ite h1 (onlyBlocks_endFault h1)

theorem onlyBlocks_judgeSupplyStale (h : OnlyBlocks s t) : OnlyBlocks s (judgeSupplyStale t) := by
  unfold judgeSupplyStale
  exact onlyBlocks_ite h h

theorem onlyBlocks_goStale {i : Fin 8} (h : OnlyBlocks s t) : OnlyBlocks s (goStale i t) := by
  unfold goStale
  exact onlyBlocks_judgeSupplyStale (onlyBlocks_detectMild (onlyBlocks_raise h))

theorem onlyBlocks_judgeTrip (h : OnlyBlocks s t) : OnlyBlocks s (judgeTrip t) := h.platform (judgeTrip_reach t)

theorem onlyBlocks_judgeWakeCondition (h : OnlyBlocks s t) : OnlyBlocks s (judgeWakeCondition t) :=
  h.platform (judgeWakeCondition_reach t)

theorem onlyBlocks_judgeDerate {before : ThermalUnit} (h : OnlyBlocks s t) : OnlyBlocks s (judgeDerate before t) := by
  unfold judgeDerate
  exact onlyBlocks_ite h (onlyBlocks_applyDerate h)

theorem onlyBlocks_boardConverted {cpu charger skin ambient : Int} (h : OnlyBlocks s t) :
    OnlyBlocks s (boardConverted cpu charger skin ambient t) := by
  unfold boardConverted
  exact onlyBlocks_judgeDerate
    (onlyBlocks_judgeWakeCondition (onlyBlocks_judgeTrip (onlyBlocks_convertBoard h)))

theorem onlyBlocks_freshnessReached {i : Fin 8} (h : OnlyBlocks s t) : OnlyBlocks s (freshnessReached i t) := by
  unfold freshnessReached
  exact onlyBlocks_ite (onlyBlocks_judgeTrip (onlyBlocks_goStale h)) h

theorem onlyBlocks_supplyField {i : Fin 8} {v : Int} (h : OnlyBlocks s t) : OnlyBlocks s (supplyField i v t) := by
  unfold supplyField applySupply
  exact onlyBlocks_ite h (onlyBlocks_judgeSupplyStale h)

theorem onlyBlocks_supplyUnderSettings {i : Fin 8} (h : OnlyBlocks s t) : OnlyBlocks s (supplyUnderSettings i t) := by
  unfold supplyUnderSettings
  exact onlyBlocks_ite h (onlyBlocks_ite (onlyBlocks_goStale h) h)

theorem onlyBlocks_takeThermal {settings : ThermalSettings} {table : Vector DerateEntry 4} (h : OnlyBlocks s t) :
    OnlyBlocks s (takeThermal settings table t) := by
  unfold takeThermal
  exact onlyBlocks_remakeDuties (onlyBlocks_applyDerate (onlyBlocks_judgeWakeCondition (onlyBlocks_judgeTrip
    (onlyBlocks_supplyUnderSettings (onlyBlocks_supplyUnderSettings h)))))

/-! ## Fan events (R77, R81 to R83) -/

theorem onlyBlocks_evaluateFans (h : OnlyBlocks s t) : OnlyBlocks s (evaluateFans t) := by
  unfold evaluateFans
  exact onlyBlocks_evaluateFan (onlyBlocks_evaluateFan h)

theorem onlyBlocks_judgeStallEnd (h : OnlyBlocks s t) : OnlyBlocks s (judgeStallEnd t) := by
  unfold judgeStallEnd
  exact onlyBlocks_ite h h

theorem onlyBlocks_healthChanged {i : FanId} {failed : Bool} (h : OnlyBlocks s t) :
    OnlyBlocks s (healthChanged i failed t) := by
  unfold healthChanged
  exact onlyBlocks_remakeFan (onlyBlocks_applyDerate
    (onlyBlocks_ite (onlyBlocks_raise (onlyBlocks_detectMild h)) (onlyBlocks_raise (onlyBlocks_judgeStallEnd h))))

theorem onlyBlocks_tachEnded {i : FanId} {pulses : Nat} (h : OnlyBlocks s t) : OnlyBlocks s (tachEnded i pulses t) := by
  unfold tachEnded
  exact onlyBlocks_ite (onlyBlocks_ite (onlyBlocks_judgeStallEnd h) (onlyBlocks_healthChanged h)) h

theorem onlyBlocks_overrideExpired {i : FanId} (h : OnlyBlocks s t) : OnlyBlocks s (overrideExpired i t) := by
  unfold overrideExpired
  exact onlyBlocks_ite (onlyBlocks_cancelOverride h) h

/-! ## The platform (R129 to R161) -/

theorem onlyBlocks_changeState {new : PlatformState} (h : OnlyBlocks s t) : OnlyBlocks s (changeState new t) :=
  h.platform (changeState_reach new t)

theorem onlyBlocks_offerWake (h : OnlyBlocks s t) : OnlyBlocks s (offerWake t) := h.platform (offerWake_reach t)

theorem onlyBlocks_offerAtOff {before : State} (h : OnlyBlocks s t) : OnlyBlocks s (offerAtOff before t) := by
  unfold offerAtOff
  exact onlyBlocks_ite (onlyBlocks_offerWake h) h

theorem onlyBlocks_judgeCritical (h : OnlyBlocks s t) : OnlyBlocks s (judgeCritical t) :=
  h.platform (judgeCritical_reach t)

theorem onlyBlocks_forcedStop {cause : StopCause} (h : OnlyBlocks s t) : OnlyBlocks s (forcedStop cause t) :=
  h.platform (forcedStop_reach cause t)

theorem onlyBlocks_railFail {detail : Byte} (h : OnlyBlocks s t) : OnlyBlocks s (railFail detail t) :=
  h.platform (railFail_reach detail t)

theorem onlyBlocks_enterMpgWait (h : OnlyBlocks s t) : OnlyBlocks s (enterMpgWait t) :=
  h.platform (enterMpgWait_reach t)

theorem onlyBlocks_takeExtSettings {i : WakeSource} {old new : ExtSettings} {high : Bool} (h : OnlyBlocks s t) :
    OnlyBlocks s (takeExtSettings i old new high t) := by
  unfold takeExtSettings
  exact onlyBlocks_ite (onlyBlocks_settingEvent h) h

theorem onlyBlocks_takeWakeConfig {standby off ext : Nat} (h : OnlyBlocks s t) :
    OnlyBlocks s (takeWakeConfig standby off ext t) := by
  unfold takeWakeConfig
  exact onlyBlocks_ite (onlyBlocks_offerWake (onlyBlocks_takeExtSettings (onlyBlocks_takeExtSettings h)))
    (onlyBlocks_takeExtSettings (onlyBlocks_takeExtSettings h))

theorem onlyBlocks_eventIfHeld {i : WakeSource} (h : OnlyBlocks s t) : OnlyBlocks s (eventIfHeld t i) := by
  unfold eventIfHeld
  exact onlyBlocks_ite (onlyBlocks_settingEvent h) h

theorem onlyBlocks_clearSource {i : WakeSource} (h : OnlyBlocks s t) : OnlyBlocks s (clearSource t i) := h

theorem onlyBlocks_takeWakeStatus {mask : Nat} (h : OnlyBlocks s t) : OnlyBlocks s (takeWakeStatus mask t) := by
  unfold takeWakeStatus
  exact onlyBlocks_foldl _ onlyBlocks_eventIfHeld (onlyBlocks_foldl _ onlyBlocks_clearSource h)

theorem onlyBlocks_wakeTimerRunsOut (h : OnlyBlocks s t) : OnlyBlocks s (wakeTimerRunsOut t) := by
  unfold wakeTimerRunsOut
  exact onlyBlocks_settingEvent h

theorem onlyBlocks_wakeTimerExpired (h : OnlyBlocks s t) : OnlyBlocks s (wakeTimerExpired t) := by
  unfold wakeTimerExpired
  exact onlyBlocks_ite (onlyBlocks_wakeTimerRunsOut h) h

theorem onlyBlocks_lidInput {closed : Bool} (h : OnlyBlocks s t) : OnlyBlocks s (lidInput closed t) := by
  unfold lidInput
  exact onlyBlocks_ite h h

theorem onlyBlocks_postureChanged {old : Posture} (h : OnlyBlocks s t) : OnlyBlocks s (postureChanged old t) := by
  unfold postureChanged
  exact onlyBlocks_ite h (onlyBlocks_updateKeyboard (onlyBlocks_raise h))

theorem onlyBlocks_lidChanged {closed : Bool} (h : OnlyBlocks s t) : OnlyBlocks s (lidChanged closed t) := by
  unfold lidChanged
  exact onlyBlocks_postureChanged (onlyBlocks_ite (onlyBlocks_raise h) (onlyBlocks_settingEvent (onlyBlocks_raise h)))

theorem onlyBlocks_lidSettled (h : OnlyBlocks s t) : OnlyBlocks s (lidSettled t) := by
  unfold lidSettled
  exact onlyBlocks_ite h (onlyBlocks_ite h (onlyBlocks_lidChanged h))

theorem onlyBlocks_hingeInput {i : HingeId} {active : Bool} (h : OnlyBlocks s t) :
    OnlyBlocks s (hingeInput i active t) := by
  cases i with
  | h1 => exact onlyBlocks_ite h h
  | h2 => exact onlyBlocks_ite h h

theorem onlyBlocks_hingeDecoded {oldPair : Option Posture} (h : OnlyBlocks s t) :
    OnlyBlocks s (hingeDecoded oldPair t) := by
  unfold hingeDecoded
  exact onlyBlocks_postureChanged
    (onlyBlocks_ite (onlyBlocks_detectMild h) (onlyBlocks_ite (onlyBlocks_endFault h) h))

theorem onlyBlocks_hingeSettled {i : HingeId} (h : OnlyBlocks s t) : OnlyBlocks s (hingeSettled i t) := by
  cases i with
  | h1 => exact onlyBlocks_ite h (onlyBlocks_hingeDecoded h)
  | h2 => exact onlyBlocks_ite h (onlyBlocks_hingeDecoded h)

theorem onlyBlocks_extInput {i : ExtId} {high : Bool} (h : OnlyBlocks s t) : OnlyBlocks s (extInput i high t) := by
  cases i with
  | ext0 => exact onlyBlocks_ite h (onlyBlocks_ite (onlyBlocks_settingEvent h) h)
  | ext1 => exact onlyBlocks_ite h (onlyBlocks_ite (onlyBlocks_settingEvent h) h)

theorem onlyBlocks_takeTransition {request : Nat} (h : OnlyBlocks s t) : OnlyBlocks s (takeTransition request t) := by
  unfold takeTransition
  exact onlyBlocks_ite (onlyBlocks_changeState h) (onlyBlocks_changeState h)

theorem onlyBlocks_overrideTaken (h : OnlyBlocks s t) : OnlyBlocks s (overrideTaken t) := by
  unfold overrideTaken
  exact onlyBlocks_ite h (onlyBlocks_detectMild (onlyBlocks_forcedStop h))

theorem onlyBlocks_takeSeqSettings {x : SeqSettings} (h : OnlyBlocks s t) : OnlyBlocks s (takeSeqSettings x t) := by
  unfold takeSeqSettings
  exact onlyBlocks_judgeCritical (onlyBlocks_ite (onlyBlocks_overrideTaken h) h)

theorem onlyBlocks_spgRises (h : OnlyBlocks s t) : OnlyBlocks s (spgRises t) := by
  unfold spgRises
  exact onlyBlocks_ite (onlyBlocks_enterMpgWait h) h

theorem onlyBlocks_mpgRises (h : OnlyBlocks s t) : OnlyBlocks s (mpgRises t) := by
  unfold mpgRises
  exact onlyBlocks_ite h h

theorem onlyBlocks_stepWaitExpired (h : OnlyBlocks s t) : OnlyBlocks s (stepWaitExpired t) := by
  unfold stepWaitExpired
  split
  case h_4 => exact h
  all_goals exact onlyBlocks_railFail h

theorem onlyBlocks_powerGoodFalls {i : GoodId} (h : OnlyBlocks s t) : OnlyBlocks s (powerGoodFalls i t) := by
  cases i with
  | spg => exact onlyBlocks_ite (onlyBlocks_railFail h) h
  | mpg => exact onlyBlocks_ite (onlyBlocks_railFail h) h

theorem onlyBlocks_resetHoldExpired (h : OnlyBlocks s t) : OnlyBlocks s (resetHoldExpired t) := by
  unfold resetHoldExpired
  exact onlyBlocks_ite (h.platform (arriveOn_reach t)) h

theorem onlyBlocks_standbyDelayExpired (h : OnlyBlocks s t) : OnlyBlocks s (standbyDelayExpired t) := by
  unfold standbyDelayExpired
  exact onlyBlocks_ite (h.platform (arriveStandby_reach t)) h

theorem onlyBlocks_offDelayExpired (h : OnlyBlocks s t) : OnlyBlocks s (offDelayExpired t) := by
  unfold offDelayExpired
  have h1 : OnlyBlocks s (dropAll t) := h
  exact onlyBlocks_ite (h1.platform (arriveOff_reach _)) h

theorem onlyBlocks_buttonInput {pressed : Bool} (h : OnlyBlocks s t) : OnlyBlocks s (buttonInput pressed t) := by
  unfold buttonInput
  exact onlyBlocks_ite h h

theorem onlyBlocks_buttonReleased (h : OnlyBlocks s t) : OnlyBlocks s (buttonReleased t) := by
  unfold buttonReleased
  exact onlyBlocks_ite (onlyBlocks_raise h) h

theorem onlyBlocks_buttonSettled (h : OnlyBlocks s t) : OnlyBlocks s (buttonSettled t) := by
  unfold buttonSettled buttonPressed
  exact onlyBlocks_ite h
    (onlyBlocks_ite h (onlyBlocks_ite (onlyBlocks_settingEvent h) (onlyBlocks_buttonReleased h)))

theorem onlyBlocks_overrideTimeReached (h : OnlyBlocks s t) : OnlyBlocks s (overrideTimeReached t) := by
  unfold overrideTimeReached
  exact onlyBlocks_ite (onlyBlocks_overrideTaken h) h

theorem onlyBlocks_graceExpired (h : OnlyBlocks s t) : OnlyBlocks s (graceExpired t) := by
  unfold graceExpired
  have h1 : OnlyBlocks s { t with psq.grace := some 0 } := h
  exact onlyBlocks_ite h
    (onlyBlocks_detectMild (onlyBlocks_forcedStop (h1.platform (endGrace_reach 2 false _))))

theorem onlyBlocks_restartHoldEnded (h : OnlyBlocks s t) : OnlyBlocks s (restartHoldEnded t) := by
  unfold restartHoldEnded
  exact onlyBlocks_ite h (onlyBlocks_judgeCritical h)

/-! ## The link (R178 to R184) -/

theorem onlyBlocks_countError {detail : Byte} (h : OnlyBlocks s t) : OnlyBlocks s (countError detail t) := by
  unfold countError
  exact onlyBlocks_ite h (onlyBlocks_ite (onlyBlocks_detectMild h) h)

theorem onlyBlocks_countErrors {detail : Byte} {n : Nat} (h : OnlyBlocks s t) :
    OnlyBlocks s (countErrors detail n t) := by
  induction n generalizing t with
  | zero => exact h
  | succ n ih => exact ih (onlyBlocks_countError h)

theorem onlyBlocks_deliver {o : Outgoing} (h : OnlyBlocks s t) : OnlyBlocks s (deliver o t) := by
  unfold deliver
  exact onlyBlocks_ite h h

theorem onlyBlocks_answerPassthrough {payload : List Byte} (h : OnlyBlocks s t) :
    OnlyBlocks s (answerPassthrough payload t) := by
  unfold answerPassthrough
  split
  · exact onlyBlocks_ite h (onlyBlocks_deliver h)
  · exact h

theorem onlyBlocks_disposeFrame {f : Frame} (h : OnlyBlocks s t) : OnlyBlocks s (disposeFrame f t) := by
  unfold disposeFrame
  exact onlyBlocks_ite h h

theorem onlyBlocks_receive {type : Byte} {payload : List Byte} {serve : State → State}
    (hs : ∀ {u}, OnlyBlocks s u → OnlyBlocks s (serve u)) (h : OnlyBlocks s t) :
    OnlyBlocks s (receive type payload serve t) := by
  unfold receive
  exact onlyBlocks_ite (onlyBlocks_countErrors h) (onlyBlocks_ite (hs h) (onlyBlocks_disposeFrame h))

theorem onlyBlocks_request {type : Byte} {payload : List Byte} {serve : List Byte → State → State × List Byte}
    (hs : ∀ {p u}, OnlyBlocks s u → OnlyBlocks s (serve p u).1) (h : OnlyBlocks s t) :
    OnlyBlocks s (request type serve payload t) := by
  unfold request
  exact onlyBlocks_receive (fun hu => onlyBlocks_deliver (hs hu)) h

theorem onlyBlocks_faultyFrame {detail : Byte} {bytes : Nat} {f : Frame} (h : OnlyBlocks s t) :
    OnlyBlocks s (faultyFrame detail bytes f t) := by
  unfold faultyFrame
  exact onlyBlocks_ite (onlyBlocks_countErrors h) (onlyBlocks_disposeFrame (onlyBlocks_countError h))

theorem onlyBlocks_takeByte {b : Byte} (h : OnlyBlocks s t) : OnlyBlocks s (takeByte t b) := by
  unfold takeByte
  split
  · exact onlyBlocks_ite h (onlyBlocks_countError h)
  · exact h
  · exact onlyBlocks_ite (onlyBlocks_faultyFrame h) h
  · exact h
  · exact h
  · exact onlyBlocks_countError h

theorem onlyBlocks_gapRunsOut (h : OnlyBlocks s t) : OnlyBlocks s (gapRunsOut t) := by
  unfold gapRunsOut
  exact onlyBlocks_ite (onlyBlocks_countError h) h

theorem onlyBlocks_gapTimesOut {taken : List Byte} (h : OnlyBlocks s t) : OnlyBlocks s (gapTimesOut taken t) := by
  unfold gapTimesOut
  exact onlyBlocks_gapRunsOut (onlyBlocks_foldl _ onlyBlocks_takeByte h)

theorem onlyBlocks_takeRoom (h : OnlyBlocks s t) : OnlyBlocks s (takeRoom t) := by
  unfold takeRoom
  split
  · exact onlyBlocks_deliver h
  · split
    · exact onlyBlocks_disposeFrame h
    · exact h

theorem onlyBlocks_framingErrors (h : OnlyBlocks s t) : OnlyBlocks s (framingErrors t) := by
  unfold framingErrors
  exact onlyBlocks_countError (onlyBlocks_ite h h)

theorem onlyBlocks_byteOverruns (h : OnlyBlocks s t) : OnlyBlocks s (byteOverruns t) := by
  unfold byteOverruns
  exact onlyBlocks_ite (onlyBlocks_countError h) h

/-! ## Packs (R23 to R37) -/

theorem onlyBlocks_setSwitches (h : OnlyBlocks s t) : OnlyBlocks s (setSwitches t) := h

theorem onlyBlocks_updateRsoc (h : OnlyBlocks s t) : OnlyBlocks s (updateRsoc t) := by
  unfold updateRsoc
  exact onlyBlocks_judgeCritical h

theorem onlyBlocks_endPackFault {k : FaultKind} {holds : PackRecord → Bool} {p : PackId} (h : OnlyBlocks s t) :
    OnlyBlocks s (endPackFault k holds p t) := by
  unfold endPackFault
  exact onlyBlocks_ite h h

theorem onlyBlocks_endCommLost {p : PackId} (h : OnlyBlocks s t) : OnlyBlocks s (endCommLost p t) := by
  unfold endCommLost
  exact onlyBlocks_ite h (onlyBlocks_endPackFault h)

theorem onlyBlocks_handToThermal {p : PackId} (h : OnlyBlocks s t) : OnlyBlocks s (handToThermal p t) := h

theorem onlyBlocks_handRecord {p : PackId} (h : OnlyBlocks s t) : OnlyBlocks s (handRecord p t) := by
  unfold handRecord
  exact onlyBlocks_updateRsoc (onlyBlocks_setSwitches (onlyBlocks_handToThermal (onlyBlocks_handToCharge h)))

theorem onlyBlocks_handPoll {p : PackId} {target : Nat} (h : OnlyBlocks s t) : OnlyBlocks s (handPoll p target t) := by
  unfold handPoll
  exact onlyBlocks_updateRsoc (onlyBlocks_setSwitches (onlyBlocks_handToThermal (onlyBlocks_chargeAtPoll h)))

theorem onlyBlocks_modRecord {p : PackId} {f : PackRecord → PackRecord} (h : OnlyBlocks s t) :
    OnlyBlocks s (modRecord p f t) := h

theorem onlyBlocks_modSchedule {p : PackId} {f : PackSchedule → PackSchedule} (h : OnlyBlocks s t) :
    OnlyBlocks s (modSchedule p f t) := h

theorem onlyBlocks_judged {p : PackId} (h : OnlyBlocks s t) : OnlyBlocks s (judged p t) := h

theorem onlyBlocks_settleReady {p : PackId} (h : OnlyBlocks s t) : OnlyBlocks s (settleReady p t) := by
  unfold settleReady
  exact onlyBlocks_ite (onlyBlocks_raise (onlyBlocks_modRecord h)) h

theorem onlyBlocks_settleFaulted {p : PackId} (h : OnlyBlocks s t) : OnlyBlocks s (settleFaulted p t) := by
  unfold settleFaulted
  exact onlyBlocks_ite (onlyBlocks_raise (onlyBlocks_modRecord h)) h

theorem onlyBlocks_judgeOverCharge {p : PackId} (h : OnlyBlocks s t) : OnlyBlocks s (judgeOverCharge p t) := by
  unfold judgeOverCharge
  exact onlyBlocks_ite
    (onlyBlocks_settingEvent (onlyBlocks_settleFaulted (onlyBlocks_detect (onlyBlocks_modRecord h)))) h

theorem onlyBlocks_judgeOverTemp {p : PackId} (h : OnlyBlocks s t) : OnlyBlocks s (judgeOverTemp p t) := by
  unfold judgeOverTemp
  exact onlyBlocks_ite
    (onlyBlocks_settingEvent (onlyBlocks_settleFaulted (onlyBlocks_detect (onlyBlocks_modRecord h)))) h

theorem onlyBlocks_judgeAlarm {p : PackId} {old : AlarmFlags} (h : OnlyBlocks s t) :
    OnlyBlocks s (judgeAlarm p old t) :=
  h.platform (judgeAlarm_reach p old t)

theorem onlyBlocks_dropOverCharge {p : PackId} (h : OnlyBlocks s t) : OnlyBlocks s (dropOverCharge p t) := by
  unfold dropOverCharge
  exact onlyBlocks_ite h (onlyBlocks_modRecord h)

theorem onlyBlocks_dropOverTemp {p : PackId} (h : OnlyBlocks s t) : OnlyBlocks s (dropOverTemp p t) := by
  unfold dropOverTemp
  exact onlyBlocks_ite h (onlyBlocks_modRecord h)

theorem onlyBlocks_endAlarms {p : PackId} (h : OnlyBlocks s t) : OnlyBlocks s (endAlarms p t) := by
  unfold endAlarms
  exact onlyBlocks_ite (onlyBlocks_ite h (onlyBlocks_endPackFault h))
    (onlyBlocks_endPackFault (onlyBlocks_ite h (onlyBlocks_endPackFault h)))

theorem onlyBlocks_clearCauses {charged hot : Bool} {p : PackId} (h : OnlyBlocks s t) :
    OnlyBlocks s (clearCauses charged hot p t) := by
  unfold clearCauses
  extract_lets before t1 t2
  have h1 : OnlyBlocks s t1 := onlyBlocks_ite (onlyBlocks_dropOverCharge h) h
  have h2 : OnlyBlocks s t2 := onlyBlocks_ite (onlyBlocks_dropOverTemp h1) h1
  exact onlyBlocks_ite h2 (onlyBlocks_handRecord (onlyBlocks_settleReady h2))

theorem onlyBlocks_schedulePoll {p : PackId} (h : OnlyBlocks s t) : OnlyBlocks s (schedulePoll p t) := h

theorem onlyBlocks_goodPoll {p : PackId} {ws : List Word16} (h : OnlyBlocks s t) : OnlyBlocks s (goodPoll p ws t) := by
  unfold goodPoll
  extract_lets target old t1 t2 t3 t4
  have h1 : OnlyBlocks s t1 := onlyBlocks_judged (onlyBlocks_modRecord h)
  have h2 : OnlyBlocks s t2 := onlyBlocks_settleReady (onlyBlocks_endCommLost h1)
  have h3 : OnlyBlocks s t3 := onlyBlocks_judgeAlarm (onlyBlocks_judgeOverTemp (onlyBlocks_judgeOverCharge h2))
  have h4 : OnlyBlocks s t4 :=
    onlyBlocks_settleReady (onlyBlocks_dropOverTemp (onlyBlocks_dropOverCharge (onlyBlocks_endAlarms h3)))
  exact onlyBlocks_schedulePoll (onlyBlocks_handPoll h4)

theorem onlyBlocks_goodIdentification {p : PackId} {ws : List Word16} (h : OnlyBlocks s t) :
    OnlyBlocks s (goodIdentification p ws t) := by
  unfold goodIdentification
  exact onlyBlocks_goodPoll (onlyBlocks_modRecord h)

theorem onlyBlocks_judgeAtFailure {p : PackId} (h : OnlyBlocks s t) : OnlyBlocks s (judgeAtFailure p t) := by
  unfold judgeAtFailure
  have h1 {c : Prop} [Decidable c] : OnlyBlocks s (if c then t else endFault .packOverCharged t) :=
    onlyBlocks_ite h (onlyBlocks_endFault h)
  exact onlyBlocks_ite (onlyBlocks_judged (onlyBlocks_ite h1 (onlyBlocks_endFault h1))) h

theorem onlyBlocks_failedPoll {p : PackId} (h : OnlyBlocks s t) : OnlyBlocks s (failedPoll p t) := by
  unfold failedPoll
  exact onlyBlocks_ite (onlyBlocks_handRecord (onlyBlocks_settleFaulted (onlyBlocks_detectMild
    (onlyBlocks_judgeAtFailure (onlyBlocks_modRecord (onlyBlocks_modRecord h)))))) (onlyBlocks_modRecord h)

theorem onlyBlocks_packInserted {p : PackId} (h : OnlyBlocks s t) : OnlyBlocks s (packInserted p t) := by
  unfold packInserted
  exact onlyBlocks_handRecord (onlyBlocks_raise (onlyBlocks_modSchedule (onlyBlocks_modRecord h)))

theorem onlyBlocks_removePassthrough {p : PackId} (h : OnlyBlocks s t) : OnlyBlocks s (removePassthrough p t) := by
  unfold removePassthrough
  split
  · exact h
  · exact onlyBlocks_ite h (onlyBlocks_ite h (onlyBlocks_answerPassthrough h))

theorem onlyBlocks_packRemoved {p : PackId} (h : OnlyBlocks s t) : OnlyBlocks s (packRemoved p t) := by
  unfold packRemoved
  exact onlyBlocks_raise (onlyBlocks_endCommLost (onlyBlocks_endAlarms
    (onlyBlocks_handRecord (onlyBlocks_removePassthrough h))))

theorem onlyBlocks_presenceChanges {p : PackId} {active : Bool} (h : OnlyBlocks s t) :
    OnlyBlocks s (presenceChanges p active t) := by
  unfold presenceChanges
  exact onlyBlocks_ite h (onlyBlocks_ite (onlyBlocks_packInserted h) (onlyBlocks_packRemoved h))

theorem onlyBlocks_identificationFalls {p : PackId} (h : OnlyBlocks s t) :
    OnlyBlocks s (identificationFalls p t) := by
  unfold identificationFalls
  exact onlyBlocks_ite (onlyBlocks_modSchedule h) h

theorem onlyBlocks_pollFalls {p : PackId} (h : OnlyBlocks s t) : OnlyBlocks s (pollFalls p t) := by
  unfold pollFalls
  exact onlyBlocks_ite (onlyBlocks_modSchedule h) h

theorem onlyBlocks_channelFails {p : PackId} (h : OnlyBlocks s t) : OnlyBlocks s (channelFails p t) := by
  unfold channelFails
  exact onlyBlocks_ite (onlyBlocks_chargeRefresh (onlyBlocks_detect h)) (onlyBlocks_chargeRefresh h)

theorem onlyBlocks_channelRecovers {p : PackId} (h : OnlyBlocks s t) : OnlyBlocks s (channelRecovers p t) := by
  unfold channelRecovers
  exact onlyBlocks_chargeRefresh (onlyBlocks_ite h (onlyBlocks_endFault h))

theorem onlyBlocks_channelFaultChanges {p : PackId} {active : Bool} (h : OnlyBlocks s t) :
    OnlyBlocks s (channelFaultChanges p active t) := by
  unfold channelFaultChanges
  exact onlyBlocks_ite h (onlyBlocks_ite (onlyBlocks_channelFails h) (onlyBlocks_channelRecovers h))

/-! ## Sources (R4 to R15) -/

theorem onlyBlocks_judgeThrottle (h : OnlyBlocks s t) : OnlyBlocks s (judgeThrottle t) := h

theorem onlyBlocks_endOverload (h : OnlyBlocks s t) : OnlyBlocks s (endOverload t) := by
  unfold endOverload
  exact onlyBlocks_judgeThrottle (onlyBlocks_endFault (onlyBlocks_raise h))

theorem onlyBlocks_beginOverload (h : OnlyBlocks s t) : OnlyBlocks s (beginOverload t) := by
  unfold beginOverload
  exact onlyBlocks_judgeThrottle (onlyBlocks_detectMild (onlyBlocks_raise h))

theorem onlyBlocks_judgeOverload (h : OnlyBlocks s t) : OnlyBlocks s (judgeOverload t) := by
  unfold judgeOverload
  exact onlyBlocks_ite h (onlyBlocks_ite h
    (onlyBlocks_ite h (onlyBlocks_ite (onlyBlocks_endOverload h) (onlyBlocks_beginOverload h))))

theorem onlyBlocks_handSource (h : OnlyBlocks s t) : OnlyBlocks s (handSource t) := by
  unfold handSource
  exact onlyBlocks_judgeCritical (onlyBlocks_setSwitches (onlyBlocks_chargeRefresh h))

theorem onlyBlocks_changeActive {new : Option SourceId} (h : OnlyBlocks s t) :
    OnlyBlocks s (changeActive new t) := by
  unfold changeActive
  extract_lets old x t1 t2 t3
  have h1 : OnlyBlocks s t1 := h
  have h2 : OnlyBlocks s t2 := by
    unfold t2
    split
    · exact onlyBlocks_settingEvent h1
    · exact h1
  have h3 : OnlyBlocks s t3 := onlyBlocks_handSource (onlyBlocks_raise h2)
  clear_value t3
  exact onlyBlocks_ite (onlyBlocks_endOverload h3) h3

theorem onlyBlocks_selectSource (h : OnlyBlocks s t) : OnlyBlocks s (selectSource t) := by
  unfold selectSource
  exact onlyBlocks_ite h (onlyBlocks_changeActive h)

theorem onlyBlocks_setSource {i : SourceId} {r : SourceRecord} (h : OnlyBlocks s t) : OnlyBlocks s (setSource i r t) := h

theorem onlyBlocks_judgeInvalid {i : SourceId} {old new : SourceRecord} (h : OnlyBlocks s t) :
    OnlyBlocks s (judgeInvalid i old new t) :=
  h.platform (judgeInvalid_frame i old new t).onlyPlatform

theorem onlyBlocks_updateSource {i : SourceId} {new : SourceRecord} (h : OnlyBlocks s t) :
    OnlyBlocks s (updateSource i new t) := by
  unfold updateSource
  extract_lets old t1 t2
  have h1 : OnlyBlocks s t1 := onlyBlocks_judgeInvalid (onlyBlocks_setSource h)
  have h2 : OnlyBlocks s t2 := onlyBlocks_ite (onlyBlocks_selectSource h1) h1
  exact onlyBlocks_ite (onlyBlocks_chargeRefresh h2) h2

theorem onlyBlocks_contractDelivered {p : PortId} {block : List Byte} (h : OnlyBlocks s t) :
    OnlyBlocks s (contractDelivered p block t) := by
  unfold contractDelivered
  exact onlyBlocks_updateSource h

theorem onlyBlocks_sourceSettled {i : SourceId} (h : OnlyBlocks s t) : OnlyBlocks s (sourceSettled i t) := by
  unfold sourceSettled
  exact onlyBlocks_ite
    (onlyBlocks_ite (onlyBlocks_selectSource (onlyBlocks_setSource h)) (onlyBlocks_setSource h)) h

theorem onlyBlocks_switchingExpired (h : OnlyBlocks s t) : OnlyBlocks s (switchingExpired t) := by
  unfold switchingExpired
  exact onlyBlocks_ite h (onlyBlocks_ite (onlyBlocks_selectSource (onlyBlocks_chargeRefresh h)) h)

theorem onlyBlocks_requestRead {p : PortId} (h : OnlyBlocks s t) : OnlyBlocks s (requestRead p t) := h

theorem onlyBlocks_portIntervalEnds {p : PortId} (h : OnlyBlocks s t) : OnlyBlocks s (portIntervalEnds p t) := by
  unfold portIntervalEnds
  exact onlyBlocks_ite (onlyBlocks_requestRead h) h

theorem onlyBlocks_barrelDetect {active : Bool} {reading : AdapterReading} (h : OnlyBlocks s t) :
    OnlyBlocks s (barrelDetect active reading t) := by
  unfold barrelDetect
  exact onlyBlocks_ite h (onlyBlocks_ite h (onlyBlocks_updateSource h))

theorem onlyBlocks_adapterChanges {reading : AdapterReading} (h : OnlyBlocks s t) :
    OnlyBlocks s (adapterChanges reading t) := by
  unfold adapterChanges
  exact onlyBlocks_ite (onlyBlocks_updateSource h) h

theorem onlyBlocks_pSysSampled {reading : Nat} (h : OnlyBlocks s t) : OnlyBlocks s (pSysSampled reading t) := by
  unfold pSysSampled
  exact onlyBlocks_judgeOverload (onlyBlocks_chargeRefresh h)

/-! ## The pack bus (R19 to R35) -/

theorem onlyBlocks_lineFound (h : OnlyBlocks s t) : OnlyBlocks s (lineFound t) := h

theorem onlyBlocks_lineLevel {high : Bool} (h : OnlyBlocks s t) : OnlyBlocks s (lineLevel high t) := h

theorem onlyBlocks_startAttempt {x : Transaction} (h : OnlyBlocks s t) : OnlyBlocks s (startAttempt x t) := by
  unfold startAttempt
  exact onlyBlocks_ite (onlyBlocks_lineFound h) h

theorem onlyBlocks_startTransaction {device : BusDevice} {passthrough : Bool} {op : BusOp} (h : OnlyBlocks s t) :
    OnlyBlocks s (startTransaction device passthrough op t) := by
  unfold startTransaction
  exact onlyBlocks_startAttempt h

theorem onlyBlocks_beginTurn {poller : BusDevice} {work : TurnWork} {ops : List BusOp} (h : OnlyBlocks s t) :
    OnlyBlocks s (beginTurn poller work ops t) := by
  cases ops with
  | nil => exact h
  | cons op rest => exact onlyBlocks_startTransaction h

theorem onlyBlocks_beginPackTurn {p : PackId} (h : OnlyBlocks s t) : OnlyBlocks s (beginPackTurn p t) := by
  unfold beginPackTurn
  exact onlyBlocks_beginTurn (onlyBlocks_modSchedule h)

theorem onlyBlocks_beginPortTurn {p : PortId} (h : OnlyBlocks s t) : OnlyBlocks s (beginPortTurn p t) := by
  unfold beginPortTurn
  exact onlyBlocks_beginTurn h

theorem onlyBlocks_beginPollerTurn {d : BusDevice} (h : OnlyBlocks s t) : OnlyBlocks s (beginPollerTurn d t) := by
  cases d with
  | packA | packB => exact onlyBlocks_beginPackTurn h
  | port1 | port2 => exact onlyBlocks_beginPortTurn h

theorem onlyBlocks_grantPoller (h : OnlyBlocks s t) : OnlyBlocks s (grantPoller t) := by
  unfold grantPoller
  split
  · exact onlyBlocks_beginPollerTurn h
  · exact h

theorem onlyBlocks_grantTurn (h : OnlyBlocks s t) : OnlyBlocks s (grantTurn t) := by
  unfold grantTurn
  split
  · split
    · exact onlyBlocks_startTransaction h
    · exact onlyBlocks_grantPoller h
  · exact onlyBlocks_grantPoller h

theorem onlyBlocks_busGrant (h : OnlyBlocks s t) : OnlyBlocks s (busGrant t) := by
  unfold busGrant
  refine onlyBlocks_ite h ?_
  split
  · exact onlyBlocks_ite (onlyBlocks_grantTurn h) (onlyBlocks_startTransaction h)
  · exact onlyBlocks_grantTurn h

theorem onlyBlocks_endTurn (h : OnlyBlocks s t) : OnlyBlocks s (endTurn t) := h

theorem onlyBlocks_switchWritten {p : PackId} {w : Word16} {good : Bool} (h : OnlyBlocks s t) :
    OnlyBlocks s (switchWritten p w good t) := by
  unfold switchWritten
  exact onlyBlocks_ite (onlyBlocks_modRecord h) h

theorem onlyBlocks_readsGood {p : PackId} {work : TurnWork} {ws : List Word16} (h : OnlyBlocks s t) :
    OnlyBlocks s (readsGood p work ws t) := by
  unfold readsGood
  split
  · exact onlyBlocks_goodIdentification h
  · exact onlyBlocks_goodPoll h

theorem onlyBlocks_readsFailed {p : PackId} {work : TurnWork} (h : OnlyBlocks s t) :
    OnlyBlocks s (readsFailed p work t) := by
  unfold readsFailed
  split
  · exact onlyBlocks_modSchedule (onlyBlocks_failedPoll h)
  · exact onlyBlocks_schedulePoll (onlyBlocks_failedPoll h)

theorem onlyBlocks_packOutcome {p : PackId} {x : Turn} {op : BusOp} {result : Option (List Byte)}
    (h : OnlyBlocks s t) : OnlyBlocks s (packOutcome p x op result t) := by
  unfold packOutcome
  split
  · exact onlyBlocks_ite (onlyBlocks_endTurn (onlyBlocks_switchWritten h)) (onlyBlocks_switchWritten h)
  · split
    · exact onlyBlocks_readsFailed (onlyBlocks_endTurn h)
    · exact onlyBlocks_ite (onlyBlocks_readsGood (onlyBlocks_endTurn h)) h

theorem onlyBlocks_portOutcome {p : PortId} {result : Option (List Byte)} (h : OnlyBlocks s t) :
    OnlyBlocks s (portOutcome p result t) := by
  cases result with
  | none => exact onlyBlocks_endTurn h
  | some block => exact onlyBlocks_contractDelivered (onlyBlocks_endTurn h)

theorem onlyBlocks_pollerOutcome {d : BusDevice} {op : BusOp} {result : Option (List Byte)} (h : OnlyBlocks s t) :
    OnlyBlocks s (pollerOutcome d op result t) := by
  unfold pollerOutcome
  split
  · exact h
  · cases d with
    | packA | packB => exact onlyBlocks_packOutcome h
    | port1 | port2 => exact onlyBlocks_portOutcome h

theorem onlyBlocks_passthroughOutcome {result : Option (List Byte)} (h : OnlyBlocks s t) :
    OnlyBlocks s (passthroughOutcome result t) := by
  unfold passthroughOutcome
  split
  · exact h
  · exact onlyBlocks_answerPassthrough h

theorem onlyBlocks_endTransaction {x : Transaction} {result : Option (List Byte)} (h : OnlyBlocks s t) :
    OnlyBlocks s (endTransaction x result t) := by
  unfold endTransaction
  exact onlyBlocks_ite (onlyBlocks_passthroughOutcome h) (onlyBlocks_ite h (onlyBlocks_pollerOutcome h))

theorem onlyBlocks_attemptFails {x : Transaction} (h : OnlyBlocks s t) : OnlyBlocks s (attemptFails x t) := by
  unfold attemptFails
  exact onlyBlocks_ite (onlyBlocks_endTransaction h) (onlyBlocks_startAttempt h)

theorem onlyBlocks_attemptEnded {result : AttemptResult} (h : OnlyBlocks s t) :
    OnlyBlocks s (attemptEnded result t) := by
  unfold attemptEnded
  split
  · exact h
  · refine onlyBlocks_ite h ?_
    cases result with
    | notAcked => exact onlyBlocks_attemptFails h
    | acked data => exact onlyBlocks_ite (onlyBlocks_endTransaction h) (onlyBlocks_attemptFails h)

theorem onlyBlocks_recoveryFailed {x : Transaction} (h : OnlyBlocks s t) : OnlyBlocks s (recoveryFailed x t) := by
  unfold recoveryFailed
  exact onlyBlocks_attemptFails (onlyBlocks_ite (onlyBlocks_detectMild h) h)

theorem onlyBlocks_recoveryEnded {lineHigh : Bool} (h : OnlyBlocks s t) : OnlyBlocks s (recoveryEnded lineHigh t) := by
  unfold recoveryEnded
  split
  · exact h
  · exact onlyBlocks_ite h (onlyBlocks_ite (onlyBlocks_lineFound h) (onlyBlocks_recoveryFailed h))

theorem onlyBlocks_busAttemptEnds {result : AttemptResult} {lineHigh : Bool} (h : OnlyBlocks s t) :
    OnlyBlocks s (busAttemptEnds result lineHigh t) := by
  unfold busAttemptEnds
  exact onlyBlocks_attemptEnded (onlyBlocks_lineLevel h)

theorem onlyBlocks_attemptTimesOut {lineHigh : Bool} (h : OnlyBlocks s t) :
    OnlyBlocks s (attemptTimesOut lineHigh t) := by
  unfold attemptTimesOut
  exact onlyBlocks_attemptEnded (onlyBlocks_lineLevel h)

theorem onlyBlocks_busRecovers {lineHigh : Bool} (h : OnlyBlocks s t) : OnlyBlocks s (busRecovers lineHigh t) := by
  unfold busRecovers
  exact onlyBlocks_recoveryEnded (onlyBlocks_lineLevel h)

/-! ## Indicators and fault clearing (R167 to R173) -/

theorem onlyBlocks_refreshChargeLed (h : OnlyBlocks s t) : OnlyBlocks s (refreshChargeLed t) := h

theorem onlyBlocks_refreshPowerLed (h : OnlyBlocks s t) : OnlyBlocks s (refreshPowerLed t) := h

theorem onlyBlocks_chargePhaseEnds (h : OnlyBlocks s t) : OnlyBlocks s (chargePhaseEnds t) := by
  unfold chargePhaseEnds
  exact onlyBlocks_ite (onlyBlocks_ite (onlyBlocks_refreshChargeLed h) h) h

theorem onlyBlocks_phaseEnds {led : LedId} (h : OnlyBlocks s t) : OnlyBlocks s (phaseEnds led t) := by
  cases led with
  | power => exact onlyBlocks_ite h h
  | charge => exact onlyBlocks_ite (onlyBlocks_chargePhaseEnds h) h

theorem onlyBlocks_setLed {power invert : Bool} {override : Option Show} (h : OnlyBlocks s t) :
    OnlyBlocks s (setLed power override invert t) := by
  unfold setLed
  exact onlyBlocks_ite (onlyBlocks_refreshPowerLed h) (onlyBlocks_refreshChargeLed h)

theorem onlyBlocks_redetect {mask : Nat} {k : FaultKind} (h : OnlyBlocks s t) : OnlyBlocks s (redetect mask t k) := by
  unfold redetect
  exact onlyBlocks_ite (onlyBlocks_detect h) h

theorem onlyBlocks_clearPackCauses {mask : Nat} (h : OnlyBlocks s t) : OnlyBlocks s (clearPackCauses mask t) := by
  unfold clearPackCauses
  exact onlyBlocks_clearCauses (onlyBlocks_clearCauses h)

theorem onlyBlocks_clearNamed {mask : Nat} (h : OnlyBlocks s t) : OnlyBlocks s (clearNamed mask t) := h

theorem onlyBlocks_clearAndRedetect {mask : Nat} (h : OnlyBlocks s t) : OnlyBlocks s (clearAndRedetect mask t) := by
  unfold clearAndRedetect
  exact onlyBlocks_foldl _ onlyBlocks_redetect (onlyBlocks_clearPackCauses (onlyBlocks_clearNamed h))

theorem onlyBlocks_releaseAtClear {mask : Nat} (h : OnlyBlocks s t) : OnlyBlocks s (releaseAtClear mask t) := by
  unfold releaseAtClear
  exact onlyBlocks_ite h (h.platform (setLevel_reach _ _))

/-! ## Requests: the state after a request has been served -/

theorem onlyBlocks_servePing {p : List Byte} (h : OnlyBlocks s t) : OnlyBlocks s (servePing p t).1 := by
  unfold servePing
  exact onlyBlocks_fst_ite h h

theorem onlyBlocks_serveLinkStart {p : List Byte} (h : OnlyBlocks s t) : OnlyBlocks s (serveLinkStart p t).1 := by
  unfold serveLinkStart
  exact onlyBlocks_fst_ite h h

theorem onlyBlocks_serveStatusGet {p : List Byte} (h : OnlyBlocks s t) : OnlyBlocks s (serveStatusGet p t).1 := by
  unfold serveStatusGet
  exact onlyBlocks_fst_ite h h

theorem onlyBlocks_serveRestart {p : List Byte} (h : OnlyBlocks s t) : OnlyBlocks s (serveRestart p t) := by
  unfold serveRestart
  exact onlyBlocks_ite (onlyBlocks_deliver h) (onlyBlocks_deliver h)

theorem onlyBlocks_serveUnknown {p : List Byte} (h : OnlyBlocks s t) : OnlyBlocks s (serveUnknown p t).1 := h

theorem onlyBlocks_layOut {key notice : Area} {level limit : Nat} (h : OnlyBlocks s t) :
    OnlyBlocks s (layOut key notice level limit t) := by
  unfold layOut
  exact onlyBlocks_ite (onlyBlocks_detectMild h) h

theorem onlyBlocks_serveLinkSetup {p : List Byte} (h : OnlyBlocks s t) : OnlyBlocks s (serveLinkSetup p t).1 := by
  unfold serveLinkSetup
  exact onlyBlocks_fst_ite h (onlyBlocks_fst_ite h (onlyBlocks_fst_ite h (onlyBlocks_layOut h)))

theorem onlyBlocks_readWords {queue : Byte} {words : List WordCheck} (h : OnlyBlocks s t) :
    OnlyBlocks s (readWords queue words t).1 := by
  have h1 (r : ReportMemory) : OnlyBlocks s { t with rpm := r } := h
  exact (h1 _).platform (takeReports_frame _ _).onlyPlatform

theorem onlyBlocks_readKeys {fuel want : Nat} (h : OnlyBlocks s t) : OnlyBlocks s (readKeys fuel want t).1 := by
  induction fuel generalizing want t with
  | zero => exact h
  | succ fuel ih =>
    cases want with
    | zero => exact h
    | succ want =>
      unfold readKeys
      split
      · exact h
      · exact onlyBlocks_fst_ite (ih (onlyBlocks_readWords h)) (ih (onlyBlocks_readWords h))

theorem onlyBlocks_readNotices {fuel want : Nat} (h : OnlyBlocks s t) :
    OnlyBlocks s (readNotices fuel want t).1 := by
  induction fuel generalizing want t with
  | zero => exact h
  | succ fuel ih =>
    cases want with
    | zero => exact h
    | succ want =>
      unfold readNotices
      split
      · exact h
      · exact onlyBlocks_fst_ite (ih (onlyBlocks_readWords h)) (ih (onlyBlocks_readWords h))

theorem onlyBlocks_serveQueueRead {p : List Byte} (h : OnlyBlocks s t) : OnlyBlocks s (serveQueueRead p t).1 := by
  unfold serveQueueRead readKeyQueue readNoticeQueue
  exact onlyBlocks_fst_ite h
    (onlyBlocks_fst_ite h (onlyBlocks_fst_ite (onlyBlocks_readKeys h) (onlyBlocks_readNotices h)))

theorem onlyBlocks_serveAttnLevelSet {p : List Byte} (h : OnlyBlocks s t) :
    OnlyBlocks s (serveAttnLevelSet p t).1 := by
  unfold serveAttnLevelSet
  exact onlyBlocks_fst_ite h (onlyBlocks_fst_ite h h)

theorem onlyBlocks_serveSourcePolicy {p : List Byte} (h : OnlyBlocks s t) :
    OnlyBlocks s (serveSourcePolicy p t).1 := by
  unfold serveSourcePolicy
  exact onlyBlocks_fst_ite h (onlyBlocks_fst_ite h
    (onlyBlocks_fst_ite h (onlyBlocks_selectSource (onlyBlocks_chargeRefresh h))))

theorem onlyBlocks_serveSourceStatusGet {p : List Byte} (h : OnlyBlocks s t) :
    OnlyBlocks s (serveSourceStatusGet p t).1 := by
  unfold serveSourceStatusGet
  exact onlyBlocks_fst_ite h h

theorem onlyBlocks_servePackStatusGet {p : List Byte} (h : OnlyBlocks s t) :
    OnlyBlocks s (servePackStatusGet p t).1 := by
  unfold servePackStatusGet
  refine onlyBlocks_fst_ite h (onlyBlocks_fst_ite h (onlyBlocks_fst_ite h (onlyBlocks_fst_ite h ?_)))
  split
  · exact h
  · exact h

theorem onlyBlocks_servePackSnapshot {p : List Byte} (h : OnlyBlocks s t) :
    OnlyBlocks s (servePackSnapshot p t).1 := by
  unfold servePackSnapshot
  exact onlyBlocks_fst_ite h h

theorem onlyBlocks_servePassthrough {type : Byte} {device : Option BusDevice} {op : Option BusOp} {adjusted : Bool}
    (h : OnlyBlocks s t) : OnlyBlocks s (servePassthrough type device op adjusted t) := by
  unfold servePassthrough
  split
  · exact onlyBlocks_ite h (onlyBlocks_deliver h)
  · exact onlyBlocks_deliver h

theorem onlyBlocks_servePackRead {p : List Byte} (h : OnlyBlocks s t) : OnlyBlocks s (servePackRead p t) := by
  unfold servePackRead
  exact onlyBlocks_ite (onlyBlocks_deliver h) (onlyBlocks_servePassthrough h)

theorem onlyBlocks_servePackWrite {p : List Byte} (h : OnlyBlocks s t) : OnlyBlocks s (servePackWrite p t) := by
  unfold servePackWrite
  exact onlyBlocks_ite (onlyBlocks_deliver h) (onlyBlocks_servePassthrough h)

theorem onlyBlocks_putContext {p : PackId} {c : ChargeContext} (h : OnlyBlocks s t) :
    OnlyBlocks s (putContext p c t) := by
  unfold putContext
  exact onlyBlocks_chargeRefresh h

theorem onlyBlocks_serveProfileLoad {p : List Byte} (h : OnlyBlocks s t) : OnlyBlocks s (serveProfileLoad p t).1 := by
  unfold serveProfileLoad
  refine onlyBlocks_fst_ite h ?_
  split
  · exact h
  · exact h
  · exact onlyBlocks_putContext h

theorem onlyBlocks_serveProfileExtend {p : List Byte} (h : OnlyBlocks s t) :
    OnlyBlocks s (serveProfileExtend p t).1 := by
  unfold serveProfileExtend
  refine onlyBlocks_fst_ite h ?_
  split
  · exact h
  · exact h
  · exact onlyBlocks_fst_ite h (onlyBlocks_putContext h)

theorem onlyBlocks_serveProfileGet {p : List Byte} (h : OnlyBlocks s t) : OnlyBlocks s (serveProfileGet p t).1 := by
  unfold serveProfileGet
  refine onlyBlocks_fst_ite h ?_
  split
  · exact h
  · exact onlyBlocks_fst_ite h h

theorem onlyBlocks_serveProfileAbort {p : List Byte} (h : OnlyBlocks s t) :
    OnlyBlocks s (serveProfileAbort p t).1 := by
  unfold serveProfileAbort
  refine onlyBlocks_fst_ite h ?_
  split
  · exact h
  · exact onlyBlocks_putContext h

theorem onlyBlocks_serveChargePolicy {p : List Byte} (h : OnlyBlocks s t) :
    OnlyBlocks s (serveChargePolicy p t).1 := by
  unfold serveChargePolicy
  refine onlyBlocks_fst_ite h (onlyBlocks_fst_ite h ?_)
  split
  · exact h
  · exact onlyBlocks_judgePolicy h

theorem onlyBlocks_serveBudgetGet {p : List Byte} (h : OnlyBlocks s t) : OnlyBlocks s (serveBudgetGet p t).1 := by
  unfold serveBudgetGet
  refine onlyBlocks_fst_ite h (onlyBlocks_fst_ite h (onlyBlocks_fst_ite h ?_))
  split
  · exact h
  · exact h

theorem onlyBlocks_serveTempSupply {p : List Byte} (h : OnlyBlocks s t) : OnlyBlocks s (serveTempSupply p t).1 := by
  unfold serveTempSupply
  exact onlyBlocks_fst_ite h (onlyBlocks_judgeTrip (onlyBlocks_supplyField (onlyBlocks_supplyField h)))

theorem onlyBlocks_serveThermalConfig {p : List Byte} (h : OnlyBlocks s t) :
    OnlyBlocks s (serveThermalConfig p t).1 := by
  unfold serveThermalConfig
  exact onlyBlocks_fst_ite h (onlyBlocks_fst_ite h (onlyBlocks_fst_ite h (onlyBlocks_takeThermal h)))

theorem onlyBlocks_takeCurve {i : FanId} {curve : List CurvePoint} {hysteresis : Nat} {mask : Byte}
    (h : OnlyBlocks s t) : OnlyBlocks s (takeCurve i curve hysteresis mask t) := by
  unfold takeCurve
  exact onlyBlocks_remakeFan h

theorem onlyBlocks_serveFanCurveSet {p : List Byte} (h : OnlyBlocks s t) : OnlyBlocks s (serveFanCurveSet p t).1 := by
  unfold serveFanCurveSet
  exact onlyBlocks_fst_ite h (onlyBlocks_fst_ite h (onlyBlocks_fst_ite h (onlyBlocks_fst_ite h
    (onlyBlocks_fst_ite h (onlyBlocks_takeCurve h)))))

theorem onlyBlocks_serveFanOverride {p : List Byte} (h : OnlyBlocks s t) : OnlyBlocks s (serveFanOverride p t).1 := by
  unfold serveFanOverride
  exact onlyBlocks_fst_ite h (onlyBlocks_fst_ite h (onlyBlocks_fst_ite h (onlyBlocks_fst_ite h
    (onlyBlocks_foldl _ onlyBlocks_setOverride h))))

theorem onlyBlocks_serveThermalStatusGet {p : List Byte} (h : OnlyBlocks s t) :
    OnlyBlocks s (serveThermalStatusGet p t).1 := by
  unfold serveThermalStatusGet
  exact onlyBlocks_fst_ite h h

theorem onlyBlocks_takeKeySettings {x : KeySettings} (h : OnlyBlocks s t) : OnlyBlocks s (takeKeySettings x t) := by
  unfold takeKeySettings
  exact onlyBlocks_ite h h

theorem onlyBlocks_serveKeyConfig {p : List Byte} (h : OnlyBlocks s t) : OnlyBlocks s (serveKeyConfig p t).1 := by
  unfold serveKeyConfig
  exact onlyBlocks_fst_ite h (onlyBlocks_fst_ite h (onlyBlocks_fst_ite h (onlyBlocks_fst_ite h
    (onlyBlocks_takeKeySettings h))))

theorem onlyBlocks_serveKeyStateGet {p : List Byte} (h : OnlyBlocks s t) : OnlyBlocks s (serveKeyStateGet p t).1 := by
  unfold serveKeyStateGet
  exact onlyBlocks_fst_ite h h

theorem onlyBlocks_serveKeymapSet {p : List Byte} (h : OnlyBlocks s t) : OnlyBlocks s (serveKeymapSet p t).1 := by
  unfold serveKeymapSet
  exact onlyBlocks_fst_ite h (onlyBlocks_fst_ite h (onlyBlocks_fst_ite h h))

theorem onlyBlocks_serveKeymapGet {p : List Byte} (h : OnlyBlocks s t) : OnlyBlocks s (serveKeymapGet p t).1 := by
  unfold serveKeymapGet
  exact onlyBlocks_fst_ite h (onlyBlocks_fst_ite h h)

theorem onlyBlocks_serveBacklightSet {p : List Byte} (h : OnlyBlocks s t) :
    OnlyBlocks s (serveBacklightSet p t).1 := by
  unfold serveBacklightSet
  exact onlyBlocks_fst_ite h (onlyBlocks_fst_ite h h)

theorem onlyBlocks_serveWakeConfig {p : List Byte} (h : OnlyBlocks s t) : OnlyBlocks s (serveWakeConfig p t).1 := by
  unfold serveWakeConfig
  exact onlyBlocks_fst_ite h (onlyBlocks_fst_ite h (onlyBlocks_fst_ite h (onlyBlocks_takeWakeConfig h)))

theorem onlyBlocks_serveWakeStatus {p : List Byte} (h : OnlyBlocks s t) : OnlyBlocks s (serveWakeStatus p t).1 := by
  unfold serveWakeStatus
  exact onlyBlocks_fst_ite h (onlyBlocks_fst_ite h (onlyBlocks_takeWakeStatus h))

theorem onlyBlocks_serveWakeTimerSet {p : List Byte} (h : OnlyBlocks s t) :
    OnlyBlocks s (serveWakeTimerSet p t).1 := by
  unfold serveWakeTimerSet
  exact onlyBlocks_fst_ite h h

theorem onlyBlocks_serveTransition {p : List Byte} (h : OnlyBlocks s t) : OnlyBlocks s (serveTransition p t).1 := by
  unfold serveTransition
  exact onlyBlocks_fst_ite h (onlyBlocks_fst_ite h (onlyBlocks_takeTransition h))

theorem onlyBlocks_servePlatformSettings {p : List Byte} (h : OnlyBlocks s t) :
    OnlyBlocks s (servePlatformSettings p t).1 := by
  unfold servePlatformSettings
  exact onlyBlocks_fst_ite h (onlyBlocks_fst_ite (onlyBlocks_serveTransition h)
    (onlyBlocks_fst_ite h (onlyBlocks_takeSeqSettings h)))

theorem onlyBlocks_serveFaultGet {p : List Byte} (h : OnlyBlocks s t) : OnlyBlocks s (serveFaultGet p t).1 := by
  unfold serveFaultGet
  exact onlyBlocks_fst_ite h (onlyBlocks_fst_ite h (onlyBlocks_fst_ite h h))

theorem onlyBlocks_serveFaultClear {p : List Byte} (h : OnlyBlocks s t) : OnlyBlocks s (serveFaultClear p t).1 := by
  unfold serveFaultClear
  exact onlyBlocks_fst_ite h (onlyBlocks_fst_ite h
    (onlyBlocks_releaseAtClear (onlyBlocks_refreshChargeLed (onlyBlocks_clearAndRedetect h))))

theorem onlyBlocks_serveFaultMaskSet {p : List Byte} (h : OnlyBlocks s t) :
    OnlyBlocks s (serveFaultMaskSet p t).1 := by
  unfold serveFaultMaskSet
  exact onlyBlocks_fst_ite h (onlyBlocks_fst_ite h (onlyBlocks_fst_ite h h))

theorem onlyBlocks_serveContainmentSet {p : List Byte} (h : OnlyBlocks s t) :
    OnlyBlocks s (serveContainmentSet p t).1 := by
  unfold serveContainmentSet
  refine onlyBlocks_fst_ite h (onlyBlocks_fst_ite h ?_)
  split
  · exact h
  · exact h

theorem onlyBlocks_serveIndicatorSet {p : List Byte} (h : OnlyBlocks s t) :
    OnlyBlocks s (serveIndicatorSet p t).1 := by
  unfold serveIndicatorSet
  exact onlyBlocks_fst_ite h (onlyBlocks_fst_ite h (onlyBlocks_setLed h))

/-! ## Bring-up and the controller restart (R188) -/

/-- A new scanner, whatever it is: named, so that its key table is not computed where one is put in place. -/
theorem onlyBlocks_withScanner {x : Scanner} (h : OnlyBlocks s t) : OnlyBlocks s { t with kbs := x } := h

theorem onlyBlocks_bringKeyboard (h : OnlyBlocks s t) : OnlyBlocks s (bringKeyboard t) := by
  unfold bringKeyboard
  exact onlyBlocks_withScanner h

theorem onlyBlocks_bringPosture (h : OnlyBlocks s t) : OnlyBlocks s (bringPosture t) := by
  unfold bringPosture
  exact onlyBlocks_ite (onlyBlocks_detectMild h) (onlyBlocks_endFault h)

theorem onlyBlocks_bringBarrel (h : OnlyBlocks s t) : OnlyBlocks s (bringBarrel t) := by
  unfold bringBarrel
  exact onlyBlocks_ite (onlyBlocks_updateSource h) h

theorem onlyBlocks_bringCharge (h : OnlyBlocks s t) : OnlyBlocks s (bringCharge t) := h

theorem onlyBlocks_bringPackFaults (h : OnlyBlocks s t) : OnlyBlocks s (bringPackFaults t) := by
  unfold bringPackFaults
  exact onlyBlocks_ite h (onlyBlocks_endFault (onlyBlocks_endFault (onlyBlocks_endFault h)))

theorem onlyBlocks_bringThermal (h : OnlyBlocks s t) : OnlyBlocks s (bringThermal t) := by
  unfold bringThermal
  exact onlyBlocks_convertBoard h

theorem onlyBlocks_bringFan {i : FanId} (h : OnlyBlocks s t) : OnlyBlocks s (bringFan i t) := by
  unfold bringFan
  exact onlyBlocks_ite (onlyBlocks_remakeFan h) h

theorem onlyBlocks_bringConditions (h : OnlyBlocks s t) : OnlyBlocks s (bringConditions t) := by
  unfold bringConditions
  exact onlyBlocks_judgeWakeCondition
    (onlyBlocks_judgeTrip (onlyBlocks_endFault (onlyBlocks_ite h (onlyBlocks_endFault h))))

theorem onlyBlocks_bringEnds (h : OnlyBlocks s t) : OnlyBlocks s (bringEnds t) := by
  unfold bringEnds
  exact onlyBlocks_endFault (onlyBlocks_endFault h)

theorem onlyBlocks_bringUp (h : OnlyBlocks s t) : OnlyBlocks s (bringUp t) := by
  unfold bringUp
  extract_lets t1 t2 t3
  have h1 : OnlyBlocks s t1 := onlyBlocks_bringEnds (onlyBlocks_bringPackFaults (onlyBlocks_setSwitches
    (onlyBlocks_bringBarrel (onlyBlocks_bringPosture (onlyBlocks_bringKeyboard h)))))
  have h2 : OnlyBlocks s t2 := onlyBlocks_bringCharge (onlyBlocks_bringThermal h1)
  have h3 : OnlyBlocks s t3 := onlyBlocks_bringFan (onlyBlocks_bringFan h2)
  exact onlyBlocks_bringConditions
    (onlyBlocks_refreshChargeLed (onlyBlocks_refreshPowerLed (onlyBlocks_judgeThrottle h3)))

/-- A controller restart is no power-on reset: straps and uptime stand (R188). -/
theorem onlyBlocks_controllerRestart (h : OnlyBlocks s t) : OnlyBlocks s (controllerRestart t) := by
  unfold controllerRestart
  exact onlyBlocks_bringUp h

/-- Power-on reset samples the straps, and the uptime counter begins at 0 (R1, R2). -/
theorem onlyBlocks_powerOn (straps : Straps) (inputs : Inputs) (pending : List Instr) :
    OnlyBlocks (powerOnBase straps inputs pending) (powerOn straps inputs pending) := by
  unfold powerOn
  exact onlyBlocks_busGrant (onlyBlocks_bringUp (.refl _))

theorem onlyBlocks_replySent (h : OnlyBlocks s t) : OnlyBlocks s (replySent t) := by
  unfold replySent
  split
  · exact h
  · exact onlyBlocks_ite (onlyBlocks_controllerRestart h) (onlyBlocks_takeRoom h)

theorem onlyBlocks_lineBreaks (h : OnlyBlocks s t) : OnlyBlocks s (lineBreaks t) := by
  unfold lineBreaks
  exact onlyBlocks_ite (onlyBlocks_controllerRestart h) h

/-! ## The expiries of an idle millisecond (log 1, log 36) -/

theorem onlyBlocks_whenDue {due : State → Bool} {act : State → State}
    (ha : ∀ {u}, OnlyBlocks s u → OnlyBlocks s (act u)) (h : OnlyBlocks s t) : OnlyBlocks s (whenDue due act t) := by
  unfold whenDue
  exact onlyBlocks_ite (onlyBlocks_offerAtOff (ha h)) h

theorem onlyBlocks_sourceExpiries (h : OnlyBlocks s t) : OnlyBlocks s (sourceExpiries t) := by
  unfold sourceExpiries
  exact onlyBlocks_foldl _ (onlyBlocks_whenDue onlyBlocks_portIntervalEnds)
    (onlyBlocks_whenDue onlyBlocks_switchingExpired
      (onlyBlocks_foldl _ (onlyBlocks_whenDue onlyBlocks_sourceSettled) h))

theorem onlyBlocks_packExpiries (h : OnlyBlocks s t) : OnlyBlocks s (packExpiries t) := by
  unfold packExpiries
  exact onlyBlocks_foldl _
    (fun hu => onlyBlocks_whenDue onlyBlocks_pollFalls (onlyBlocks_whenDue onlyBlocks_identificationFalls hu))
    (onlyBlocks_whenDue onlyBlocks_attemptTimesOut h)

theorem onlyBlocks_chargeExpiries (h : OnlyBlocks s t) : OnlyBlocks s (chargeExpiries t) := by
  unfold chargeExpiries
  exact onlyBlocks_foldl _
    (fun hu => onlyBlocks_whenDue onlyBlocks_limitExpired (onlyBlocks_whenDue onlyBlocks_restEnded hu)) h

theorem onlyBlocks_thermalExpiries (h : OnlyBlocks s t) : OnlyBlocks s (thermalExpiries t) := by
  unfold thermalExpiries
  exact onlyBlocks_foldl _
    (fun hu => onlyBlocks_whenDue onlyBlocks_overrideExpired (onlyBlocks_whenDue id hu))
    (onlyBlocks_whenDue onlyBlocks_evaluateFans
      (onlyBlocks_foldl _ (onlyBlocks_whenDue onlyBlocks_freshnessReached) h))

theorem onlyBlocks_keyExpiries (h : OnlyBlocks s t) : OnlyBlocks s (keyExpiries t) := by
  unfold keyExpiries
  exact onlyBlocks_whenDue onlyBlocks_typeExpired (onlyBlocks_whenDue onlyBlocks_passStarts h)

theorem onlyBlocks_inputExpiries (h : OnlyBlocks s t) : OnlyBlocks s (inputExpiries t) := by
  unfold inputExpiries
  extract_lets t1 t2 t3 t4 t5
  have h1 : OnlyBlocks s t1 := onlyBlocks_whenDue onlyBlocks_lidSettled h
  have h2 : OnlyBlocks s t2 := onlyBlocks_whenDue onlyBlocks_hingeSettled h1
  have h3 : OnlyBlocks s t3 := onlyBlocks_whenDue onlyBlocks_hingeSettled h2
  have h4 : OnlyBlocks s t4 := onlyBlocks_whenDue onlyBlocks_buttonSettled h3
  have h5 : OnlyBlocks s t5 := onlyBlocks_whenDue onlyBlocks_wakeTimerRunsOut h4
  exact onlyBlocks_whenDue onlyBlocks_overrideTimeReached h5

theorem onlyBlocks_sequencerExpiries (h : OnlyBlocks s t) : OnlyBlocks s (sequencerExpiries t) := by
  unfold sequencerExpiries
  extract_lets t1 t2 t3 t4
  have h1 : OnlyBlocks s t1 := onlyBlocks_whenDue onlyBlocks_stepWaitExpired h
  have h2 : OnlyBlocks s t2 := onlyBlocks_whenDue onlyBlocks_resetHoldExpired h1
  have h3 : OnlyBlocks s t3 := onlyBlocks_whenDue onlyBlocks_standbyDelayExpired h2
  have h4 : OnlyBlocks s t4 := onlyBlocks_whenDue onlyBlocks_offDelayExpired h3
  exact onlyBlocks_whenDue onlyBlocks_restartHoldEnded (onlyBlocks_whenDue onlyBlocks_graceExpired h4)

theorem onlyBlocks_lineExpiries (h : OnlyBlocks s t) : OnlyBlocks s (lineExpiries t) := by
  unfold lineExpiries
  exact onlyBlocks_whenDue onlyBlocks_gapRunsOut
    (onlyBlocks_whenDue onlyBlocks_phaseEnds (onlyBlocks_whenDue onlyBlocks_phaseEnds h))

theorem onlyBlocks_expiries (h : OnlyBlocks s t) : OnlyBlocks s (expiries t) := by
  unfold expiries
  exact onlyBlocks_lineExpiries (onlyBlocks_sequencerExpiries (onlyBlocks_inputExpiries (onlyBlocks_keyExpiries
    (onlyBlocks_thermalExpiries (onlyBlocks_chargeExpiries (onlyBlocks_packExpiries (onlyBlocks_sourceExpiries h)))))))

/-- After the counts have moved, nothing that the millisecond brings touches straps, queue or uptime. -/
theorem onlyBlocks_tick (s : State) : OnlyBlocks (advance s) (tick s) := by
  unfold tick
  exact onlyBlocks_busGrant (onlyBlocks_expiries (.refl _))

/-! ## Commands -/

/-- A meaning whose next state differs from `s` in blocks and inputs alone. -/
def EndsInBlocks (s : State) (o : Host.Outcome State Fault Refusal) : Prop := ∀ t, o = .next t → OnlyBlocks s t

/-- What every command leaves for its end keeps to the blocks too (R21, R138). -/
theorem endsInBlocks_finish (h : OnlyBlocks s t) : EndsInBlocks s (finish s t) := by
  intro u hu
  injection hu with hu
  subst hu
  exact onlyBlocks_busGrant (onlyBlocks_offerAtOff h)

theorem endsInBlocks_request {type : Byte} {payload : List Byte} {serve : List Byte → State → State × List Byte}
    (hs : ∀ {t p u}, OnlyBlocks t u → OnlyBlocks t (serve p u).1) :
    EndsInBlocks s (finish s (request type serve payload s)) :=
  endsInBlocks_finish (onlyBlocks_request hs (.refl s))

/-- Every command but POWER_ON_RESET keeps to the blocks: one arm for each row of the table. -/
theorem exec_endsInBlocks (c : Instr) (s : State) (hc : ∀ straps inputs, c ≠ .powerOnReset straps inputs) :
    EndsInBlocks s (exec c s) := by
  have h : OnlyBlocks s s := .refl s
  cases c with
  | powerOnReset straps inputs => exact absurd rfl (hc straps inputs)
  | ping p => exact endsInBlocks_request onlyBlocks_servePing
  | linkStart p => exact endsInBlocks_request onlyBlocks_serveLinkStart
  | statusGet p => exact endsInBlocks_request onlyBlocks_serveStatusGet
  | controllerRestart p => exact endsInBlocks_finish (onlyBlocks_receive onlyBlocks_serveRestart h)
  | linkSetup p => exact endsInBlocks_request onlyBlocks_serveLinkSetup
  | queueRead p => exact endsInBlocks_request onlyBlocks_serveQueueRead
  | attnLevelSet p => exact endsInBlocks_request onlyBlocks_serveAttnLevelSet
  | sourcePolicy p => exact endsInBlocks_request onlyBlocks_serveSourcePolicy
  | sourceStatusGet p => exact endsInBlocks_request onlyBlocks_serveSourceStatusGet
  | packStatusGet p => exact endsInBlocks_request onlyBlocks_servePackStatusGet
  | packSnapshot p => exact endsInBlocks_request onlyBlocks_servePackSnapshot
  | packRead p => exact endsInBlocks_finish (onlyBlocks_receive onlyBlocks_servePackRead h)
  | packWrite p => exact endsInBlocks_finish (onlyBlocks_receive onlyBlocks_servePackWrite h)
  | profileLoad p => exact endsInBlocks_request onlyBlocks_serveProfileLoad
  | profileExtend p => exact endsInBlocks_request onlyBlocks_serveProfileExtend
  | profileGet p => exact endsInBlocks_request onlyBlocks_serveProfileGet
  | profileAbort p => exact endsInBlocks_request onlyBlocks_serveProfileAbort
  | chargePolicy p => exact endsInBlocks_request onlyBlocks_serveChargePolicy
  | budgetGet p => exact endsInBlocks_request onlyBlocks_serveBudgetGet
  | tempSupply p => exact endsInBlocks_request onlyBlocks_serveTempSupply
  | thermalConfig p => exact endsInBlocks_request onlyBlocks_serveThermalConfig
  | fanCurveSet p => exact endsInBlocks_request onlyBlocks_serveFanCurveSet
  | fanOverride p => exact endsInBlocks_request onlyBlocks_serveFanOverride
  | thermalStatusGet p => exact endsInBlocks_request onlyBlocks_serveThermalStatusGet
  | keyConfig p => exact endsInBlocks_request onlyBlocks_serveKeyConfig
  | keyStateGet p => exact endsInBlocks_request onlyBlocks_serveKeyStateGet
  | keymapSet p => exact endsInBlocks_request onlyBlocks_serveKeymapSet
  | keymapGet p => exact endsInBlocks_request onlyBlocks_serveKeymapGet
  | backlightSet p => exact endsInBlocks_request onlyBlocks_serveBacklightSet
  | wakeConfig p => exact endsInBlocks_request onlyBlocks_serveWakeConfig
  | wakeStatus p => exact endsInBlocks_request onlyBlocks_serveWakeStatus
  | wakeTimerSet p => exact endsInBlocks_request onlyBlocks_serveWakeTimerSet
  | platformRequestTransition value => exact endsInBlocks_request onlyBlocks_serveTransition
  | platformRequestSettings p => exact endsInBlocks_request onlyBlocks_servePlatformSettings
  | faultGet p => exact endsInBlocks_request onlyBlocks_serveFaultGet
  | faultClear p => exact endsInBlocks_request onlyBlocks_serveFaultClear
  | faultMaskSet p => exact endsInBlocks_request onlyBlocks_serveFaultMaskSet
  | containmentSet p => exact endsInBlocks_request onlyBlocks_serveContainmentSet
  | indicatorSet p => exact endsInBlocks_request onlyBlocks_serveIndicatorSet
  | unknownType type p => exact endsInBlocks_request onlyBlocks_serveUnknown
  | framingError => exact endsInBlocks_finish (onlyBlocks_framingErrors h)
  | byteOverrun => exact endsInBlocks_finish (onlyBlocks_byteOverruns h)
  | skippedByte value => exact endsInBlocks_finish (onlyBlocks_countError h)
  | gapTimeout taken => exact endsInBlocks_finish (onlyBlocks_gapTimesOut h)
  | lengthFault type length => exact endsInBlocks_finish (onlyBlocks_faultyFrame h)
  | checkFault type p check => exact endsInBlocks_finish (onlyBlocks_faultyFrame h)
  | replySent => exact endsInBlocks_finish (onlyBlocks_replySent h)
  | lineBreak => exact endsInBlocks_finish (onlyBlocks_lineBreaks h)
  | barrelDetectChange active reading => exact endsInBlocks_finish (onlyBlocks_barrelDetect h)
  | adapterIdentificationChange reading => exact endsInBlocks_finish (onlyBlocks_adapterChanges h)
  | portAlert port => exact endsInBlocks_finish (onlyBlocks_requestRead h)
  | portReadInterval port => exact endsInBlocks_finish (onlyBlocks_portIntervalEnds h)
  | settleTimeReached source => exact endsInBlocks_finish (onlyBlocks_sourceSettled h)
  | switchingExpiry => exact endsInBlocks_finish (onlyBlocks_switchingExpired h)
  | pSysSample reading => exact endsInBlocks_finish (onlyBlocks_pSysSampled h)
  | busAttemptEnd result lineHigh => exact endsInBlocks_finish (onlyBlocks_busAttemptEnds h)
  | attemptTimeout lineHigh => exact endsInBlocks_finish (onlyBlocks_attemptTimesOut h)
  | busRecoveryEnd lineHigh => exact endsInBlocks_finish (onlyBlocks_busRecovers h)
  | packPresenceChange pack active => exact endsInBlocks_finish (onlyBlocks_presenceChanges h)
  | identificationDue pack => exact endsInBlocks_finish (onlyBlocks_identificationFalls h)
  | pollDue pack => exact endsInBlocks_finish (onlyBlocks_pollFalls h)
  | channelFaultInputChange pack active => exact endsInBlocks_finish (onlyBlocks_channelFaultChanges h)
  | restEnd pack => exact endsInBlocks_finish (onlyBlocks_restEnded h)
  | stageLimitExpiry pack => exact endsInBlocks_finish (onlyBlocks_limitExpired h)
  | boardConversion cpu charger skin ambient => exact endsInBlocks_finish (onlyBlocks_boardConverted h)
  | freshnessTimeReached sensor => exact endsInBlocks_finish (onlyBlocks_freshnessReached h)
  | fanEvaluation => exact endsInBlocks_finish (onlyBlocks_evaluateFans h)
  | spinUpEnd fan => exact endsInBlocks_finish h
  | tachWindowEnd fan pulses => exact endsInBlocks_finish (onlyBlocks_tachEnded h)
  | overrideExpiry fan => exact endsInBlocks_finish (onlyBlocks_overrideExpired h)
  | scanPassStart => exact endsInBlocks_finish (onlyBlocks_passStarts h)
  | scanPassEnd samples => exact endsInBlocks_finish (onlyBlocks_passEnds h)
  | typematicExpiry => exact endsInBlocks_finish (onlyBlocks_typeExpired h)
  | lidInputChange closed => exact endsInBlocks_finish (onlyBlocks_lidInput h)
  | lidSettleExpiry => exact endsInBlocks_finish (onlyBlocks_lidSettled h)
  | hingeInputChange hinge active => exact endsInBlocks_finish (onlyBlocks_hingeInput h)
  | hingeSettleExpiry hinge => exact endsInBlocks_finish (onlyBlocks_hingeSettled h)
  | extInputChange input high => exact endsInBlocks_finish (onlyBlocks_extInput h)
  | wakeTimerExpiry => exact endsInBlocks_finish (onlyBlocks_wakeTimerExpired h)
  | buttonInputChange pressed => exact endsInBlocks_finish (onlyBlocks_buttonInput h)
  | buttonSettleExpiry => exact endsInBlocks_finish (onlyBlocks_buttonSettled h)
  | overrideTimeReached => exact endsInBlocks_finish (onlyBlocks_overrideTimeReached h)
  | spgRise => exact endsInBlocks_finish (onlyBlocks_spgRises h)
  | mpgRise => exact endsInBlocks_finish (onlyBlocks_mpgRises h)
  | stepWaitExpiry => exact endsInBlocks_finish (onlyBlocks_stepWaitExpired h)
  | powerGoodLoss input => exact endsInBlocks_finish (onlyBlocks_powerGoodFalls h)
  | resetHoldExpiry => exact endsInBlocks_finish (onlyBlocks_resetHoldExpired h)
  | standbyDelayExpiry => exact endsInBlocks_finish (onlyBlocks_standbyDelayExpired h)
  | offDelayExpiry => exact endsInBlocks_finish (onlyBlocks_offDelayExpired h)
  | graceExpiry => exact endsInBlocks_finish (onlyBlocks_graceExpired h)
  | restartHoldEnd => exact endsInBlocks_finish (onlyBlocks_restartHoldEnded h)
  | ledPhaseEnd led => exact endsInBlocks_finish (onlyBlocks_phaseEnds h)

/-- POWER_ON_RESET puts the uptime counter at 0, takes the straps it samples, and leaves the queue (R1, R2; log 42). -/
theorem exec_powerOnReset_outside {straps : Straps} {inputs : Inputs} (h : exec (.powerOnReset straps inputs) s = .next t) :
    t.uptime = 0 ∧ t.straps = straps ∧ t.pending = s.pending := by
  injection h with h
  subst h
  exact onlyBlocks_iff.mp (onlyBlocks_powerOn straps inputs s.pending)

/-- One idle millisecond is counted, and neither brings nor takes a command (R1; log 1). -/
theorem tick_outside (s : State) :
    (tick s).uptime = s.uptime + 1 ∧ (tick s).straps = s.straps ∧ (tick s).pending = s.pending :=
  onlyBlocks_iff.mp (onlyBlocks_tick s)

/-! ## One step -/

theorem step_command {c : Instr} {rest : List Instr} (h : s.pending = c :: rest) :
    step s = exec c { s with pending := rest } := by
  simp [step, h]

theorem step_idle (h : s.pending = []) : step s = .next (tick s) := by
  simp [step, h]

end Sys2Proof.Machine
end

section
/-! The statements about the whole part's scope: time, straps and the queue. -/

namespace Sys2Proof.Proofs

open Sys2Proof.Machine

/-- Settles O2: each command but POWER_ON_RESET keeps to the blocks, and POWER_ON_RESET sets uptime and straps alone. -/
theorem onlyPowerOnTouchesUptimeAndStraps : Obligations.OnlyPowerOnTouchesUptimeAndStraps := by
  intro c s t h
  by_cases hc : ∃ straps inputs, c = .powerOnReset straps inputs
  · obtain ⟨straps, inputs, rfl⟩ := hc
    obtain ⟨uptime, sampled, queue⟩ := exec_powerOnReset_outside h
    exact ⟨queue, uptime, sampled⟩
  · have others : ∀ straps inputs, c ≠ .powerOnReset straps inputs := fun straps inputs e => hc ⟨straps, inputs, e⟩
    obtain ⟨uptime, straps, queue⟩ := onlyBlocks_iff.mp (exec_endsInBlocks c s others t h)
    refine ⟨queue, ?_⟩
    split
    · exact absurd rfl (others _ _)
    · exact ⟨uptime, straps⟩

/-- Settles O1: the two cases of a step, with the frame of an idle millisecond. -/
theorem stepRunsTheFrontCommand : Obligations.StepRunsTheFrontCommand := by
  refine ⟨fun c rest s h => step_command h, fun s h => ?_⟩
  obtain ⟨uptime, straps, queue⟩ := tick_outside s
  exact ⟨tick s, step_idle h, uptime, straps, queue.trans h⟩

end Sys2Proof.Proofs
end

section
/-! The reset state under the invariants: each is evaluated on the literal state. -/

namespace Sys2Proof.Proofs

open Sys2Proof.Machine Sys2Proof.Safety

theorem chargeOk_reset (p : PackId) : chargeOk State.reset p = true := by
  cases p <;> decide +kernel

theorem dutyOk_reset (i : FanId) : dutyOk State.reset i = true := by
  cases i <;> decide +kernel

theorem keyboardOk_reset : keyboardOk State.reset = true := by decide +kernel

theorem budgetOk_reset : budgetOk State.reset = true := by decide +kernel

/-- Settles O15: pack by pack and fan by fan, and the other invariants by evaluation. -/
theorem resetMeetsTheInvariants : Obligations.ResetMeetsTheInvariants := by
  refine ⟨?bus, ?rails, ?faults, ?memory, ?wake, chargeOk_reset, dutyOk_reset, keyboardOk_reset, budgetOk_reset, ?rsoc,
    ?switches, ?outputs⟩
  all_goals decide +kernel

end Sys2Proof.Proofs
end

section
/-! The selection as R10 gives it: pin, stay, best, none. -/

namespace Sys2Proof.Machine

open Sys2Proof.Safety

/-! ## The selection (R10) -/

theorem pinned_eq_some {x : Selector} {i : SourceId} (hp : x.pin = some i) (he : eligible (x.get i) = true) :
    pinned x = some i := by
  simp [pinned, hp, he]

theorem pinned_eq_none {x : Selector} (h : ∀ i, x.pin = some i → eligible (x.get i) = false) : pinned x = none := by
  unfold pinned
  cases hp : x.pin with
  | none => rfl
  | some i => simp [h i hp]

/-- The source that R10 names best is the one that the search over the three records finds. -/
theorem bestSource_of_isBest {x : Selector} {b : SourceId} (h : isBest x b) : bestSource x = some b := by
  obtain ⟨he, hb⟩ := h
  have barrel := hb .barrel
  have port1 := hb .port1
  have port2 := hb .port2
  cases b <;> simp only [bestSource, List.foldl, better, sourceCode] at * <;> grind

theorem bestSource_eq_none {x : Selector} (h : ∀ i, eligible (x.get i) = false) : bestSource x = none := by
  simp [bestSource, better, h]

theorem outcome_of_pinned {x : Selector} {i : SourceId} (h : pinned x = some i) : outcome x = some i := by
  simp [outcome, h]

/-- Without a pin in force, an active source that is not beaten stays (R10 case 2). -/
theorem outcome_of_stays {x : Selector} {a b : SourceId} (hp : pinned x = none) (ha : x.active = some a)
    (hb : bestSource x = some b) (hs : stays x a b = true) : outcome x = some a := by
  simp [outcome, hp, ha, hb, hs]

/-- Without a pin in force, and where no active source stays, the best source is the outcome (R10 case 3). -/
theorem outcome_of_best {x : Selector} {b : SourceId} (hp : pinned x = none) (hb : bestSource x = some b)
    (hs : ∀ a, x.active = some a → stays x a b = false) : outcome x = some b := by
  unfold outcome
  rw [hp, hb]
  cases ha : x.active with
  | none => rfl
  | some a => simp [hs a ha]

theorem outcome_of_none {x : Selector} (hp : pinned x = none) (hb : bestSource x = none) : outcome x = none := by
  unfold outcome
  rw [hp, hb]
  cases x.active <;> rfl

theorem stays_of_close {x : Selector} {a b : SourceId} (he : eligible (x.get a) = true)
    (h : a = b ∨ (x.get b).power * 100 < (x.get a).power * 110) : stays x a b = true := by
  simpa [stays, he] using h

theorem stays_of_beaten {x : Selector} {a b : SourceId}
    (h : eligible (x.get a) = true → a ≠ b ∧ (x.get a).power * 110 ≤ (x.get b).power * 100) :
    stays x a b = false := by
  cases he : eligible (x.get a) with
  | false => simp [stays, he]
  | true =>
    obtain ⟨hne, hle⟩ := h he
    simpa [stays, he, hne] using hle

end Sys2Proof.Machine
end

section
/-! The statement about the selection alone. -/

namespace Sys2Proof.Proofs

open Sys2Proof.Machine Sys2Proof.Safety

/-- Settles O29: pin, stay, best and none, each by its own case of the selection. -/
theorem selectionFollowsPinStayBest : Obligations.SelectionFollowsPinStayBest := by
  intro x
  refine ⟨fun i hp he => outcome_of_pinned (pinned_eq_some hp he), fun hp => ⟨?stay, ?best, ?none⟩⟩
  case stay =>
    intro a b ha he hb close
    exact outcome_of_stays (pinned_eq_none hp) ha (bestSource_of_isBest hb) (stays_of_close he close)
  case best =>
    intro b hb beaten
    exact outcome_of_best (pinned_eq_none hp) (bestSource_of_isBest hb) fun a ha => stays_of_beaten (beaten a ha)
  case none =>
    intro h
    exact outcome_of_none (pinned_eq_none hp) (bestSource_eq_none h)

end Sys2Proof.Proofs
end

section
/-! What a notice (R195) and a detection that is not SEVERE (R164) leave as it was: the areas, queues and settings of
the report memory, every mask, and the records of all kinds but those that RPM itself detects. -/

namespace Sys2Proof.Machine

open Sys2Proof.Safety

/-! ## What a notice leaves of the report memory and the fault table -/

/-- The kinds that RPM itself detects (R195, R197). -/
def memoryKinds : List FaultKind := [.ramUncorrectable, .ramCorrectedLimit, .reportOverflow]

/-- What no notice touches in the report memory: the areas, the KEY queue and the two settings. -/
def memoryFrame (r : ReportMemory) : Area × Area × List StoredKey × Nat × Nat :=
  (r.keyArea, r.noticeArea, r.keys, r.attnLevel, r.correctedLimit)

/-- Every report is of a kind that RPM itself detects. -/
def OfMemory (ds : Reports) : Prop := ∀ d ∈ ds, d.1 ∈ memoryKinds

theorem ofMemory_nil : OfMemory [] := fun _ h => absurd h List.not_mem_nil

theorem OfMemory.cons {d : FaultKind × Byte} {ds : Reports} (h : d.1 ∈ memoryKinds) (hs : OfMemory ds) :
    OfMemory (d :: ds) :=
  List.forall_mem_cons.mpr ⟨h, hs⟩

theorem OfMemory.append {ds es : Reports} (h : OfMemory ds) (g : OfMemory es) : OfMemory (ds ++ es) :=
  List.forall_mem_append.mpr ⟨h, g⟩

/-- An operation of the report memory leaves its frame, and reports only what RPM detects. -/
def MemoryStep (r : ReportMemory) (x : ReportMemory × Reports) : Prop :=
  memoryFrame x.1 = memoryFrame r ∧ OfMemory x.2

theorem correctWords_step (queue : Byte) (n : Nat) (r : ReportMemory) : MemoryStep r (correctWords queue n r) := by
  induction n generalizing r with
  | zero => exact ⟨rfl, ofMemory_nil⟩
  | succ n ih =>
    unfold correctWords
    split
    · obtain ⟨frame, kinds⟩ := ih { r with corrected := 0 }
      exact ⟨frame, kinds.cons (by simp [memoryKinds])⟩
    · exact ih { r with corrected := r.corrected + 1 }

theorem loseNotice_step (lost : Notice) (r : ReportMemory) : MemoryStep r (loseNotice lost r) :=
  ⟨rfl, ofMemory_nil.cons (by simp [memoryKinds])⟩

theorem placeFresh_step (n : Notice) (t : Stamp) (r : ReportMemory) : MemoryStep r (placeFresh n t r) := by
  unfold placeFresh
  split
  · exact ⟨rfl, ofMemory_nil⟩
  · dsimp only
    split
    · split
      · exact loseNotice_step _ _
      · exact loseNotice_step _ _
    · exact loseNotice_step _ _

theorem placeNotice_step (n : Notice) (t : Stamp) (r : ReportMemory) : MemoryStep r (placeNotice n t r) := by
  unfold placeNotice
  split
  · exact placeFresh_step n t r
  · rename_i e _
    obtain ⟨frame, kinds⟩ := correctWords_step 1 (checkWords [e.w0, e.w1]).1 r
    dsimp only
    split
    · obtain ⟨frame', kinds'⟩ := placeFresh_step n t
        { (correctWords 1 (checkWords [e.w0, e.w1]).1 r).1 with
          notices := (correctWords 1 (checkWords [e.w0, e.w1]).1 r).1.notices.eraseP (sameKind n) }
      exact ⟨frame'.trans frame, kinds.append (kinds'.cons (by decide))⟩
    · exact ⟨frame, kinds⟩

/-- What a notice, and a detection of a kind in `ks`, leave of the report memory, the fault table and the charge LED. -/
structure KeepsBeside (ks : List FaultKind) (s t : State) : Prop where
  reports : OnlyReports s t
  memory : memoryFrame t.rpm = memoryFrame s.rpm
  fault : ∀ k, k ∉ ks → t.flt.get k = s.flt.get k
  masked : ∀ k, (t.flt.get k).masked = (s.flt.get k).masked
  override : t.ind.charge.override = s.ind.charge.override
  invert : t.ind.charge.invert = s.ind.charge.invert

variable {ks : List FaultKind} {s t u : State}

theorem KeepsBeside.refl (s : State) : KeepsBeside ks s s := ⟨.refl s, rfl, fun _ _ => rfl, fun _ => rfl, rfl, rfl⟩

theorem KeepsBeside.trans (h : KeepsBeside ks s t) (g : KeepsBeside ks t u) : KeepsBeside ks s u where
  reports := h.reports.trans g.reports
  memory := g.memory.trans h.memory
  fault k hk := (g.fault k hk).trans (h.fault k hk)
  masked k := (g.masked k).trans (h.masked k)
  override := g.override.trans h.override
  invert := g.invert.trans h.invert

theorem KeepsBeside.mono {js : List FaultKind} (h : KeepsBeside js s t) (sub : ∀ k ∈ js, k ∈ ks) :
    KeepsBeside ks s t :=
  { h with fault := fun k hk => h.fault k fun hj => hk (sub k hj) }

theorem showOn_settings (led : LedRecord) (want : Show) :
    (showOn led want).override = led.override ∧ (showOn led want).invert = led.invert := by
  unfold showOn
  split <;> exact ⟨rfl, rfl⟩

theorem keepsBeside_refreshChargeLed (s : State) : KeepsBeside ks s (refreshChargeLed s) where
  reports := rfl
  memory := rfl
  fault _ _ := rfl
  masked _ := rfl
  override := (showOn_settings _ _).1
  invert := (showOn_settings _ _).2

/-- A record of a kind in `ks` is replaced under the same mask. -/
theorem keepsBeside_set {k : FaultKind} {r : FaultRecord} (hk : k ∈ ks) (hr : r.masked = (s.flt.get k).masked) :
    KeepsBeside ks s { s with flt := s.flt.set k r } where
  reports := rfl
  memory := rfl
  fault j hj := FaultUnit.get_set_ne _ _ fun e => hj (e ▸ hk)
  masked j := by
    by_cases e : j = k
    · subst e
      simpa using hr
    · simp only [FaultUnit.get_set_ne _ _ e]
  override := rfl
  invert := rfl

theorem keepsBeside_endFault {k : FaultKind} (hk : k ∈ ks) (s : State) : KeepsBeside ks s (endFault k s) :=
  keepsBeside_set hk rfl

theorem keepsBeside_detectWith {offer : Notice → State → State} (ho : ∀ n s, KeepsBeside ks s (offer n s))
    {k : FaultKind} (hk : k ∈ ks) (detail : Byte) (s : State) : KeepsBeside ks s (detectWith id offer k detail s) := by
  rw [detectWith_id]
  have recorded := keepsBeside_set (s := s) (r := recordedFault k detail s.uptime (s.flt.get k)) hk rfl
  dsimp only
  split
  · exact recorded
  · have shown := recorded.trans (keepsBeside_refreshChargeLed _)
    split
    · exact shown
    · exact shown.trans (ho _ _)

theorem keepsBeside_foldl {offer : Notice → State → State} (ho : ∀ n s, KeepsBeside memoryKinds s (offer n s))
    (ds : Reports) (hd : OfMemory ds) (s : State) :
    KeepsBeside memoryKinds s (ds.foldl (fun t d => detectWith id offer d.1 d.2 t) s) := by
  induction ds generalizing s with
  | nil => exact .refl s
  | cons d ds ih =>
    obtain ⟨first, rest⟩ := List.forall_mem_cons.mp hd
    exact (keepsBeside_detectWith ho first d.2 s).trans (ih rest _)

theorem keepsBeside_offerDepth (n : Nat) (notice : Notice) (s : State) :
    KeepsBeside memoryKinds s (offerDepth n notice s) := by
  induction n generalizing notice s with
  | zero => exact .refl s
  | succ n ih =>
    obtain ⟨frame, kinds⟩ := placeNotice_step notice s.uptime s.rpm
    have placed : KeepsBeside memoryKinds s { s with rpm := judgeAttn (placeNotice notice s.uptime s.rpm).1 } :=
      { KeepsBeside.refl s with reports := rfl, memory := frame }
    exact placed.trans (keepsBeside_foldl ih _ kinds _)

/-- A notice touches no fault record but those of RPM's own kinds. -/
theorem keepsBeside_raise (n : Notice) (s : State) : KeepsBeside memoryKinds s (raise n s) :=
  keepsBeside_offerDepth 4 n s

theorem keepsBeside_raiseAll (ns : List Notice) (s : State) : KeepsBeside memoryKinds s (raiseAll ns s) := by
  induction ns generalizing s with
  | nil => exact .refl s
  | cons n ns ih => exact (keepsBeside_raise n s).trans (ih _)

/-- A detection that is not SEVERE touches its own record and those of RPM's own kinds. -/
theorem keepsBeside_detectMild (k : FaultKind) (detail : Byte) (s : State) :
    KeepsBeside (k :: memoryKinds) s (detectMild k detail s) :=
  keepsBeside_detectWith (fun n t => (keepsBeside_raise n t).mono fun _ h => List.mem_cons_of_mem _ h)
    List.mem_cons_self detail s

/-- A detection leaves its record as step 1 of R164 makes it, where the kind is none of RPM's own. -/
theorem detectMild_get {k : FaultKind} (hk : k ∉ memoryKinds) (detail : Byte) (s : State) :
    (detectMild k detail s).flt.get k = recordedFault k detail s.uptime (s.flt.get k) := by
  unfold detectMild
  rw [detectWith_id]
  dsimp only
  split
  · simp
  · split
    · simp
    · rw [(keepsBeside_raise _ _).fault k hk]
      simp

end Sys2Proof.Machine
end

section
/-! What a command leaves for its end: a budget record that is current (R53), a bus with no more work due than before,
and the grant of a free bus (R21). -/

namespace Sys2Proof.Machine

open Sys2Proof.Safety

variable {s t u : State}

/-! ## What a budget recompute reads from SRS (R53) -/

/-- The budget record carries what SRS hands to CHC, and the present moment. -/
def BudgetCurrent (s : State) : Prop :=
  s.chc.budget.pInMax = pInMax s.srs ∧ s.chc.budget.margin = s.srs.margin ∧ s.chc.budget.pSys = s.srs.pSys ∧
    s.chc.budget.stamp = s.uptime

theorem budgetCurrent_recompute (s : State) : BudgetCurrent (recompute s) := ⟨rfl, rfl, rfl, rfl⟩

/-- An input change that is one of R53's leaves a budget record that is current. -/
theorem budgetCurrent_chargeRefresh (ns : List Notice) (s : State) : BudgetCurrent (chargeRefresh true ns s) := by
  unfold chargeRefresh
  dsimp only
  unfold BudgetCurrent
  rw [(raiseAll_frame _ _)]
  exact budgetCurrent_recompute _

/-- The same, read from the state before. -/
theorem chargeRefresh_budget (ns : List Notice) (s : State) :
    (chargeRefresh true ns s).chc.budget.pInMax = pInMax s.srs ∧
      (chargeRefresh true ns s).chc.budget.margin = s.srs.margin ∧
      (chargeRefresh true ns s).chc.budget.pSys = s.srs.pSys ∧
      (chargeRefresh true ns s).chc.budget.stamp = s.uptime := by
  have frame := (chargeRefresh_frame true ns s).onlyPlatform
  have current := budgetCurrent_chargeRefresh ns s
  rwa [BudgetCurrent, frame.srs, frame.uptime] at current

/-! ## Due work of the bus -/

/-- What a pack's schedule has due (R21). -/
def dueOf (x : PackSchedule) : Bool × Bool := (x.identDue, x.pollDue)

theorem dueOf_hasten (fast : Bool) (x : PackSchedule) : dueOf (hasten fast x) = dueOf x := by
  unfold hasten
  split <;> rfl

/-- CHC's refresh cuts waits and makes nothing due (R26). -/
theorem dueOf_chargeRefresh (force : Bool) (ns : List Notice) (s : State) (p : PackId) :
    dueOf ((chargeRefresh force ns s).pks.schedule.get p) = dueOf (s.pks.schedule.get p) := by
  unfold chargeRefresh
  dsimp only
  rw [(raiseAll_frame _ _)]
  split <;> cases p <;> exact dueOf_hasten _ _

/-- Between the two states nothing has changed that decides whether the bus is given out. -/
structure SameBus (s t : State) : Prop where
  pbc : t.pbc = s.pbc
  record : t.pks.record = s.pks.record
  due : ∀ p, dueOf (t.pks.schedule.get p) = dueOf (s.pks.schedule.get p)

theorem SameBus.packDue (h : SameBus s t) (p : PackId) : packDue t p = packDue s p := by
  have hd := h.due p
  simp only [dueOf, Prod.mk.injEq] at hd
  simp only [Machine.packDue, h.record, hd]

theorem SameBus.pollerDue (h : SameBus s t) (d : BusDevice) : pollerDue t d = pollerDue s d := by
  cases d <;> simp only [Machine.pollerDue, h.packDue, h.pbc]

theorem SameBus.busSettled (h : SameBus s t) : busSettled t = busSettled s := by
  simp only [Safety.busSettled, h.pollerDue, h.pbc]

theorem SameBus.trans (h : SameBus s t) (g : SameBus t u) : SameBus s u :=
  ⟨g.pbc.trans h.pbc, g.record.trans h.record, fun p => (g.due p).trans (h.due p)⟩

theorem OnlyReports.sameBus (h : OnlyReports s t) : SameBus s t := by
  rw [h]
  exact ⟨rfl, rfl, fun _ => rfl⟩

theorem sameBus_chargeRefresh (force : Bool) (ns : List Notice) (s : State) :
    SameBus s (chargeRefresh force ns s) where
  pbc := (chargeRefresh_frame force ns s).onlyPlatform.pbc
  record := (chargeRefresh_frame force ns s).onlyPlatform.record
  due := dueOf_chargeRefresh force ns s

/-- A command that stays out of OFF's arrival and makes no work for the bus ends as its own effect leaves it. -/
theorem SameBus.conclude (h : SameBus s t) (hs : Safety.busSettled s = true) (hp : t.psq.state = s.psq.state) :
    conclude s t = t :=
  conclude_settled s t hp (h.busSettled.trans hs)

/-! ## The grant of the bus (R21) -/

/-- The blocks that the grant of a free bus can touch: PBC, the packs' schedules, and BUS_STUCK as the line is found
high. -/
def OnlyGrant (s t : State) : Prop :=
  t = { s with pbc := t.pbc, pks := { s.pks with schedule := t.pks.schedule }, flt := t.flt } ∧
    (t.flt = s.flt ∨ t.flt = (endFault .busStuck s).flt)

/-- The same, before the line has been looked at. -/
def OnlyBus (s t : State) : Prop := t = { s with pbc := t.pbc, pks := { s.pks with schedule := t.pks.schedule } }

theorem OnlyBus.onlyGrant (h : OnlyBus s t) : OnlyGrant s t := by
  unfold OnlyBus at h
  refine ⟨?_, .inl ?_⟩ <;> rw [h]

theorem OnlyBus.startAttempt (h : OnlyBus s t) (a : Transaction) : OnlyGrant s (startAttempt a t) := by
  unfold OnlyBus at h
  unfold Machine.startAttempt
  split
  · refine ⟨?_, .inr ?_⟩ <;> rw [h] <;> rfl
  · refine ⟨?_, .inl ?_⟩ <;> rw [h]

theorem OnlyBus.beginTurn (h : OnlyBus s t) (d : BusDevice) (w : TurnWork) (ops : List BusOp) :
    OnlyGrant s (beginTurn d w ops t) := by
  cases ops with
  | nil => exact h.onlyGrant
  | cons op rest =>
    refine OnlyBus.startAttempt ?_ _
    unfold OnlyBus at *
    rw [h]

theorem OnlyBus.withBus (h : OnlyBus s t) (b : BusController) : OnlyBus s { t with pbc := b } := by
  unfold OnlyBus at *
  rw [h]

theorem OnlyBus.modSchedule (h : OnlyBus s t) (p : PackId) (f : PackSchedule → PackSchedule) :
    OnlyBus s (modSchedule p f t) := by
  unfold OnlyBus at *
  rw [h]
  rfl

theorem OnlyBus.beginPollerTurn (h : OnlyBus s t) (d : BusDevice) : OnlyGrant s (beginPollerTurn d t) := by
  cases d <;> simp only [Machine.beginPollerTurn, beginPackTurn, beginPortTurn]
  case packA | packB => exact (h.modSchedule _ _).beginTurn _ _ _
  case port1 | port2 => exact (h.withBus _).beginTurn _ _ _

theorem OnlyBus.grantPoller (h : OnlyBus s t) : OnlyGrant s (grantPoller t) := by
  unfold Machine.grantPoller
  split
  · exact h.beginPollerTurn _
  · exact h.onlyGrant

theorem onlyGrant_grantTurn (s : State) : OnlyGrant s (grantTurn s) := by
  unfold grantTurn
  split
  · split
    · exact OnlyBus.startAttempt (by rfl) _
    · exact OnlyBus.grantPoller (by rfl)
  · exact OnlyBus.grantPoller (by rfl)

theorem onlyGrant_busGrant (s : State) : OnlyGrant s (busGrant s) := by
  unfold busGrant
  split
  · exact ⟨rfl, .inl rfl⟩
  · split
    · split
      · exact onlyGrant_grantTurn s
      · exact OnlyBus.startAttempt (by rfl) _
    · exact onlyGrant_grantTurn s

end Sys2Proof.Machine
end

section
/-! What a change of the active source relies on under all that follows it: each lemma `carries_<operation>` takes the
relation to the source record, the wake statuses and the budget across one operation of the platform. -/

namespace Sys2Proof.Machine

open Sys2Proof.Safety

variable {s t u : State}

/-- What SRS relies on after a change of the active source: its own record and the uptime stand, a wake source that
has its status set keeps it, and a budget record that is current stays so. -/
structure Carries (s t : State) : Prop where
  srs : t.srs = s.srs
  uptime : t.uptime = s.uptime
  status : ∀ i, (s.lwu.get i).status = true → (t.lwu.get i).status = true
  budget : BudgetCurrent s → BudgetCurrent t

theorem Carries.refl (s : State) : Carries s s := ⟨rfl, rfl, fun _ h => h, fun h => h⟩

theorem Carries.trans (h : Carries s t) (g : Carries t u) : Carries s u where
  srs := g.srs.trans h.srs
  uptime := g.uptime.trans h.uptime
  status i hi := g.status i (h.status i hi)
  budget hb := g.budget (h.budget hb)

/-- The fields that `Carries` is about. -/
def carried (s : State) : Selector × Stamp × Vector WakeEntry 11 × BudgetRecord :=
  (s.srs, s.uptime, s.lwu.table, s.chc.budget)

/-- An operation that touches none of those fields, after whatever went before it. -/
theorem Carries.untouched (h : Carries s t) (e : carried u = carried t) : Carries s u := by
  simp only [carried, Prod.mk.injEq] at e
  obtain ⟨srs, uptime, table, budget⟩ := e
  refine h.trans ⟨srs, uptime, fun i hi => ?_, fun hb => ?_⟩
  · simpa only [WakeUnit.get, table] using hi
  · simpa only [BudgetCurrent, srs, uptime, budget] using hb

theorem carries_ite {c : Prop} [Decidable c] (h : Carries s t) (g : Carries s u) : Carries s (if c then t else u) := by
  split
  · exact h
  · exact g

theorem carries_foldl {α : Type} {f : State → α → State} (xs : List α)
    (hf : ∀ {u x}, Carries s u → Carries s (f u x)) (h : Carries s t) : Carries s (xs.foldl f t) := by
  induction xs generalizing t with
  | nil => exact h
  | cons x xs ih => exact ih (hf h)

/-! ## Reports, charge and fans -/

theorem OnlyReports.carries (g : OnlyReports t u) (h : Carries s t) : Carries s u :=
  h.untouched (by rw [g]; rfl)

theorem carries_raise {n : Notice} (h : Carries s t) : Carries s (raise n t) := (raise_frame n t).carries h

theorem carries_raiseAll {ns : List Notice} (h : Carries s t) : Carries s (raiseAll ns t) :=
  (raiseAll_frame ns t).carries h

theorem carries_chargeRefresh {ns : List Notice} (h : Carries s t) : Carries s (chargeRefresh true ns t) := by
  have frame := chargeRefresh_frame true ns t
  refine h.trans ⟨frame.onlyPlatform.srs, frame.onlyPlatform.uptime, fun i hi => ?_,
    fun _ => budgetCurrent_chargeRefresh ns t⟩
  rw [frame]
  exact hi

theorem carries_refreshChargeLed (h : Carries s t) : Carries s (refreshChargeLed t) := h.untouched rfl

theorem carries_judgeThrottle (h : Carries s t) : Carries s (judgeThrottle t) := h.untouched rfl

theorem carries_remakeFan {i : FanId} (h : Carries s t) : Carries s (remakeFan i t) := by
  unfold remakeFan
  exact carries_ite (h.untouched rfl) h

theorem carries_remakeDuties (h : Carries s t) : Carries s (remakeDuties t) := carries_remakeFan (carries_remakeFan h)

theorem carries_cancelOverride {i : FanId} (h : Carries s t) : Carries s (cancelOverride i t) := by
  unfold cancelOverride setOverride
  exact carries_ite h (carries_raiseAll (carries_remakeFan (h.untouched rfl)))

theorem carries_fansTakeState {leaving : Bool} (h : Carries s t) : Carries s (fansTakeState leaving t) := by
  unfold fansTakeState
  exact carries_remakeDuties (carries_ite (carries_cancelOverride (carries_cancelOverride h)) h)

/-! ## Keys -/

theorem carries_offerKey {e : KeyEvent} (h : Carries s t) : Carries s (offerKey e t) := by
  unfold offerKey
  exact carries_ite (h.untouched rfl) (h.untouched rfl)

theorem carries_handRelease {synthetic : Bool} {p : Position} {code : Byte} {layer : Bool} (h : Carries s t) :
    Carries s (handRelease synthetic p code layer t) := by
  unfold handRelease typeRelease queueEvent
  exact carries_ite (carries_ite ((carries_offerKey h).untouched rfl) (carries_offerKey h)) (h.untouched rfl)

theorem carries_setScanMode {m : ScanMode} (h : Carries s t) : Carries s (setScanMode m t) := by
  unfold setScanMode
  exact carries_ite h (h.untouched rfl)

theorem carries_beginSuppression {m : ScanMode} (h : Carries s t) : Carries s (beginSuppression m t) := by
  unfold beginSuppression
  have released := carries_foldl (f := syntheticRelease) (reportedSet (setScanMode m t).kbs)
    (fun g => carries_handRelease (g.untouched rfl)) (carries_setScanMode (m := m) h)
  exact released.untouched rfl

theorem carries_updateKeyboard (h : Carries s t) : Carries s (updateKeyboard t) := by
  unfold updateKeyboard
  have taken : ∀ x y, Carries s { t with kbs.suppression := x, kbs.freshStart := y } := fun _ _ => h.untouched rfl
  exact carries_ite (carries_beginSuppression (taken _ _))
    (carries_ite ((carries_setScanMode (taken _ _)).untouched rfl) (carries_setScanMode (taken _ _)))

/-! ## Wake sources -/

/-- The entry of a source after an update of one entry. -/
theorem carries_setWake {i : WakeSource} {e : WakeEntry} (he : (t.lwu.get i).status = true → e.status = true)
    (h : Carries s t) : Carries s { t with lwu := t.lwu.set i e } := by
  refine h.trans ⟨rfl, rfl, fun j hj => ?_, fun hb => hb⟩
  by_cases hji : j = i
  · subst hji
    simpa using he hj
  · simpa [WakeUnit.get_set_ne _ _ hji] using hj

theorem carries_markSource {i : WakeSource} (h : Carries s t) : Carries s (markSource i t) :=
  carries_setWake (fun _ => rfl) h

theorem carries_clearPending (h : Carries s t) : Carries s (clearPending t) := by
  unfold clearPending
  refine carries_foldl _ (fun g => ?_) (h.trans ⟨rfl, rfl, fun i hi => ?_, fun hb => hb⟩)
  · unfold resetHeld
    exact carries_ite (carries_markSource g) g
  · simpa [WakeUnit.get] using hi

/-! ## The platform state -/

theorem carries_judgeTripEnd (h : Carries s t) : Carries s (judgeTripEnd t) := by
  unfold judgeTripEnd
  exact carries_ite (h.untouched rfl) h

theorem carries_changeState {new : PlatformState} (h : Carries s t) : Carries s (changeState new t) := by
  unfold changeState
  extract_lets old x t1 t2 t3 t4 t5
  have h1 : Carries s t1 := h.untouched rfl
  have h2 : Carries s t2 := carries_ite (carries_clearPending h1) h1
  have h3 : Carries s t3 := carries_fansTakeState (carries_updateKeyboard h2)
  have h4 : Carries s t4 :=
    carries_ite (carries_judgeTripEnd (h3.untouched rfl)) (carries_ite (h3.untouched rfl) h3)
  have h5 : Carries s t5 := h4.untouched rfl
  exact carries_ite (h5.untouched rfl) h5

theorem carries_beginGrace (h : Carries s t) : Carries s (beginGrace t) := by
  unfold beginGrace
  exact carries_refreshChargeLed (carries_markSource (carries_raise (h.untouched rfl)))

theorem carries_endGrace {event : Nat} {off : Bool} (h : Carries s t) : Carries s (endGrace event off t) := by
  unfold endGrace
  split
  · exact h
  · exact carries_refreshChargeLed (carries_raise (h.untouched rfl))

theorem carries_enterMpgWait (h : Carries s t) : Carries s (enterMpgWait t) := by
  unfold enterMpgWait
  exact carries_ite (h.untouched rfl) (h.untouched rfl)

theorem carries_setLevel {l : ContainmentLevel} (h : Carries s t) : Carries s (setLevel l t) := by
  unfold setLevel
  exact carries_ite h
    (carries_judgeThrottle (carries_remakeDuties (carries_chargeRefresh (h.untouched rfl))))

theorem carries_recordWake (h : Carries s t) : Carries s (recordWake t) := by
  rw [recordWake_frame]
  exact h.untouched (by simp only [carried])

theorem carries_takeStart (h : Carries s t) : Carries s (takeStart t) := by
  unfold takeStart
  extract_lets t0 x t1 t2 t3
  have h0 : Carries s t0 := carries_recordWake h
  clear_value t0
  have h1 : Carries s t1 := h0.untouched rfl
  have h2 : Carries s t2 := by
    have cleared := carries_clearPending (carries_changeState (new := .starting) h1)
    exact carries_ite cleared (carries_setLevel cleared)
  clear_value t2
  have h3 : Carries s t3 := carries_ite (carries_beginGrace h2) h2
  clear_value t3
  exact carries_ite (carries_enterMpgWait h3) h3

theorem carries_takeResume (h : Carries s t) : Carries s (takeResume t) := by
  unfold takeResume
  exact carries_enterMpgWait (carries_clearPending (carries_changeState (carries_recordWake h)))

theorem carries_offerWake (h : Carries s t) : Carries s (offerWake t) := by
  unfold offerWake
  refine carries_ite h ?_
  split
  · exact carries_takeResume h
  · exact carries_ite (carries_takeStart h) (h.untouched rfl)
  · exact h

theorem carries_settingEvent {i : WakeSource} (h : Carries s t) : Carries s (settingEvent i t) := by
  unfold settingEvent
  exact carries_ite (carries_offerWake (carries_markSource h)) (carries_markSource h)

theorem carries_judgeCritical (h : Carries s t) : Carries s (judgeCritical t) := by
  unfold judgeCritical startGrace
  have started := carries_beginGrace (h.untouched (u := { t with psq.critical := true }) rfl)
  exact carries_ite h
    (carries_ite (carries_ite (carries_ite (carries_offerWake started) started) (h.untouched rfl))
      (carries_endGrace (h.untouched rfl)))

/-! ## The end of a command -/

theorem carries_conclude {before : State} (h : Carries s t) : Carries s (conclude before t) := by
  unfold conclude offerAtOff
  have offered : Carries s (if before.psq.state ≠ .off ∧ t.psq.state = .off then offerWake t else t) :=
    carries_ite (carries_offerWake h) h
  refine offered.untouched ?_
  rw [(onlyGrant_busGrant _).1]
  rfl

end Sys2Proof.Machine
end

section
/-! SRS's own operations (R4 to R12): the change of the active source, the selection that a record's change asks for,
and the update of a record. -/

namespace Sys2Proof.Machine

open Sys2Proof.Safety

variable {s t u : State} {x : Selector} {i : SourceId} {new : SourceRecord}

/-! ## A change of the active source (R11, R12) -/

/-- The selector after a change of the active source. -/
def changedTo (new : Option SourceId) (x : Selector) : Selector :=
  { x with
    active := new, switching := new.isSome, switchLeft := if new.isSome then Config.switchingMs else 0
    switchReplaced := x.switching || x.switchReplaced, overload := false, overloadRun := 0 }

/-- A selector `x` has changed its active source, and the change has been handed on. -/
structure HandedOn (x : Selector) (new : Option SourceId) (t : State) : Prop where
  srs : t.srs = changedTo new x
  budget : BudgetCurrent t
  wake : ∀ i, sourceWake x.active new = some i → (t.lwu.get i).status = true

theorem HandedOn.carries {new : Option SourceId} (h : HandedOn x new t) (g : Carries t u) : HandedOn x new u where
  srs := g.srs.trans h.srs
  budget := g.budget h.budget
  wake i hi := g.status i (h.wake i hi)

theorem pInMax_changedTo (new : Option SourceId) (x : Selector) : pInMax (changedTo new x) = 0 := by
  cases new <;> rfl

theorem HandedOn.sourceChanged {new : Option SourceId} (h : HandedOn x new t) : sourceChanged x new t := by
  obtain ⟨srs, ⟨pIn, _⟩, wake⟩ := h
  rw [srs, pInMax_changedTo] at pIn
  refine ⟨?_, ?_, ?_, ?_, ?_, ?_, pIn, fun old some => wake _ ?_, fun old none => wake _ ?_⟩
  iterate 6 rw [srs]; rfl
  · obtain ⟨j, rfl⟩ := Option.isSome_iff_exists.mp some
    rw [old]
    rfl
  · obtain ⟨j, hj⟩ := Option.isSome_iff_exists.mp old
    rw [hj, none]
    rfl

/-- What an operation of SRS must leave for the hand-on of a change to stand: its overload apart, nothing has changed.
-/
theorem endOverload_carries (s : State) :
    Carries { s with srs := { s.srs with overload := false, overloadRun := 0 } } (endOverload s) := by
  unfold endOverload
  exact carries_judgeThrottle ((endFault_frame _ _).carries (carries_raise (.refl _)))

theorem markSource_status (i : WakeSource) (s : State) : ((markSource i s).lwu.get i).status = true := by
  simp [markSource]

theorem settingEvent_status (i : WakeSource) (s : State) : ((settingEvent i s).lwu.get i).status = true := by
  unfold settingEvent
  have marked := markSource_status i s
  dsimp only
  split
  · exact (carries_offerWake (.refl _)).status i marked
  · exact marked

theorem carries_setSwitches (h : Carries s t) : Carries s (setSwitches t) := h.untouched rfl

/-- R11's hand-off: the budget is current after it. -/
theorem handSource_spec (s : State) : Carries s (handSource s) ∧ BudgetCurrent (handSource s) := by
  unfold handSource
  have carried : Carries (chargeRefresh true [] s) (judgeCritical (setSwitches (chargeRefresh true [] s))) :=
    carries_judgeCritical (carries_setSwitches (.refl _))
  exact ⟨(carries_chargeRefresh (.refl s)).trans carried, carried.budget (budgetCurrent_chargeRefresh [] s)⟩

/-- The change of the active source, with all that R11 and R12 hand on. -/
theorem changeActive_handedOn (new : Option SourceId) (s : State) : HandedOn s.srs new (changeActive new s) := by
  unfold changeActive
  extract_lets old x t1 t2 t3
  have wake : ∀ i, sourceWake old new = some i → (t2.lwu.get i).status = true := by
    intro i hi
    unfold t2
    rw [hi]
    exact settingEvent_status i t1
  have h2 : Carries t1 t2 := by
    unfold t2
    split
    · exact carries_settingEvent (.refl _)
    · exact .refl _
  clear_value t2
  obtain ⟨carried, budget⟩ := handSource_spec (raise (.source new old new.isSome) t2)
  have h3 : Carries t2 t3 := (carries_raise (.refl _)).trans carried
  have budget : BudgetCurrent t3 := budget
  clear_value t3
  have srs : t3.srs = t1.srs := h3.srs.trans h2.srs
  have ended : HandedOn s.srs new { t3 with srs := { t3.srs with overload := false, overloadRun := 0 } } :=
    { srs := by rw [srs]; rfl
      budget := budget
      wake := fun i hi => h3.status i (wake i hi) }
  split
  · exact ended.carries (endOverload_carries t3)
  · rename_i quiet
    have same : { t3 with srs := { t3.srs with overload := false, overloadRun := 0 } } =
        { t3 with srs.overloadRun := 0 } := by
      rw [← Bool.eq_false_of_not_eq_true quiet]
    exact same ▸ ended

/-! ## Selections (R10, R11) -/

/-- A selector has become `x`, and, where a selection was asked for and has another outcome, the active source has
changed. -/
def TakenAs (asked : Bool) (x : Selector) (t : State) : Prop :=
  if asked = true ∧ outcome x ≠ x.active then HandedOn x (outcome x) t else t.srs = x

theorem TakenAs.carries {asked : Bool} (h : TakenAs asked x t) (g : Carries t u) : TakenAs asked x u := by
  unfold TakenAs at *
  by_cases c : asked = true ∧ outcome x ≠ x.active
  · rw [if_pos c] at *
    exact h.carries g
  · rw [if_neg c] at *
    exact g.srs.trans h

/-- Whatever the selection brought, no source record has changed by it. -/
theorem TakenAs.get {asked : Bool} (h : TakenAs asked x t) (j : SourceId) : t.srs.get j = x.get j := by
  unfold TakenAs at h
  split at h
  · rw [h.srs]
    cases j <;> rfl
  · rw [h]

theorem selectSource_stays (h : outcome s.srs = s.srs.active) : selectSource s = s := by
  simp [selectSource, h]

theorem selectSource_changes (h : outcome s.srs ≠ s.srs.active) :
    HandedOn s.srs (outcome s.srs) (selectSource s) := by
  unfold selectSource
  rw [if_neg h]
  exact changeActive_handedOn _ s

/-- A selection made where one is asked for. -/
theorem takenAs_select (asked : Bool) (s : State) : TakenAs asked s.srs (if asked then selectSource s else s) := by
  unfold TakenAs
  cases asked with
  | false => simp
  | true =>
    by_cases h : outcome s.srs = s.srs.active
    · simp [h, selectSource_stays]
    · simpa [h] using selectSource_changes h

/-! ## Source records (R7, R11) -/

theorem judgeInvalid_srs (i : SourceId) (old new : SourceRecord) (s : State) :
    (judgeInvalid i old new s).srs = s.srs :=
  (judgeInvalid_frame i old new s).onlyPlatform.srs

theorem updateSource_takenAs (i : SourceId) (new : SourceRecord) (s : State) :
    TakenAs (asksSelection (s.srs.get i) new) (s.srs.set i new) (updateSource i new s) := by
  unfold updateSource
  extract_lets old t1 t2
  have h1 : t1.srs = s.srs.set i new := judgeInvalid_srs _ _ _ _
  have h2 : TakenAs (asksSelection old new) (s.srs.set i new) t2 := h1 ▸ takenAs_select _ t1
  clear_value t2
  split
  · exact h2.carries (carries_chargeRefresh (.refl _))
  · exact h2

theorem sourceSettled_takenAs (i : SourceId) (s : State)
    (h : ((s.srs.get i).present && (s.srs.get i).valid && !(s.srs.get i).settled) = true) :
    TakenAs (asksSelection (s.srs.get i) { s.srs.get i with settle := 500, settled := true })
      (s.srs.set i { s.srs.get i with settle := 500, settled := true }) (sourceSettled i s) := by
  unfold sourceSettled
  simp only [h, if_true]
  exact takenAs_select _ (setSource i { s.srs.get i with settle := 500, settled := true } s)

theorem sourceSettled_idle (i : SourceId) (s : State)
    (h : ((s.srs.get i).present && (s.srs.get i).valid && !(s.srs.get i).settled) = false) : sourceSettled i s = s := by
  simp [sourceSettled, h]

theorem asksSelection_iff (old new : SourceRecord) :
    asksSelection old new = true ↔
      eligible old ≠ eligible new ∨ (eligible new = true ∧ old.power ≠ new.power) := by
  simp [asksSelection]

theorem not_eligible_of_unsettled {r : SourceRecord} (h : r.settled = false) : eligible r = false := by
  simp [eligible, h]

theorem asksSelection_unsettled {old new : SourceRecord} (ho : old.settled = false) (hn : new.settled = false) :
    asksSelection old new = false := by
  simp [asksSelection, not_eligible_of_unsettled, ho, hn]

/-- An update of a record that is neither settled nor in use makes no selection. -/
theorem updateSource_unsettled (ho : (s.srs.get i).settled = false) (hn : new.settled = false)
    (ha : s.srs.active ≠ some i) : updateSource i new s = judgeInvalid i (s.srs.get i) new (setSource i new s) := by
  simp [updateSource, asksSelection_unsettled ho hn, ha]

/-- The statement's form of an update: `x` is the selector with the new record, and what else it may differ in decides
no selection. -/
theorem TakenAs.recordTaken (h : TakenAs (asksSelection (s.srs.get i) new) x t) (record : x.get i = new)
    (choice : outcome x = outcome (s.srs.set i new)) (active : x.active = s.srs.active)
    (switching : x.switching = s.srs.switching) (left : x.switchLeft = s.srs.switchLeft)
    (replaced : x.switchReplaced = s.srs.switchReplaced) : recordTaken i new s t := by
  refine ⟨(h.get i).trans record, ?_⟩
  unfold TakenAs at h
  simp only [asksSelection_iff, choice, active] at h
  split
  · rename_i changes
    rw [if_pos changes] at h
    have changed := h.sourceChanged
    simp only [Safety.sourceChanged, active, switching, replaced] at changed
    exact changed
  · rename_i stays
    rw [if_neg stays] at h
    rw [h]
    exact ⟨active, switching, left⟩

end Sys2Proof.Machine
end

section
/-! The events of SRS's inputs (R4, R7) and how they end. -/

namespace Sys2Proof.Machine

open Sys2Proof.Safety

theorem OnlyReports.psq {s t : State} (h : OnlyReports s t) : t.psq.state = s.psq.state := by rw [h]

/-- What only reports leaves all blocks but three. -/
theorem OnlyReports.eq {s t : State} (h : OnlyReports s t) :
    t = { s with flt := t.flt, rpm := t.rpm, ind := t.ind } := by
  rw [h]

/-! ## The barrel (R4) -/

theorem barrelRecord_eq (reading : AdapterReading) (r : SourceRecord) :
    barrelRecord reading r =
      { r with
        present := true, valid := true, voltage := 20000, current := (barrelContract reading).1
        power := (barrelContract reading).2.1, cls := (barrelContract reading).2.2
        settle := if r.present && r.valid then r.settle else 0, settled := r.present && r.valid && r.settled } := by
  cases reading <;> simp [barrelRecord, withContract, barrelContract, barrelCurrent, classOf]

theorem exec_barrel_gone (reading : AdapterReading) {s : State} (h : s.inputs.barrelDetect = true)
    (hp : s.srs.barrel.populated = true) :
    exec (.barrelDetectChange false reading) s =
      finish s (updateSource .barrel (goneSource s.srs.barrel)
        { s with inputs := { s.inputs with barrelDetect := false, adapter := reading } }) := by
  simp [exec, execBarrelDetectChange, barrelDetect, h, hp]

theorem exec_barrel_found (reading : AdapterReading) {s : State} (h : s.inputs.barrelDetect = false)
    (hp : s.srs.barrel.populated = true) :
    exec (.barrelDetectChange true reading) s =
      finish s (updateSource .barrel (barrelRecord reading s.srs.barrel)
        { s with inputs := { s.inputs with barrelDetect := true, adapter := reading } }) := by
  simp [exec, execBarrelDetectChange, barrelDetect, h, hp]

theorem exec_adapter_present (reading : AdapterReading) {s : State} (h : s.srs.barrel.present = true) :
    exec (.adapterIdentificationChange reading) s =
      finish s (updateSource .barrel (barrelRecord reading s.srs.barrel) { s with inputs.adapter := reading }) := by
  simp [exec, execAdapterIdentificationChange, adapterChanges, h]

theorem exec_adapter_absent (reading : AdapterReading) {s : State} (h : s.srs.barrel.present = false) :
    exec (.adapterIdentificationChange reading) s = finish s { s with inputs.adapter := reading } := by
  simp [exec, execAdapterIdentificationChange, adapterChanges, h]

/-! ## SOURCE_INVALID (R7) -/

theorem judgeInvalid_begins {i : SourceId} {old new : SourceRecord} (s : State) (hn : invalidNow i new = true)
    (ho : invalidNow i old = false) : judgeInvalid i old new s = detectMild .sourceInvalid i.detail s := by
  simp [judgeInvalid, hn, ho]

/-- A record in no condition of SOURCE_INVALID raises no notice: the fault table alone can change. -/
theorem judgeInvalid_valid {i : SourceId} {old new : SourceRecord} (s : State) (hn : invalidNow i new = false) :
    judgeInvalid i old new s = { s with flt := (judgeInvalid i old new s).flt } := by
  simp only [judgeInvalid, hn, Bool.false_and]
  split
  · contradiction
  · split <;> rfl

/-- A detection of a lasting kind that is not SEVERE is recorded (R164). -/
theorem recorded_detectMild {k : FaultKind} (hk : k ∉ memoryKinds) (detail : Byte) (s : State) :
    recorded k detail s (detectMild k detail s) := by
  unfold recorded
  rw [detectMild_get hk]
  exact ⟨rfl, rfl, rfl, rfl⟩

/-- The end of a command that changes a source's record: what the record's change has brought stands. -/
theorem finish_takenAs {asked : Bool} {x : Selector} {t : State} (s : State) (h : TakenAs asked x t) :
    ∃ u, finish s t = .next u ∧ TakenAs asked x u :=
  ⟨_, rfl, h.carries (carries_conclude (.refl t))⟩

/-- The end of a command with nothing due on the bus, after an operation that only reports. -/
theorem finish_settled {s t : State} (hs : busSettled s = true) (h : SameBus s t) (hp : t.psq.state = s.psq.state) :
    finish s t = .next t := by
  unfold finish
  rw [h.conclude hs hp]

/-- The same for an operation that does nothing. -/
theorem finish_same {s : State} (hs : busSettled s = true) : finish s s = .next s :=
  finish_settled hs ⟨rfl, rfl, fun _ => rfl⟩ rfl

/-- A command that changes a record that is neither settled nor in use ends with SOURCE_INVALID judged. -/
theorem finish_unsettled {s b : State} {i : SourceId} {new : SourceRecord} (hs : busSettled s = true) (hb : SameBus s b)
    (hp : b.psq.state = s.psq.state) (ho : (b.srs.get i).settled = false) (hn : new.settled = false)
    (ha : b.srs.active ≠ some i) :
    finish s (updateSource i new b) = .next (judgeInvalid i (b.srs.get i) new (setSource i new b)) := by
  rw [updateSource_unsettled ho hn ha]
  have frame := judgeInvalid_frame i (b.srs.get i) new (setSource i new b)
  have set : SameBus b (setSource i new b) := ⟨rfl, rfl, fun _ => rfl⟩
  exact finish_settled hs ((hb.trans set).trans frame.sameBus) (frame.psq.trans hp)

end Sys2Proof.Machine
end

section
/-! The statements about sources: the barrel. -/

namespace Sys2Proof.Proofs

open Sys2Proof.Machine Sys2Proof.Safety

/-- A barrel that is neither settled nor in use takes a new record, with SOURCE_INVALID judged. -/
theorem finish_barrel_unsettled {s : State} (inputs : Inputs) {new : SourceRecord} (hs : busSettled s = true)
    (hu : s.srs.barrel.settled = false) (hn : new.settled = false) (ha : s.srs.active ≠ some .barrel) :
    finish s (updateSource .barrel new { s with inputs }) =
      .next (judgeInvalid .barrel s.srs.barrel new (setSource .barrel new { s with inputs })) :=
  finish_unsettled (i := .barrel) (b := { s with inputs }) hs ⟨rfl, rfl, fun _ => rfl⟩ rfl hu hn ha

/-- Whatever the barrel's record becomes, the statement's form of the change holds, and the ports stand. -/
theorem finish_barrel_taken {s : State} (inputs : Inputs) (new : SourceRecord) :
    ∃ t, finish s (updateSource .barrel new { s with inputs }) = .next t ∧ recordTaken .barrel new s t ∧
      t.srs.port1 = s.srs.port1 ∧ t.srs.port2 = s.srs.port2 := by
  obtain ⟨t, ends, taken⟩ := finish_takenAs s (updateSource_takenAs .barrel new { s with inputs })
  exact ⟨t, ends, TakenAs.recordTaken taken rfl rfl rfl rfl rfl rfl, taken.get .port1, taken.get .port2⟩

/-- Settles O26: the first three clauses by SOURCE_INVALID alone, the others by the selection that a change of the
record asks for. -/
theorem barrelDetectionReadsTheContract : Obligations.BarrelDetectionReadsTheContract := by
  intro reading s hs hp r c gone read
  have read_eq : barrelRecord reading r = read := barrelRecord_eq reading r
  have unsettled (hu : r.settled = false) : (barrelRecord reading r).settled = false := by
    simp [read_eq, read, hu]
  refine ⟨fun ha hu => ⟨fun hd hpr => ?found, fun hd => ?lost, fun hpr => ?changed⟩, fun hd => ?gone, fun hpr => ?read,
    fun hpr => ?absent⟩
  case found =>
    have valid : invalidNow .barrel r = false := by simp [invalidNow, hpr]
    have ends := (exec_barrel_found reading hd hp).trans
      (finish_barrel_unsettled _ hs hu (unsettled hu) ha)
    refine ⟨_, ends, ?_, fun none => ?_, fun some => ?_⟩
    · refine (judgeInvalid_frame _ _ _ _).eq.trans ?_
      simp only [setSource, Selector.set, barrelRecord_eq, hpr, r, c, Bool.false_and, Bool.false_eq_true, if_false]
    · subst none
      have invalid : invalidNow .barrel (barrelRecord .noMatch r) = true := by rw [barrelRecord_eq]; rfl
      rw [judgeInvalid_begins _ invalid valid]
      exact recorded_detectMild (by decide) _ _
    · have valid : invalidNow .barrel (barrelRecord reading r) = false := by
        rw [barrelRecord_eq]
        cases reading
        case noMatch => exact absurd rfl some
        all_goals rfl
      rw [judgeInvalid_valid _ valid]
      rfl
  case lost =>
    have ends := (exec_barrel_gone reading hd hp).trans (finish_barrel_unsettled _ hs hu rfl ha)
    refine ⟨_, ends, (judgeInvalid_valid _ rfl).trans ?_⟩
    rfl
  case changed =>
    have ends := (exec_adapter_present reading hpr).trans
      (finish_barrel_unsettled _ hs hu (unsettled hu) ha)
    refine ⟨_, ends, (judgeInvalid_frame _ _ _ _).eq.trans ?_⟩
    simp only [setSource, Selector.set, barrelRecord_eq, hpr, hu, r, c, Bool.true_and, Bool.and_false]
  case gone =>
    rw [exec_barrel_gone reading hd hp]
    exact finish_barrel_taken _ _
  case read =>
    rw [exec_adapter_present reading hpr, show barrelRecord reading s.srs.barrel = read from read_eq]
    exact finish_barrel_taken _ _
  case absent =>
    exact (exec_adapter_absent reading hpr).trans (finish_settled hs ⟨rfl, rfl, fun _ => rfl⟩ rfl)

end Sys2Proof.Proofs
end

section
/-! The statements about sources: settling and the SWITCHING interval. -/

namespace Sys2Proof.Proofs

open Sys2Proof.Machine Sys2Proof.Safety

/-- A record that is not eligible by settling asks for no selection. -/
theorem sourceSettled_ineligible {i : SourceId} {s : State}
    (h : ((s.srs.get i).present && (s.srs.get i).valid && !(s.srs.get i).settled) = true)
    (he : eligible { s.srs.get i with settle := 500, settled := true } = false) :
    sourceSettled i s = { s with srs := s.srs.set i { s.srs.get i with settle := 500, settled := true } } := by
  have unsettled : eligible (s.srs.get i) = false := not_eligible_of_unsettled (by simp_all)
  have asks : asksSelection (s.srs.get i) { s.srs.get i with settle := 500, settled := true } = false := by
    simp [asksSelection, unsettled, he]
  simp only [sourceSettled, h, if_true]
  exact if_neg (Bool.eq_false_iff.mp asks)

/-- The selector as the end of the SWITCHING interval leaves it (R12). -/
def steadied (x : Selector) : Selector := { x with switching := false, switchLeft := 0 }

/-- The SWITCHING interval ends in STEADY: the budget is computed again, and then a selection is made (R12). -/
theorem switchingExpired_ends {s : State} (hr : s.srs.switchReplaced = false) (h : s.srs.switching = true) :
    switchingExpired s =
      selectSource (chargeRefresh true [] { s with srs := steadied s.srs }) := by
  simp [switchingExpired, hr, h, steadied]

/-- An interval that ends with the same outcome brings the budget alone (R12, R53). -/
theorem exec_switchingExpiry_stays {s : State} (hs : busSettled s = true) (hr : s.srs.switchReplaced = false)
    (h : s.srs.switching = true)
    (stays : outcome (steadied s.srs) = s.srs.active) :
    exec .switchingExpiry s =
      .next (chargeRefresh true [] { s with srs := steadied s.srs }) := by
  have frame := chargeRefresh_frame true [] { s with srs := steadied s.srs }
  have bus := sameBus_chargeRefresh true [] { s with srs := steadied s.srs }
  have ends := (switchingExpired_ends hr h).trans (selectSource_stays (by rw [frame.onlyPlatform.srs]; exact stays))
  refine (congrArg (finish s) ends).trans (finish_settled hs ⟨bus.pbc, bus.record, bus.due⟩ ?_)
  rw [frame]

/-- An interval that ends with another outcome brings the change of the active source (R11, R12). -/
theorem exec_switchingExpiry_changes {s : State} (hr : s.srs.switchReplaced = false) (h : s.srs.switching = true)
    (changes : outcome (steadied s.srs) ≠ s.srs.active) :
    ∃ t, exec .switchingExpiry s = .next t ∧ sourceChanged (steadied s.srs) (outcome (steadied s.srs)) t := by
  have srs := (chargeRefresh_frame true [] { s with srs := steadied s.srs }).onlyPlatform.srs
  have handed := selectSource_changes (by rw [srs]; exact changes)
  rw [srs, ← switchingExpired_ends hr h] at handed
  exact ⟨_, rfl, (handed.carries (carries_conclude (.refl _))).sourceChanged⟩

/-- Settles O28: the expiries that do nothing, and the selections of R8 and R12. -/
theorem settlingAndSwitchingExpire : Obligations.SettlingAndSwitchingExpire := by
  intro i s hs r new
  refine ⟨fun hp hv hu => ?settles, fun idle => ?idle, fun hr => ?replaced, fun hr => ?expires⟩
  case settles =>
    have running : (r.present && r.valid && !r.settled) = true := by simp [hp, hv, hu]
    refine ⟨fun he => ?ineligible, fun he => ?eligible⟩
    case ineligible =>
      refine (congrArg (finish s) (sourceSettled_ineligible running he)).trans ?_
      exact finish_settled hs ⟨rfl, rfl, fun _ => rfl⟩ rfl
    case eligible =>
      obtain ⟨t, ends, taken⟩ := finish_takenAs s (sourceSettled_takenAs i s running)
      refine ⟨t, ends, taken.recordTaken ?_ rfl ?_ ?_ ?_ ?_⟩
      all_goals cases i <;> rfl
  case idle => exact (congrArg (finish s) (sourceSettled_idle i s idle)).trans (finish_same hs)
  case replaced =>
    exact (congrArg (finish s) (switchingExpired_replaced s hr)).trans
      (finish_settled hs ⟨rfl, rfl, fun _ => rfl⟩ rfl)
  case expires =>
    refine ⟨fun hw stays => ?steady, fun hw changes => exec_switchingExpiry_changes hr hw changes, fun hw => ?none⟩
    case steady =>
      obtain ⟨pIn, _, _, stamp⟩ := chargeRefresh_budget [] { s with srs := steadied s.srs }
      refine ⟨_, exec_switchingExpiry_stays hs hr hw stays, pIn, stamp, ?_⟩
      rw [chargeRefresh_frame true []]
      rfl
    case none => exact (congrArg (finish s) (switchingExpired_steady s hr hw)).trans (finish_same hs)

end Sys2Proof.Proofs
end

section
/-! The statements about the pack bus's schedule: what falls due, and a read that begins at once. -/

namespace Sys2Proof.Proofs

open Sys2Proof.Machine Sys2Proof.Safety

/-- While a transaction is on the bus, a command that leaves bus and platform state ends as its own effect leaves it. -/
theorem finish_atWork {s t : State} (h : t.pbc.running.isSome = true) (hp : t.psq.state = s.psq.state) :
    finish s t = .next t := by
  unfold finish
  rw [conclude_settled s t hp (by simp [busSettled, h])]

/-- A bus that is free and settled has no turn, no request that waits, and no poller due. -/
theorem settled_free {s : State} (h : busSettled s = true) (hr : s.pbc.running = none) :
    (∀ q, s.pbc.slot = some q → q.running = true) ∧ s.pbc.turn = none ∧ ∀ d, pollerDue s d = false := by
  simp only [busSettled, hr, Option.isSome_none, Bool.false_or, Bool.and_eq_true, Bool.not_eq_true'] at h
  obtain ⟨⟨⟨⟨⟨slot, turn⟩, packA⟩, packB⟩, port1⟩, port2⟩ := h
  refine ⟨fun q hq => ?_, Option.isNone_iff_eq_none.mp turn, fun d => ?_⟩
  · rw [hq] at slot
    exact slot
  · cases d <;> assumption

/-- With the bus free and no turn in progress, the grant goes to the pollers (R21 cases 3 and 4). -/
theorem busGrant_free {s : State} (hr : s.pbc.running = none) (hq : ∀ q, s.pbc.slot = some q → q.running = true)
    (ht : s.pbc.turn = none) : busGrant s = grantPoller s := by
  unfold busGrant grantTurn
  rw [hr, ht]
  cases hs : s.pbc.slot with
  | none => rfl
  | some q => simp [hq q hs]

/-- The only poller that is due has its turn (R21 case 3). -/
theorem grantPoller_only {s : State} {d : BusDevice} (hd : pollerDue s d = true)
    (others : ∀ e, e ≠ d → pollerDue s e = false) : grantPoller s = beginPollerTurn d s := by
  have found : (rotation s.pbc.lastTurn).find? (pollerDue s) = some d := by
    have due : pollerDue s = fun e => decide (e = d) := by
      funext e
      by_cases h : e = d
      · simp [h, hd]
      · simp [h, others e h]
    rw [due]
    cases d <;> cases s.pbc.lastTurn <;> rfl
  simp [grantPoller, found]

/-- With the line high, a port's turn puts its contract read on the bus (R6, R20, R21). -/
theorem beginPortTurn_high {s : State} (p : PortId) (h : s.inputs.busLineHigh = true) :
    beginPortTurn p s =
      lineFound { s with
        pbc := { s.pbc with
          running := some ⟨p.device, false, .readBlock 0x40 5, false, false, 25, false⟩
          turn := some ⟨p.device, .contract, [], []⟩, lastTurn := p.device
          portDue := s.pbc.portDue.set p false } } := by
  simp [beginPortTurn, beginTurn, startTransaction, startAttempt, h, Config.attemptMs]

theorem pollerDue_port (port : PortId) (s : State) : pollerDue s port.device = s.pbc.portDue.get port := by
  cases port <;> rfl

/-- An alert makes its own port due and no other poller. -/
theorem pollerDue_requestRead (port : PortId) (s : State) {e : BusDevice} (h : e ≠ port.device) :
    pollerDue (requestRead port s) e = pollerDue s e := by
  cases e with
  | packA | packB => cases port <;> rfl
  | port1 =>
    cases port with
    | port1 => exact absurd rfl h
    | port2 => rfl
  | port2 =>
    cases port with
    | port1 => rfl
    | port2 => exact absurd rfl h

/-- An alert on a free bus with nothing else due: the port's read begins (R5, R21). -/
theorem busGrant_requestRead {s : State} (port : PortId) (hs : busSettled s = true) (hr : s.pbc.running = none) :
    busGrant (requestRead port s) = beginPortTurn port (requestRead port s) := by
  obtain ⟨slot, turn, due⟩ := settled_free hs hr
  rw [busGrant_free (s := requestRead port s) hr slot turn, grantPoller_only (d := port.device)]
  · cases port <;> rfl
  · simp [pollerDue_port, requestRead]
  · exact fun e he => (pollerDue_requestRead port s he).trans (due e)

/-- A read that is asked for and begun at once leaves nothing due. -/
theorem portDue_asked_begun {x : PerPort Bool} {port : PortId} (h : x.get port = false) :
    (x.set port true).set port false = x := by
  obtain ⟨port1, port2⟩ := x
  cases port <;> simp_all [PerPort.set, PerPort.get]

/-- Settles O27: what falls due while the bus is at work, what does nothing, and the read that begins on a free bus. -/
theorem readsFallDueAndBegin : Obligations.ReadsFallDueAndBegin := by
  intro port pack s asked d
  refine ⟨fun hr => ⟨?alert, fun hp => ?interval, fun hi => ?identification, fun hi => ?poll⟩,
    fun hs => ⟨fun hp => ?absent, fun hi => ?noIdentification, fun hi => ?noPoll⟩, fun hs hr hl => ?begins⟩
  case alert => exact finish_atWork hr rfl
  case interval =>
    have ends : portIntervalEnds port s = requestRead port { s with srs.portWait := s.srs.portWait.set port 2000 } :=
      if_pos hp
    exact (congrArg (finish s) ends).trans (finish_atWork hr rfl)
  case identification =>
    have falls : identificationFalls pack s =
        modSchedule pack (fun x => { x with identLeft := none, identDue := true }) s :=
      if_pos hi
    exact (congrArg (finish s) falls).trans (finish_atWork hr rfl)
  case poll =>
    have falls : pollFalls pack s = modSchedule pack (fun x => { x with pollLeft := none, pollDue := true }) s :=
      if_pos hi
    exact (congrArg (finish s) falls).trans (finish_atWork hr rfl)
  case absent =>
    have ends : portIntervalEnds port s = s := if_neg (by simp [hp])
    exact (congrArg (finish s) ends).trans (finish_same hs)
  case noIdentification =>
    have falls : identificationFalls pack s = s := if_neg (by simpa [d] using hi)
    exact (congrArg (finish s) falls).trans (finish_same hs)
  case noPoll =>
    have falls : pollFalls pack s = s := if_neg (by simpa [d] using hi)
    exact (congrArg (finish s) falls).trans (finish_same hs)
  case begins =>
    obtain ⟨_, _, due⟩ := settled_free hs hr
    have kept : asked.set port false = s.pbc.portDue := portDue_asked_begun ((pollerDue_port port s).symm.trans (due _))
    have ends : conclude s (requestRead port s) = beginPortTurn port (requestRead port s) := by
      unfold conclude
      rw [offerAtOff_same s (requestRead port s) rfl, busGrant_requestRead port hs hr]
    refine (congrArg Host.Outcome.next (ends.trans (beginPortTurn_high port hl))).trans ?_
    simp only [requestRead, lineFound, show (s.pbc.portDue.set port true).set port false = s.pbc.portDue from kept]
    rfl

end Sys2Proof.Proofs
end

section
/-! The statement about P_sys samples: the budget and the overload in runs of three. -/

namespace Sys2Proof.Proofs

open Sys2Proof.Machine Sys2Proof.Safety

/-- What the judgement of a sample can touch: the overload and its run in SRS, the fault table, and reports. -/
def OverloadJudged (overload : Bool) (run : Nat) (s t : State) : Prop :=
  t = { s with srs := { s.srs with overload, overloadRun := run }, flt := t.flt, rpm := t.rpm, ind := t.ind }

theorem endOverload_judged (s : State) : OverloadJudged false 0 s (endOverload s) := by
  unfold endOverload
  rw [raise_frame]
  rfl

theorem beginOverload_judged (s : State) : OverloadJudged true 0 s (beginOverload s) := by
  unfold beginOverload
  rw [detectMild_frame, raise_frame]
  rfl

/-- R15's judgement of a sample: nothing while there is no steady source, the run at 0 on the same side of P_in_max,
else the run counted, and the overload turned at three. -/
def judgedAs (x : Selector) (overload : Bool) (run : Nat) : Prop :=
  if x.active = none ∨ x.switching = true then overload = x.overload ∧ run = x.overloadRun
  else if decide (pInMax x < x.pSys) = x.overload then overload = x.overload ∧ run = 0
  else if x.overloadRun < 2 then overload = x.overload ∧ run = x.overloadRun + 1
  else overload = (!x.overload) ∧ run = 0

theorem judgeOverload_spec (s : State) :
    ∃ overload run, OverloadJudged overload run s (judgeOverload s) ∧ judgedAs s.srs overload run := by
  unfold judgeOverload judgedAs
  by_cases steady : s.srs.active = none ∨ s.srs.switching = true
  · have idle : (s.srs.active.isNone || s.srs.switching) = true := by simpa using steady
    simp only [if_pos idle, if_pos steady]
    exact ⟨_, _, rfl, rfl, rfl⟩
  · have idle : (s.srs.active.isNone || s.srs.switching) = false := by
      simpa [Option.isSome_iff_ne_none] using steady
    simp only [idle, if_neg steady, Bool.false_eq_true, if_false]
    by_cases side : decide (pInMax s.srs < s.srs.pSys) = s.srs.overload
    · simp only [side, bne_self_eq_false, Bool.not_false, if_true]
      exact ⟨_, _, rfl, rfl, rfl⟩
    · have counts : (decide (pInMax s.srs < s.srs.pSys) != s.srs.overload) = true := by simpa using side
      simp only [counts, if_neg side, Bool.not_true, Bool.false_eq_true, if_false]
      by_cases run : s.srs.overloadRun < 2
      · simp only [if_pos (show s.srs.overloadRun + 1 < 3 by omega), if_pos run]
        exact ⟨_, _, rfl, rfl, rfl⟩
      · simp only [if_neg (show ¬s.srs.overloadRun + 1 < 3 by omega), if_neg run]
        cases s.srs.overload with
        | true => exact ⟨_, _, endOverload_judged s, rfl, rfl⟩
        | false => exact ⟨_, _, beginOverload_judged s, rfl, rfl⟩

theorem OverloadJudged.sameBus {overload : Bool} {run : Nat} {s t : State} (h : OverloadJudged overload run s t) :
    SameBus s t := by
  unfold OverloadJudged at h
  rw [h]
  exact ⟨rfl, rfl, fun _ => rfl⟩

/-- Settles O30: the refresh brings the budget, and the judgement of R15 the overload. -/
theorem pSysSampleIsJudgedForOverload : Obligations.PSysSampleIsJudgedForOverload := by
  intro reading s hs
  let s0 : State := { s with srs := { s.srs with pSys := min 200000 reading } }
  have ends : pSysSampled reading s = judgeOverload (chargeRefresh true [] s0) := rfl
  have frame : OnlyCharge s0 (chargeRefresh true [] s0) := chargeRefresh_frame true [] s0
  have bus : SameBus s0 (chargeRefresh true [] s0) := sameBus_chargeRefresh true [] s0
  obtain ⟨_, _, pSys, stamp⟩ := chargeRefresh_budget [] s0
  obtain ⟨overload, run, judged, as⟩ := judgeOverload_spec (chargeRefresh true [] s0)
  generalize chargeRefresh true [] s0 = r at *
  rw [frame.onlyPlatform.srs] at as
  have kept : SameBus s r := ⟨bus.pbc, bus.record, bus.due⟩
  have bus := kept.trans judged.sameBus
  generalize judgeOverload r = t at *
  unfold OverloadJudged at judged
  unfold OnlyCharge at frame
  refine ⟨t, (congrArg (finish s) ends).trans (finish_settled hs bus ?_), ?_, ?_, ?_, ?_, ?_⟩
  · rw [judged, frame]
  · rw [judged, frame]
  · rw [judged]
    exact pSys
  · rw [judged]
    exact stamp
  · rw [judged]
    exact as
  · rw [judged, frame]

end Sys2Proof.Proofs
end

section
/-! The statements about requests of the sources and the power records. -/

namespace Sys2Proof.Proofs

open Sys2Proof.Machine Sys2Proof.Safety

/-! ## Requests served at once -/

/-- A served request with its answer delivered: the block's effect `u`, with nothing for the bus, and the answer. -/
theorem finish_request {type : Byte} {serve : List Byte → State → State × List Byte} {p reply : List Byte}
    {s u : State} (h : quiet s = true) (served : serve p (huntAgain s) = (huntAgain u, reply))
    (link : u.lkp = s.lkp) (bus : SameBus s u) (hp : u.psq.state = s.psq.state) :
    finish s (request type serve p s) = .next (answered type reply u) := by
  have idle : linkIdle u = true := by
    have idle := quiet_linkIdle h
    simpa only [linkIdle, serviceFree, assemblyWaits, repliesFull, link] using idle
  rw [request_idle _ _ _ _ (quiet_linkIdle h), served, deliver_huntAgain _ _ _ idle]
  have kept : SameBus u (answered type reply u) := ⟨rfl, rfl, fun _ => rfl⟩
  exact finish_settled (quiet_busSettled h) (bus.trans kept) hp

/-- A request that only reads. -/
theorem finish_read {type : Byte} {serve : List Byte → State → State × List Byte} {p reply : List Byte} {s : State}
    (h : quiet s = true) (served : serve p (huntAgain s) = (huntAgain s, reply)) :
    finish s (request type serve p s) = .next (answered type reply s) :=
  finish_request h served rfl ⟨rfl, rfl, fun _ => rfl⟩ rfl

/-! ## Fields -/

theorem byteOf_toNat (b : Byte) : byteOf b.toNat = b := by simp [byteOf]

theorem byteOf_zero : byteOf 0 = 0 := rfl

theorem byteOf_one : byteOf 1 = 1 := rfl

theorem stampBytes_zero : stampBytes 0#32 = [0, 0, 0, 0] := rfl

theorem packOf_code (p : PackId) : packOf (byteOf p.code).toNat = p := by
  cases p <;> rfl

theorem packCode_inRange (p : PackId) : ¬1 < (byteOf p.code).toNat := by
  cases p <;> decide

/-! ## The reads (R17, R32, R33, R62, R66) -/

theorem serve_sourceStatusGet (s : State) :
    serveSourceStatusGet [] s =
      (s, [0, byteOf (sourceCode s.srs.active), boolByte s.srs.switching, byteOf (sourceCode s.srs.pin),
        flagByte [s.srs.barrel.disabled, s.srs.port1.disabled, s.srs.port2.disabled], byteOf s.srs.margin] ++
        sourceBytes s.srs.barrel ++ sourceBytes s.srs.port1 ++ sourceBytes s.srs.port2 ++ le32 s.srs.pSys ++
        le32 (pInMax s.srs) ++ [boolByte s.srs.overload, byteOf s.srs.overloadRun]) := rfl

theorem serve_packStatusGet_now {p : PackId} {s : State} (hp : (s.pks.record.get p).populated = true) :
    servePackStatusGet [byteOf p.code, 0] s =
      (s, [0, byteOf p.code, 0, 0, 0, 0, 0] ++ packBytes (s.pks.record.get p) ++ [byteOf s.pks.rsoc]) := by
  simp [servePackStatusGet, byteAt, packOf_code, hp, packCode_inRange p, stOk, byteOf_zero, stampBytes_zero]

theorem serve_packStatusGet_copied {p : PackId} {s : State} {n : Snapshot}
    (hp : (s.pks.record.get p).populated = true) (hn : s.pks.snapshot = some n) :
    servePackStatusGet [byteOf p.code, 1] s =
      (s, [0, byteOf p.code, 1] ++ stampBytes n.stamp ++ packBytes (n.packs.get p) ++ [byteOf n.rsoc]) := by
  simp [servePackStatusGet, byteAt, packOf_code, hp, packCode_inRange p, hn, stOk, byteOf_one]

theorem serve_profileGet {p : PackId} {first : Byte} {s : State} (hp : (s.pks.record.get p).populated = true)
    (hf : first.toNat ≤ 7) :
    serveProfileGet [byteOf p.code, first] s =
      (s, 0 :: profileHeader p (s.chc.context.get p) ++
        [first, byteOf (returnedStages (s.chc.context.get p) first.toNat).length] ++
        ((returnedStages (s.chc.context.get p) first.toNat).map stageBytes).flatten) := by
  simp [serveProfileGet, profileCheck, byteAt, packOf_code, hp, byteOf_toNat, packCode_inRange p,
    Nat.not_lt.mpr hf, stOk]

theorem serve_budgetGet_now {part : Byte} {s : State} (hp : part.toNat ≤ 1) :
    serveBudgetGet [0, part] s = (s, [0, 0, part, 0, 0, 0, 0] ++ budgetPart part.toNat s.chc.budget) := by
  simp [serveBudgetGet, byteAt, byteOf_toNat, Nat.not_lt.mpr hp, stOk, byteOf_zero, stampBytes_zero]

theorem serve_budgetGet_copied {part : Byte} {s : State} {n : Snapshot} (hp : part.toNat ≤ 1)
    (hn : s.pks.snapshot = some n) :
    serveBudgetGet [1, part] s = (s, [0, 1, part] ++ stampBytes n.stamp ++ budgetPart part.toNat n.budget) := by
  simp [serveBudgetGet, byteAt, byteOf_toNat, Nat.not_lt.mpr hp, hn, stOk, byteOf_one]

theorem serve_budgetGet_none {part : Byte} {s : State} (hp : part.toNat ≤ 1) (hn : s.pks.snapshot = none) :
    serveBudgetGet [1, part] s = (s, [7]) := by
  simp [serveBudgetGet, byteAt, Nat.not_lt.mpr hp, hn]
  rfl

/-- Settles O32: each read by what its request serves, and PACK_SNAPSHOT by its one effect. -/
theorem powerRecordsAreReadOrCopied : Obligations.PowerRecordsAreReadOrCopied := by
  intro p first part s h r c pack
  refine ⟨?sources, ?snapshot, fun hp => ⟨?now, fun n hn => ?copied, fun hf => ?profile⟩,
    fun hp => ⟨?budget, fun n hn => ?copiedBudget, fun hn => ?none⟩⟩
  case sources => exact finish_read h (serve_sourceStatusGet _)
  case snapshot => exact finish_request h rfl rfl ⟨rfl, rfl, fun _ => rfl⟩ rfl
  case now => exact finish_read h (serve_packStatusGet_now hp)
  case copied => exact finish_read h (serve_packStatusGet_copied hp hn)
  case profile =>
    refine finish_read h ((serve_profileGet (s := huntAgain s) hp hf).trans ?_)
    simp only [profileHeader, endIndex]
    rfl
  case budget => exact finish_read h (serve_budgetGet_now hp)
  case copiedBudget => exact finish_read h (serve_budgetGet_copied hp hn)
  case none => exact finish_read h (serve_budgetGet_none hp hn)

end Sys2Proof.Proofs
end

section
/-! SOURCE_POLICY (R16): what is refused, what is taken, and what the reply carries. -/

namespace Sys2Proof.Proofs

open Sys2Proof.Machine Sys2Proof.Safety

/-! ## The link under a change of the active source -/

/-- Of the link, nothing but its state has changed: a wake that is taken returns it to SETUP (R185). -/
def KeepsLink (s t : State) : Prop := t.lkp = { s.lkp with run := t.lkp.run }

variable {s t u : State}

theorem KeepsLink.trans (h : KeepsLink s t) (g : KeepsLink t u) : KeepsLink s u := by
  unfold KeepsLink at *
  rw [g, h]

theorem KeepsLink.platform (h : KeepsLink s t) (g : OnlyPlatform t u) : KeepsLink s u :=
  h.trans (by rw [g]; rfl)

theorem keepsLink_endOverload (h : KeepsLink s t) : KeepsLink s (endOverload t) := by
  unfold endOverload
  have ended : ∀ v, KeepsLink s v → KeepsLink s (judgeThrottle (endFault .sourceOverload v)) := fun _ g => g
  have quieted : KeepsLink s { t with srs := { t.srs with overload := false, overloadRun := 0 } } := h
  exact ended _ (quieted.platform (raise_frame _ _).onlyPlatform)

theorem keepsLink_changeActive (new : Option SourceId) (s : State) : KeepsLink s (changeActive new s) := by
  unfold changeActive handSource
  extract_lets old x t1 t2 t3
  have h1 : KeepsLink s t1 := rfl
  have h2 : KeepsLink s t2 := by
    unfold t2
    split
    · exact h1.platform (settingEvent_reach _ _)
    · exact h1
  clear_value t2
  have h3 : KeepsLink s t3 := by
    have refreshed := (h2.platform (raise_frame (.source new old new.isSome) t2).onlyPlatform).platform
      (chargeRefresh_frame true [] _).onlyPlatform
    have switched : ∀ v, KeepsLink s v → KeepsLink s (setSwitches v) := fun _ g => g
    exact (switched _ refreshed).platform (judgeCritical_reach _)
  clear_value t3
  split
  · exact keepsLink_endOverload h3
  · exact h3

theorem keepsLink_selectSource (s : State) : KeepsLink s (selectSource s) := by
  unfold selectSource
  split
  · rfl
  · exact keepsLink_changeActive _ s

theorem keepsLink_conclude (s t : State) : KeepsLink t (conclude s t) := by
  unfold conclude offerAtOff
  have granted : ∀ v : State, KeepsLink v (busGrant v) := fun v => by
    unfold KeepsLink
    rw [(onlyGrant_busGrant v).1]
  split
  · exact (KeepsLink.platform rfl (offerWake_reach t)).trans (granted _)
  · exact granted t

/-! ## The policy -/

theorem pinOf_toNat (pin : Byte) :
    pinOf pin.toNat =
      if pin = 1 then some .barrel else if pin = 2 then some .port1 else if pin = 3 then some .port2 else none := by
  revert pin
  decide

theorem pinByte_pinOf {pin : Byte} (h : pin.toNat ≤ 3) : byteOf (sourceCode (pinOf pin.toNat)) = pin := by
  revert pin
  decide

theorem maskByte_bits {mask : Byte} (h : mask.toNat ≤ 7) :
    flagByte [mask.getLsbD 0, mask.getLsbD 1, mask.getLsbD 2] = mask := by
  revert mask
  decide

/-- The selector under a policy, as the statement writes it. -/
theorem withPolicy_eq (pin mask : Byte) (margin : Nat) (x : Selector) :
    withPolicy pin.toNat mask.toNat margin x =
      { x with
        barrel.disabled := mask.getLsbD 0, port1.disabled := mask.getLsbD 1, port2.disabled := mask.getLsbD 2
        pin :=
          if pin = 1 then some .barrel else if pin = 2 then some .port1 else if pin = 3 then some .port2 else none
        margin } := by
  unfold withPolicy
  rw [pinOf_toNat]
  rfl

theorem policyBytes_withPolicy {pin mask : Byte} (hp : pin.toNat ≤ 3) (hm : mask.toNat ≤ 7) (margin : Nat)
    (x : Selector) : policyBytes (withPolicy pin.toNat mask.toNat margin x) = [pin, mask, byteOf margin] := by
  have bits : disableMask (withPolicy pin.toNat mask.toNat margin x) = mask := maskByte_bits hm
  simp only [policyBytes, bits]
  exact congrArg (· :: [mask, byteOf margin]) (pinByte_pinOf hp)

/-- The state after a policy that is taken: the budget is computed again, and a selection is made. -/
def policyTaken (x : Selector) (s : State) : State := selectSource (chargeRefresh true [] { s with srs := x })

/-- The reply of a policy that is taken. -/
def policyReply (margin : Byte) (x : Selector) : List Byte :=
  doneStatus (decide (20 < margin.toNat)) :: policyBytes x ++ [byteOf (sourceCode x.active), boolByte x.switching]

theorem serve_sourcePolicy_badValue {pin mask margin : Byte} {s : State} (h : 3 < pin.toNat ∨ 7 < mask.toNat) :
    serveSourcePolicy [pin, mask, margin] s = (s, [5]) := by
  simp [serveSourcePolicy, byteAt, h, refuse]
  rfl

section

variable {pin mask margin : Byte} (hp : pin.toNat ≤ 3) (hm : mask.toNat ≤ 7)

include hp hm

theorem serve_sourcePolicy_wrongState
    (ho : outcome (withPolicy pin.toNat mask.toNat (min 20 margin.toNat) s.srs) = none)
    (hd : dischargeCapable s = false) : serveSourcePolicy [pin, mask, margin] s = (s, [6]) := by
  have range : ¬(3 < pin.toNat ∨ 7 < mask.toNat) := by omega
  simp [serveSourcePolicy, byteAt, range, refuse, ho, hd]
  rfl

theorem serve_sourcePolicy_taken
    (h : outcome (withPolicy pin.toNat mask.toNat (min 20 margin.toNat) s.srs) ≠ none ∨ dischargeCapable s = true) :
    serveSourcePolicy [pin, mask, margin] s =
      (policyTaken (withPolicy pin.toNat mask.toNat (min 20 margin.toNat) s.srs) s,
        policyReply margin
          (policyTaken (withPolicy pin.toNat mask.toNat (min 20 margin.toNat) s.srs) s).srs) := by
  have range : ¬(3 < pin.toNat ∨ 7 < mask.toNat) := by omega
  have supplied : ¬(outcome (withPolicy pin.toNat mask.toNat (min 20 margin.toNat) s.srs) = none ∧
      dischargeCapable s = false) := by
    rintro ⟨none, off⟩
    rcases h with some | on
    · exact some none
    · rw [on] at off
      contradiction
  simp only [serveSourcePolicy, byteAt, List.length_cons, List.length_nil, List.getD_cons_zero, List.getD_cons_succ,
    range, supplied, if_false, ne_eq, not_true_eq_false]
  rfl

end

/-! ## The policy taken -/

variable {x : Selector}

theorem policyTaken_takenAs (x : Selector) (s : State) : TakenAs true x (policyTaken x s) := by
  have taken := takenAs_select true (chargeRefresh true [] { s with srs := x })
  rw [(chargeRefresh_frame true [] _).onlyPlatform.srs] at taken
  exact taken

theorem policyTaken_stays (h : outcome x = x.active) :
    policyTaken x s = chargeRefresh true [] { s with srs := x } := by
  refine selectSource_stays ?_
  rw [(chargeRefresh_frame true [] _).onlyPlatform.srs]
  exact h

theorem policyTaken_budget (x : Selector) (s : State) : BudgetCurrent (policyTaken x s) := by
  have taken := policyTaken_takenAs x s
  unfold TakenAs at taken
  by_cases stays : outcome x = x.active
  · rw [policyTaken_stays stays]
    exact budgetCurrent_chargeRefresh _ _
  · rw [if_pos ⟨rfl, stays⟩] at taken
    exact taken.budget

theorem policyTaken_link (x : Selector) (s : State) : KeepsLink s (policyTaken x s) := by
  have base : KeepsLink s { s with srs := x } := rfl
  exact (base.platform (chargeRefresh_frame true [] _).onlyPlatform).trans (keepsLink_selectSource _)

/-- A selection leaves the active source that R10 gives, and all of the policy. -/
theorem takenAs_selector (h : TakenAs true x t) :
    t.srs = { x with
      active := outcome x, switching := t.srs.switching, switchLeft := t.srs.switchLeft
      switchReplaced := t.srs.switchReplaced, overload := t.srs.overload, overloadRun := t.srs.overloadRun } := by
  unfold TakenAs at h
  by_cases stays : outcome x = x.active
  · rw [if_neg (fun c => c.2 stays)] at h
    rw [h, stays]
  · rw [if_pos ⟨rfl, stays⟩] at h
    rw [h.srs]
    rfl

theorem repliesFull_keepsLink (hl : linkIdle s = true) (h : KeepsLink (huntAgain s) t) : repliesFull t = false := by
  unfold repliesFull
  rw [h]
  exact linkIdle_repliesFull (s := s) hl

/-- The reply is in the queue, and the slot is free again. -/
theorem deliver_answers {type : Byte} {reply : List Byte} (hl : linkIdle s = true) (h : KeepsLink (huntAgain s) t) :
    answers type reply s (deliver (replyTo type reply) t) := by
  rw [deliver_room _ _ (repliesFull_keepsLink hl h)]
  unfold answers
  dsimp only
  rw [h]
  exact ⟨rfl, rfl, rfl⟩

theorem answers_kept {type : Byte} {reply : List Byte} (h : answers type reply s t) (g : KeepsLink t u) :
    answers type reply s u := by
  unfold answers at *
  rw [g]
  exact h

theorem carries_deliver (o : Outgoing) (t : State) : Carries t (deliver o t) := by
  unfold deliver
  exact carries_ite (Carries.untouched (.refl t) rfl) (Carries.untouched (.refl t) rfl)

/-- A reply is the link's alone. -/
theorem deliver_frame (o : Outgoing) (t : State) : deliver o t = { t with lkp := (deliver o t).lkp } := by
  unfold deliver
  split <;> rfl

theorem sameBus_deliver (o : Outgoing) (t : State) : SameBus t (deliver o t) := by
  rw [deliver_frame]
  exact ⟨rfl, rfl, fun _ => rfl⟩

/-- The selection of a policy that leaves the active source has been the budget's alone, and the command ends so. -/
theorem conclude_policy_stays {o : Outgoing} (hq : quiet s = true) (same : outcome x = x.active) :
    conclude s (deliver o (policyTaken x (huntAgain s))) = deliver o (policyTaken x (huntAgain s)) := by
  rw [policyTaken_stays same]
  have refreshed := sameBus_chargeRefresh true [] { huntAgain s with srs := x }
  have bus : SameBus s (chargeRefresh true [] { huntAgain s with srs := x }) :=
    ⟨refreshed.pbc, refreshed.record, refreshed.due⟩
  refine (bus.trans (sameBus_deliver o _)).conclude (quiet_busSettled hq) ?_
  rw [deliver_frame, chargeRefresh_frame true []]
  rfl

/-- A policy that is taken, to the end of the command. -/
theorem exec_sourcePolicy_taken {pin mask margin : Byte} (hq : quiet s = true)
    (served : serveSourcePolicy [pin, mask, margin] (huntAgain s) =
      (policyTaken x (huntAgain s), policyReply margin (policyTaken x (huntAgain s)).srs)) :
    ∃ t, exec (.sourcePolicy [pin, mask, margin]) s = .next t ∧ TakenAs true x t ∧ BudgetCurrent t ∧
      answers 0x10 (policyReply margin t.srs) s t ∧
      (outcome x = x.active →
        t = { s with
              srs := x, lkp := t.lkp, chc.context := t.chc.context, chc.budget := t.chc.budget
              pks.schedule := t.pks.schedule, ind := t.ind, rpm := t.rpm, flt := t.flt }) := by
  have hl := quiet_linkIdle hq
  have ends : exec (.sourcePolicy [pin, mask, margin]) s =
      finish s (deliver (replyTo 0x10 (policyReply margin (policyTaken x (huntAgain s)).srs))
        (policyTaken x (huntAgain s))) := by
    refine (congrArg (finish s) (request_idle 0x10 serveSourcePolicy _ s hl)).trans ?_
    rw [served]
  have kept := carries_conclude (before := s)
    (carries_deliver (replyTo 0x10 (policyReply margin (policyTaken x (huntAgain s)).srs))
      (policyTaken x (huntAgain s)))
  refine ⟨_, ends, (policyTaken_takenAs x (huntAgain s)).carries kept,
    kept.budget (policyTaken_budget x (huntAgain s)), ?_,
    fun same => ?_⟩
  · rw [kept.srs]
    exact answers_kept (deliver_answers hl (policyTaken_link x (huntAgain s))) (keepsLink_conclude s _)
  · rw [conclude_policy_stays hq same, deliver_frame, policyTaken_stays same, chargeRefresh_frame true []]
    rfl

/-- Settles O31: the two refusals, and the policy taken. -/
theorem sourcePolicyIsRefusedOrTaken : Obligations.SourcePolicyIsRefusedOrTaken := by
  intro pin mask margin s hq x on
  have policy : withPolicy pin.toNat mask.toNat (min 20 margin.toNat) s.srs = x := withPolicy_eq pin mask _ s.srs
  refine ⟨fun bad => ?badValue, fun hp hm ho hd => ?wrongState, fun hp hm h => ?taken⟩
  case badValue => exact finish_read hq (serve_sourcePolicy_badValue bad)
  case wrongState => exact finish_read hq (serve_sourcePolicy_wrongState hp hm (policy ▸ ho) hd)
  case taken =>
    have served := serve_sourcePolicy_taken (margin := margin) (s := huntAgain s) hp hm (policy ▸ h)
    obtain ⟨t, ends, taken, budget, reply, same⟩ := exec_sourcePolicy_taken hq (policy ▸ served)
    have srs := takenAs_selector taken
    obtain ⟨_, marginKept, _⟩ := budget
    refine ⟨t, ends, srs, ?_, ?_, same⟩
    · rw [marginKept, srs]
    · have bytes : policyBytes t.srs = [pin, mask, byteOf (min 20 margin.toNat)] := by
        rw [srs, ← policy]
        exact policyBytes_withPolicy hp hm _ s.srs
      have active : t.srs.active = outcome x := by rw [srs]
      unfold policyReply at reply
      rw [bytes, active] at reply
      simpa [doneStatus, stAdjusted, stOk] using reply

end Sys2Proof.Proofs
end

section
/-! The outcomes of the bus that reach a requester: the passthrough slot (R34) and a port's record (R6). -/

namespace Sys2Proof.Proofs

open Sys2Proof.Machine Sys2Proof.Safety

variable {s : State} {x : Transaction} {line : Bool}

/-! ## How an attempt ends (R19) -/

theorem exec_acked {data : List Byte} (hx : s.pbc.running = some x) (hr : x.recovering = false)
    (hf : fits x.op data = true) :
    exec (.busAttemptEnd (.acked data) line) s = finish s (endTransaction x (some data) (lineLevel line s)) := by
  refine congrArg (finish s) ?_
  simp [busAttemptEnds, attemptEnded, lineLevel, hx, hr, hf]

theorem exec_notAcked_second (hx : s.pbc.running = some x) (hr : x.recovering = false) (hs : x.second = true) :
    exec (.busAttemptEnd .notAcked line) s = finish s (endTransaction x none (lineLevel line s)) := by
  refine congrArg (finish s) ?_
  simp [busAttemptEnds, attemptEnded, attemptFails, lineLevel, hx, hr, hs]

/-! ## The passthrough (R34) -/

/-- The state in which a passthrough has been answered, and the bus is free. -/
def passthroughEnded (line : Bool) (type : Byte) (payload : List Byte) (s : State) : State :=
  { s with
    inputs.busLineHigh := line
    pbc := { s.pbc with running := none, slot := none }
    lkp := { s.lkp with service := .empty, replies := s.lkp.replies ++ [⟨⟨replyType type, payload⟩, false⟩] } }

/-- The outcome of the passthrough is answered, and with nothing due the bus stays free. -/
theorem finish_passthrough {q : Passthrough} {type : Byte} (result : Option (List Byte)) (hp : x.passthrough = true)
    (hq : s.pbc.slot = some q) (hl : s.lkp.service = .passthrough type false) (hr : repliesFull s = false)
    (ht : s.pbc.turn = none) (hd : ∀ d, pollerDue s d = false) :
    finish s (endTransaction x result (lineLevel line s)) =
      .next (passthroughEnded line type (passthroughReply q result) s) := by
  have answered : endTransaction x result (lineLevel line s) =
      passthroughEnded line type (passthroughReply q result) s := by
    unfold endTransaction passthroughOutcome answerPassthrough
    simp only [hp, lineLevel, hq, hl, if_true, Bool.false_eq_true, if_false]
    exact deliver_room _ _ hr
  have due : ∀ d, pollerDue (passthroughEnded line type (passthroughReply q result) s) d = false := by
    intro d
    have := hd d
    cases d <;> exact this
  have settled : busSettled (passthroughEnded line type (passthroughReply q result) s) = true := by
    unfold busSettled
    simp only [due]
    simp [passthroughEnded, ht]
  unfold finish
  rw [answered, conclude_settled s (passthroughEnded line type (passthroughReply q result) s) rfl settled]

/-! ## A contract block (R6) -/

/-- The record that a contract block of a present port gives, as the statement writes it. -/
theorem portRecord_eq (block : List Byte) (r : SourceRecord) :
    portRecord block r =
      (let mV := 50 * le16At block 1
       let mA := min 5000 (10 * le16At block 3)
       let good := decide (5000 ≤ mV ∧ mV ≤ 20000)
       let kept := r.present && r.valid && good
       if byteAt block 0 = 0 then
         { r with
           present := false, valid := false, voltage := 0, current := 0, power := 0, cls := .none, settle := 0
           settled := false }
       else
         { r with
           present := true, valid := good, voltage := mV, current := mA, power := mV * mA / 1000, cls := .none
           settle := if kept then r.settle else 0, settled := kept && r.settled }) := by
  unfold portRecord withContract
  simp only [Nat.mul_comm (le16At block 1) 50, Nat.mul_comm (le16At block 3) 10, Bool.decide_and]
  rfl

theorem portRecord_unsettled {block : List Byte} {r : SourceRecord} (h : r.settled = false) :
    (portRecord block r).settled = false := by
  unfold portRecord
  split
  · rfl
  · simp [withContract, h]

/-- The state in which a contract block reaches SRS: the bus is free, and the port's interval and judgement are set. -/
def blockRead (line : Bool) (p : PortId) (block : List Byte) (s : State) : State :=
  { s with
    inputs.busLineHigh := line
    pbc := { s.pbc with running := none, turn := none }
    srs :=
      { s.srs with
        awaitRead := s.srs.awaitRead.set p false
        portWait := s.srs.portWait.set p
          (portWaitAfter (s.srs.get p.source) (portRecord block (s.srs.get p.source)) (s.srs.portWait.get p)) } }

theorem blockRead_get (line : Bool) (p : PortId) (block : List Byte) (s : State) (i : SourceId) :
    (blockRead line p block s).srs.get i = s.srs.get i := by
  cases i <;> rfl

/-- A good contract read updates its port's record (R6). -/
theorem endTransaction_port {p : PortId} {turn : Turn} {block : List Byte} (hp : x.passthrough = false)
    (ha : x.abandoned = false) (hd : x.device = p.device) (ht : s.pbc.turn = some turn) :
    endTransaction x (some block) (lineLevel line s) =
      updateSource p.source (portRecord block (s.srs.get p.source)) (blockRead line p block s) := by
  unfold endTransaction pollerOutcome
  simp only [hp, ha, hd, lineLevel, ht, Bool.false_eq_true, if_false]
  cases p <;> rfl

/-- The record's change in the statement's form. -/
theorem blockRead_taken {t : State} {p : PortId} {block : List Byte} {new : SourceRecord}
    (h : TakenAs (asksSelection ((blockRead line p block s).srs.get p.source) new)
      ((blockRead line p block s).srs.set p.source new) t) : recordTaken p.source new s t := by
  rw [blockRead_get] at h
  refine h.recordTaken (by simp) ?_ ?_ ?_ ?_ ?_
  all_goals cases p <;> rfl

/-- A port that is neither settled nor in use: nothing but its record, the bus and SOURCE_INVALID. -/
theorem conclude_port_unsettled {p : PortId} {block : List Byte} {t : State}
    (hr : (s.srs.get p.source).settled = false) (ha : s.srs.active ≠ some p.source)
    (ht : t = conclude s (updateSource p.source (portRecord block (s.srs.get p.source)) (blockRead line p block s))) :
    t = { s with
          inputs.busLineHigh := line
          srs :=
            { s.srs.set p.source (portRecord block (s.srs.get p.source)) with
              awaitRead := s.srs.awaitRead.set p false, portWait := t.srs.portWait }
          pbc := t.pbc, pks.schedule := t.pks.schedule, flt := t.flt, ind := t.ind, rpm := t.rpm } := by
  rw [updateSource_unsettled ((congrArg _ (blockRead_get _ _ _ _ _)).trans hr) (portRecord_unsettled hr) ha] at ht
  have frame := judgeInvalid_frame p.source ((blockRead line p block s).srs.get p.source)
    (portRecord block (s.srs.get p.source))
    (setSource p.source (portRecord block (s.srs.get p.source)) (blockRead line p block s))
  generalize judgeInvalid _ _ _ _ = j at *
  unfold conclude at ht
  rw [offerAtOff_same s j frame.psq] at ht
  have granted := (onlyGrant_busGrant j).1
  rw [← ht] at granted
  have ind : t.ind = j.ind := by rw [granted]
  have rpm : t.rpm = j.rpm := by rw [granted]
  have srs : t.srs = j.srs := by rw [granted]
  refine granted.trans ?_
  rw [ind, rpm, srs, frame]
  cases p <;> rfl

/-- Settles O36: the passthrough by its reply, and the contract block by the record's change. -/
theorem busOutcomesReachTheirRequester : Obligations.BusOutcomesReachTheirRequester := by
  intro x line s hx hr
  refine ⟨?passthrough, ?port⟩
  case passthrough =>
    intro q type hp hq hg hl hf ht hd ended
    have answers (result : Option (List Byte)) :
        finish s (endTransaction x result (lineLevel line s)) = .next (ended (passthroughReply q result)) :=
      finish_passthrough result hp hq hl hf ht hd
    refine ⟨fun command count data op same length => ?reads, fun command data op same => ?writes, fun second => ?fails⟩
    case reads =>
      refine (exec_acked hx hr (by simp [op, fits, length])).trans ((answers _).trans ?_)
      simp [passthroughReply, hg, same, op, opCommand, opData, length, doneStatus, stAdjusted, stOk]
    case writes =>
      refine (exec_acked hx hr (by simp [op, fits])).trans ((answers _).trans ?_)
      simp [passthroughReply, hg, same, op, opCommand, opData, doneStatus, stAdjusted, stOk]
    case fails =>
      refine (exec_notAcked_second hx hr second).trans ((answers _).trans ?_)
      simp [passthroughReply, hg, stBusFailed]
  case port =>
    intro p turn block hp ha hd op ht length r mV mA good kept new
    have record : portRecord block r = new := portRecord_eq block r
    have ends := (exec_acked (data := block) (line := line) hx hr (by simp [op, fits, length])).trans
      (congrArg (finish s) (endTransaction_port hp ha hd ht))
    have taken := updateSource_takenAs p.source (portRecord block r) (blockRead line p block s)
    refine ⟨_, ends, record ▸ blockRead_taken (taken.carries (carries_conclude (.refl _))), fun hu hn => ?_⟩
    rw [← record]
    exact conclude_port_unsettled hu hn rfl

end Sys2Proof.Proofs
end

section
/-! The bring-up of power-on reset (Resets.lean): what its first judgements leave of the blocks' first values.
`FirstView` holds the values that no judgement touches; each lemma `started_<operation>` carries them, with the charge
channels off and the bus not yet given out, across one operation of the bring-up. -/

namespace Sys2Proof.Machine

open Sys2Proof.Safety

/-- A fan record less what its evaluation makes: the settings, the override and the health. -/
def fanSettings (f : FanRecord) : FanRecord :=
  { f with
    controlTemp := 0, curveValue := 0, duty := 0, applied := 0, spinLeft := 0, rpm := 0, windowSpin := false
    windowDriven := false }

/-- The values of the blocks that no judgement of the bring-up touches. -/
structure FirstView where
  inputs : Inputs
  srs : Selector
  rsoc : Nat
  snapshot : Option Snapshot
  packState : PackId → PackState
  policy : ChargePolicy
  stages : PackId → List Stage
  thermal : ThermalSettings × Vector DerateEntry 4
  supplied : SensorRecord × SensorRecord
  evalLeft : Nat
  fan : FanId → FanRecord
  kbs : Scanner
  krp : Reporter
  /-- LWU, its table reduced to the enables. -/
  lwu : WakeUnit
  /-- Status and pending of the sources but THERMAL. -/
  wake : WakeSource → Bool × Bool
  psq : Sequencer
  mode : ContainmentMode
  masked : FaultKind → Bool
  blink : Nat
  power : Option Show × Bool
  charge : Option Show × Bool
  lkp : LinkPort
  memory : Area × Area × List StoredKey × Nat × Nat

/-- A wake-table entry's enables. -/
def wakeEnables (e : WakeEntry) : WakeEntry := { e with status := false, pending := false }

def firstView (s : State) : FirstView where
  inputs := s.inputs
  srs := s.srs
  rsoc := s.pks.rsoc
  snapshot := s.pks.snapshot
  packState p := (s.pks.record.get p).state
  policy := s.chc.policy
  stages p := (s.chc.context.get p).stages
  thermal := (s.thu.settings, s.thu.table)
  supplied := (s.thu.sensors[4], s.thu.sensors[5])
  evalLeft := s.fnc.evalLeft
  fan i := fanSettings (s.fnc.fan.get i)
  kbs := s.kbs
  krp := s.krp
  lwu := { s.lwu with table := s.lwu.table.map wakeEnables }
  wake i := if i = .thermal then (false, false) else ((s.lwu.get i).status, (s.lwu.get i).pending)
  psq := s.psq
  mode := s.flt.mode
  masked k := (s.flt.get k).masked
  blink := s.ind.blink
  power := (s.ind.power.override, s.ind.power.invert)
  charge := (s.ind.charge.override, s.ind.charge.invert)
  lkp := s.lkp
  memory := memoryFrame s.rpm

/-- No channel has a target, and the budget has no input power. -/
def ChargeOff (s : State) : Prop := s.chc.budget.pInMax = 0 ∧ ∀ p, (s.chc.context.get p).targetCurrent = 0

/-- The bring-up is under way from these first values: the charge channels are off and the bus is still to be given
out. -/
structure Started (v : FirstView) (s : State) : Prop where
  view : firstView s = v
  off : ChargeOff s
  bus : s.pbc = firstBus

variable {v : FirstView} {s t : State}

/-- An operation that touches neither the view nor CHC nor PBC. -/
theorem Started.kept (h : Started v s) (view : firstView t = firstView s) (chc : t.chc = s.chc) (pbc : t.pbc = s.pbc) :
    Started v t where
  view := view.trans h.view
  off := by simpa only [ChargeOff, chc] using h.off
  bus := pbc.trans h.bus

theorem started_ite {c : Prop} [Decidable c] (h : Started v s) (g : Started v t) : Started v (if c then s else t) := by
  split
  · exact h
  · exact g

/-! ## Reports and LEDs -/

/-- Notices, detections and the charge LED. -/
theorem KeepsBeside.started {ks : List FaultKind} (g : KeepsBeside ks s t) (h : Started v s) : Started v t := by
  obtain ⟨frame, memory, _, masked, override, invert⟩ := g
  have masks : (fun k => (t.flt.get k).masked) = fun k => (s.flt.get k).masked := funext masked
  refine h.kept ?_ (by rw [frame]) (by rw [frame])
  simp only [firstView, memory, masks, override, invert]
  rw [frame]

theorem started_raise {n : Notice} (h : Started v s) : Started v (raise n s) := (keepsBeside_raise n s).started h

theorem started_detectMild {k : FaultKind} {detail : Byte} (h : Started v s) : Started v (detectMild k detail s) :=
  (keepsBeside_detectMild k detail s).started h

theorem started_endFault {k : FaultKind} (h : Started v s) : Started v (endFault k s) :=
  (keepsBeside_endFault (ks := [k]) List.mem_cons_self s).started h

theorem started_refreshChargeLed (h : Started v s) : Started v (refreshChargeLed s) :=
  (keepsBeside_refreshChargeLed (ks := []) s).started h

theorem started_refreshPowerLed (h : Started v s) : Started v (refreshPowerLed s) := by
  obtain ⟨override, invert⟩ := showOn_settings { s.ind.power with derived := derivedPower s.psq.state }
    (s.ind.power.override.getD (derivedPower s.psq.state))
  refine h.kept ?_ rfl rfl
  simp only [firstView, refreshPowerLed, override, invert]

theorem started_judgeThrottle (h : Started v s) : Started v (judgeThrottle s) := h.kept rfl rfl rfl

/-! ## Charge: no channel without a source -/

theorem chargeStateOf_barred {r : PackRecord} {c : ChargeContext} {b : Bars} (h : b.noSource = true) :
    chargeStateOf r c b ≠ .charging := by
  have any : b.any = true := by simp [Bars.any, h]
  unfold chargeStateOf
  simp only [any, if_true]
  split_ifs <;> decide

theorem derivedContext_state_ne (h : s.srs.active = none) (p : PackId) : (derivedContext s p).state ≠ .charging :=
  chargeStateOf_barred (by simp [barsOf, h])

theorem computeBudget_idle {p : PackId} (h : (s.chc.context.get p).state ≠ .charging) :
    ((computeBudget s).packs.get p).targetCurrent = 0 := by
  have idle : packEligible (s.chc.context.get p) = false := by simp [packEligible, h]
  cases p <;> simp only [PerPack.get] at idle <;> simp [computeBudget, PerPack.get, packBudget, idle]

/-- A recompute with no source, from contexts that do not charge, leaves both channels off (R14, R57). -/
theorem chargeOff_recompute (active : s.srs.active = none) (idle : ∀ p, (s.chc.context.get p).state ≠ .charging) :
    ChargeOff (recompute s) := by
  refine ⟨?_, fun p => ?_⟩
  · exact (budgetCurrent_recompute s).1.trans (by simp [pInMax, recompute, active])
  · have off := computeBudget_idle (idle p)
    cases p <;> exact off

/-- The contexts' stages are all of CHC's contexts that the view has. -/
theorem firstView_contexts {c : PerPack ChargeContext} (hc : ∀ p, (c.get p).stages = (s.chc.context.get p).stages) :
    firstView { s with chc.context := c } = firstView s := by
  have stages : (fun p => (c.get p).stages) = fun p => (s.chc.context.get p).stages := funext hc
  simp only [firstView, stages]

theorem firstView_recompute (s : State) : firstView (recompute s) = firstView s := by
  have view : firstView { s with chc.context := (recompute s).chc.context } = firstView s :=
    firstView_contexts fun p => by cases p <;> rfl
  exact view

/-- Both contexts derived again: no state is CHARGING without a source (R41, R42). -/
theorem started_derive_recompute (active : v.srs.active = none) (h : Started v s) :
    Started v (recompute { s with chc.context := ⟨derivedContext s .a, derivedContext s .b⟩ }) := by
  have none : s.srs.active = none := (congrArg (·.srs.active) h.view).trans active
  refine ⟨?_, chargeOff_recompute none fun p => ?_, h.bus⟩
  · rw [firstView_recompute, firstView_contexts, h.view]
    intro p
    cases p <;> rfl
  · cases p with
    | a => exact derivedContext_state_ne none .a
    | b => exact derivedContext_state_ne none .b

theorem started_raiseAll {ns : List Notice} (h : Started v s) : Started v (raiseAll ns s) :=
  (keepsBeside_raiseAll ns s).started h

theorem started_chargeRefresh (active : v.srs.active = none) {ns : List Notice} (h : Started v s) :
    Started v (chargeRefresh true ns s) := by
  unfold chargeRefresh
  have hastened : ∀ t, Started v t → Started v (hastenPolls t) := fun _ g => g.kept rfl rfl rfl
  exact started_raiseAll (started_refreshChargeLed (hastened _ (started_derive_recompute active h)))

/-! ## Fans -/

theorem fanSettings_applyDuty (d : Nat) (f : FanRecord) : fanSettings (applyDuty d f) = fanSettings f := by
  unfold applyDuty
  split_ifs <;> rfl

/-- A fan's record is replaced by one of the same settings. -/
theorem started_withFan {i : FanId} {f : FanRecord} (hf : fanSettings f = fanSettings (s.fnc.fan.get i))
    (h : Started v s) : Started v { s with fnc.fan := s.fnc.fan.set i f } := by
  have fans : (fun j => fanSettings ((s.fnc.fan.set i f).get j)) = fun j => fanSettings (s.fnc.fan.get j) := by
    funext j
    by_cases e : j = i
    · subst e
      simpa using hf
    · rw [PerFan.get_set_ne _ _ e]
  refine h.kept ?_ rfl rfl
  simp only [firstView, fans]

theorem started_remakeFan {i : FanId} (h : Started v s) : Started v (remakeFan i s) := by
  unfold remakeFan
  exact started_ite (started_withFan (fanSettings_applyDuty _ _) h) h

theorem started_bringFan {i : FanId} (h : Started v s) : Started v (bringFan i s) := by
  unfold bringFan
  exact started_ite (started_remakeFan (started_withFan rfl h)) h

/-! ## Containment, with the platform in OFF -/

theorem started_setLevel (active : v.srs.active = none) {l : ContainmentLevel} (h : Started v s) :
    Started v (setLevel l s) := by
  unfold setLevel
  have raised : Started v { s with flt.level := l } := h.kept rfl rfl rfl
  exact started_ite h (started_judgeThrottle
    (started_remakeFan (started_remakeFan (started_chargeRefresh active raised))))

theorem started_contain (active : v.srs.active = none) (off : v.psq.state = .off) {k : FaultKind} (h : Started v s) :
    Started v (contain k s) := by
  have raised : Started v (raiseLevel s) := by
    unfold raiseLevel
    exact started_ite (started_setLevel active h) h
  have state : s.psq.state = .off := (congrArg (·.psq.state) h.view).trans off
  unfold contain
  split
  · exact h
  · exact raised
  · exact started_setLevel active h
  · rw [forcedStop_off _ _ state]
    exact raised

/-- A record is replaced under the same mask. -/
theorem started_withFault {k : FaultKind} {r : FaultRecord} (hr : r.masked = (s.flt.get k).masked) (h : Started v s) :
    Started v { s with flt := s.flt.set k r } :=
  (keepsBeside_set (ks := [k]) List.mem_cons_self hr).started h

theorem started_detect (active : v.srs.active = none) (off : v.psq.state = .off) {k : FaultKind} {detail : Byte}
    (h : Started v s) : Started v (detect k detail s) := by
  unfold detect detectWith
  have recorded : Started v { s with flt := s.flt.set k (recordedFault k detail s.uptime (s.flt.get k)) } :=
    started_withFault rfl h
  have contained := started_contain active off (k := k) recorded
  have shown := started_refreshChargeLed contained
  exact started_ite (started_ite contained (started_ite shown (started_raise shown))) (started_detectMild h)

end Sys2Proof.Machine
end

section
/-! The bring-up's own steps (Resets.lean), under the view of the first values. -/

namespace Sys2Proof.Machine

open Sys2Proof.Safety

variable {v : FirstView} {s t : State}

/-! ## Sensors (R69, R73) -/

/-- A board sensor is no supplied one. -/
theorem started_setSensor {i : Fin 8} (hi : i.val < 4) {r : SensorRecord} (h : Started v s) :
    Started v (setSensor i r s) := by
  have sup0 : (s.thu.sensors.set i r)[4] = s.thu.sensors[4] := Vector.getElem_set_ne _ _ (by omega)
  have sup1 : (s.thu.sensors.set i r)[5] = s.thu.sensors[5] := Vector.getElem_set_ne _ _ (by omega)
  refine h.kept ?_ rfl rfl
  simp only [firstView, setSensor, sup0, sup1]

theorem started_convertSensor {i : Fin 8} (hi : i.val < 4) {t : Int} (h : Started v s) :
    Started v (convertSensor i t s) := by
  unfold convertSensor
  exact started_ite (started_detectMild (started_setSensor hi h)) (started_setSensor hi h)

theorem started_convertBoard {cpu charger skin ambient : Int} (h : Started v s) :
    Started v (convertBoard cpu charger skin ambient s) := by
  unfold convertBoard
  have converted := started_convertSensor (i := 3) (t := ambient) (by decide)
    (started_convertSensor (i := 2) (t := skin) (by decide) (started_convertSensor (i := 1) (t := charger) (by decide)
      (started_convertSensor (i := 0) (t := cpu) (by decide) h)))
  exact started_ite converted (started_endFault converted)

theorem started_bringThermal (h : Started v s) : Started v (bringThermal s) := by
  unfold bringThermal
  exact (started_convertBoard h).kept rfl rfl rfl

theorem started_judgeTrip (active : v.srs.active = none) (off : v.psq.state = .off) (h : Started v s) :
    Started v (judgeTrip s) := by
  unfold judgeTrip judgeTripEnd
  have tripped : Started v { s with thu.trip := true } := h.kept rfl rfl rfl
  have ended : Started v { s with thu.trip := false } := h.kept rfl rfl rfl
  exact started_ite (started_raise (started_detect active off tripped)) (started_ite (started_endFault ended) h)

/-! ## The thermal wake source (R134, R138) -/

theorem firstView_wakeEntry (s : State) (i : WakeSource) : (firstView s).lwu.get i = wakeEnables (s.lwu.get i) := by
  simp [firstView, WakeUnit.get]

/-- A mark leaves every entry's enables. -/
theorem enables_markSource (i : WakeSource) (s : State) :
    (markSource i s).lwu.table.map wakeEnables = s.lwu.table.map wakeEnables := by
  ext j hj : 1
  simp only [markSource, WakeUnit.set, WakeUnit.get, Vector.getElem_map, Vector.getElem_set]
  split
  · rename_i same
    subst same
    rfl
  · rfl

/-- THERMAL is the one source that the bring-up can set. -/
theorem started_markThermal (h : Started v s) : Started v (markSource .thermal s) := by
  refine h.kept ?_ rfl rfl
  have others : (fun i => if i = .thermal then (false, false)
        else (((markSource .thermal s).lwu.get i).status, ((markSource .thermal s).lwu.get i).pending)) =
      fun i => if i = .thermal then (false, false) else ((s.lwu.get i).status, (s.lwu.get i).pending) := by
    funext i
    by_cases e : i = .thermal
    · rw [if_pos e, if_pos e]
    · rw [if_neg e, if_neg e]
      simp only [markSource, WakeUnit.get_set_ne _ _ e]
  simp only [firstView, enables_markSource, others]
  rfl

/-- In OFF a source that is not enabled there is set and offered to no one (R134, R138). -/
theorem settingEvent_disabled {i : WakeSource} (off : s.psq.state = .off) (disabled : (s.lwu.get i).offEnable = false) :
    settingEvent i s = markSource i s := by
  have undue : sourceDue (markSource i s) i = false := by
    simp [sourceDue, markSource, off, enabledIn, disabled]
  simp [settingEvent, undue]

/-- In OFF, with THERMAL not enabled, the wake condition is stored and its beginning marked. -/
theorem judgeWakeCondition_disabled (off : s.psq.state = .off) (disabled : (s.lwu.get .thermal).offEnable = false) :
    judgeWakeCondition s =
      if wakeHolds s.thu = s.thu.wakeCondition then s
      else if wakeHolds s.thu then markSource .thermal { s with thu.wakeCondition := wakeHolds s.thu }
      else { s with thu.wakeCondition := wakeHolds s.thu } := by
  have stored :=
    settingEvent_disabled (i := .thermal) (s := { s with thu.wakeCondition := wakeHolds s.thu }) off disabled
  unfold judgeWakeCondition
  dsimp only
  rw [stored]

theorem started_judgeWakeCondition (off : v.psq.state = .off) (disabled : (v.lwu.get .thermal).offEnable = false)
    (h : Started v s) : Started v (judgeWakeCondition s) := by
  have state : s.psq.state = .off := (congrArg (·.psq.state) h.view).trans off
  have enable : (s.lwu.get .thermal).offEnable = false := by
    rwa [← h.view, firstView_wakeEntry] at disabled
  have held : ∀ b, Started v { s with thu.wakeCondition := b } := fun _ => h.kept rfl rfl rfl
  rw [judgeWakeCondition_disabled state enable]
  exact started_ite h (started_ite (started_markThermal (held _)) (held _))

/-! ## The other steps -/

theorem started_setSwitches (h : Started v s) : Started v (setSwitches s) := by
  have state : ∀ (on held : Bool) (r : PackRecord), (withSwitch on held r).state = r.state := by
    intro on held r
    unfold withSwitch
    split <;> rfl
  refine h.kept ?_ rfl rfl
  have states : (fun p => ((setSwitches s).pks.record.get p).state) = fun p => (s.pks.record.get p).state := by
    funext p
    cases p <;> exact state _ _ _
  simp only [firstView, states]
  rfl

theorem started_bringPackFaults (h : Started v s) : Started v (bringPackFaults s) := by
  unfold bringPackFaults
  exact started_ite h (started_endFault (started_endFault (started_endFault h)))

theorem started_bringEnds (h : Started v s) : Started v (bringEnds s) := started_endFault (started_endFault h)

theorem started_bringPosture (h : Started v s) : Started v (bringPosture s) := by
  unfold bringPosture
  exact started_ite (started_detectMild h) (started_endFault h)

theorem started_bringCharge (active : v.srs.active = none) (h : Started v s) : Started v (bringCharge s) := by
  unfold bringCharge
  have handed : Started v { s with chc.handed := s.pks.record } := ⟨h.view, h.off, h.bus⟩
  exact started_derive_recompute active handed

theorem started_bringConditions (active : v.srs.active = none) (off : v.psq.state = .off)
    (disabled : (v.lwu.get .thermal).offEnable = false) (h : Started v s) : Started v (bringConditions s) := by
  unfold bringConditions
  have ended : Started v (if tripHolds s.thu then s else endFault .thermalTrip s) := started_ite h (started_endFault h)
  exact started_judgeWakeCondition off disabled (started_judgeTrip active off (started_endFault ended))

/-! ## The sources (R18, R4) -/

/-- The selector after the read of an attached barrel, which is neither settled nor in use. -/
def readSelector (straps : Straps) (i : Inputs) : Selector :=
  let x := firstSelector straps false
  if straps.barrelFitted && i.barrelDetect then x.set .barrel (barrelRecord i.adapter x.barrel) else x

theorem started_judgeInvalid {i : SourceId} {old new : SourceRecord} (h : Started v s) :
    Started v (judgeInvalid i old new s) := by
  unfold judgeInvalid
  exact started_ite (started_detectMild h) (started_ite h (started_endFault h))

theorem barrelRecord_settled {reading : AdapterReading} {r : SourceRecord} (h : r.settled = false) :
    (barrelRecord reading r).settled = false := by
  rw [barrelRecord_eq]
  simp [h]

/-- The barrel's first record makes no selection: SRS stores it and judges SOURCE_INVALID. -/
theorem bringBarrel_eq {straps : Straps} (h : s.srs = firstSelector straps false) :
    bringBarrel s =
      if straps.barrelFitted && s.inputs.barrelDetect then
        judgeInvalid .barrel s.srs.barrel (barrelRecord s.inputs.adapter s.srs.barrel)
          (setSource .barrel (barrelRecord s.inputs.adapter s.srs.barrel) s)
      else s := by
  have unsettled : s.srs.barrel.settled = false := by rw [h]; rfl
  have idle : s.srs.active ≠ some .barrel := by rw [h]; exact nofun
  have fitted : s.srs.barrel.populated = straps.barrelFitted := by rw [h]; rfl
  unfold bringBarrel
  rw [fitted, updateSource_unsettled (i := .barrel) unsettled (barrelRecord_settled unsettled) idle]
  rfl

theorem started_bringBarrel {straps : Straps} (first : v.srs = firstSelector straps false) (h : Started v s) :
    Started { v with srs := readSelector straps v.inputs } (bringBarrel s) := by
  have srs : s.srs = firstSelector straps false := (congrArg (·.srs) h.view).trans first
  have inputs : s.inputs = v.inputs := congrArg (·.inputs) h.view
  rw [bringBarrel_eq srs, readSelector, ← inputs]
  split
  · refine started_judgeInvalid ⟨?_, h.off, h.bus⟩
    rw [← h.view, ← srs]
    rfl
  · refine ⟨?_, h.off, h.bus⟩
    rw [← h.view, ← srs]
    rfl

/-! ## The whole bring-up -/

/-- The state before the bring-up, KBS's initial pass made. -/
theorem started_bringKeyboard (straps : Straps) (i : Inputs) (pending : List Instr) :
    Started (firstView (bringKeyboard (powerOnBase straps i pending)))
      (bringKeyboard (powerOnBase straps i pending)) where
  view := rfl
  off := ⟨rfl, fun p => by cases p <;> rfl⟩
  bus := rfl

/-- The values that stand after the bring-up of a power-on reset. -/
def broughtView (straps : Straps) (i : Inputs) (pending : List Instr) : FirstView :=
  { firstView (bringKeyboard (powerOnBase straps i pending)) with srs := readSelector straps i }

theorem readSelector_active (straps : Straps) (i : Inputs) : (readSelector straps i).active = none := by
  unfold readSelector
  dsimp only
  split <;> rfl

theorem broughtView_wakeEntry (straps : Straps) (i : Inputs) (pending : List Instr) (w : WakeSource) :
    (broughtView straps i pending).lwu.get w = wakeEnables ((firstWake i defaultWakeTable 0 0).get w) :=
  firstView_wakeEntry (bringKeyboard (powerOnBase straps i pending)) w

theorem broughtView_disabled (straps : Straps) (i : Inputs) (pending : List Instr) :
    ((broughtView straps i pending).lwu.get .thermal).offEnable = false := by
  rw [broughtView_wakeEntry]
  rfl

theorem started_bringUp (straps : Straps) (i : Inputs) (pending : List Instr) :
    Started (broughtView straps i pending) (bringUp (powerOnBase straps i pending)) := by
  have active : (broughtView straps i pending).srs.active = none := readSelector_active straps i
  have barrel : Started (broughtView straps i pending) (bringBarrel (bringPosture (bringKeyboard _))) :=
    started_bringBarrel rfl (started_bringPosture (started_bringKeyboard straps i pending))
  have charge := started_bringCharge active
    (started_bringThermal (started_bringEnds (started_bringPackFaults (started_setSwitches barrel))))
  have fans := started_bringFan (i := .fan1) (started_bringFan (i := .fan0) charge)
  exact started_bringConditions active rfl (broughtView_disabled straps i pending)
    (started_refreshChargeLed (started_refreshPowerLed (started_judgeThrottle fans)))

end Sys2Proof.Machine
end

section
/-! The bring-up of power-on reset with four good board readings below the trip: no detection but of the posture and
of a source, and room in the NOTICE queue for both (R69, R73, R164, R195). -/

namespace Sys2Proof.Machine

open Sys2Proof.Safety

variable {s t : State} {n : Nat}

/-! ## Notices while there is room (R195) -/

/-- At most `n` notices are queued, none with a word in error, in an area for 32. -/
structure Roomy (n : Nat) (r : ReportMemory) : Prop where
  good : ∀ e ∈ r.notices, e.w0 = .good ∧ e.w1 = .good
  room : r.notices.length ≤ n
  capacity : noticeCapacity r = 32

theorem updateFirst_good {p : StoredNotice → Bool} {f : StoredNotice → StoredNotice}
    (hf : ∀ e, (f e).w0 = .good ∧ (f e).w1 = .good) (es : List StoredNotice)
    (h : ∀ e ∈ es, e.w0 = .good ∧ e.w1 = .good) : ∀ e ∈ updateFirst p f es, e.w0 = .good ∧ e.w1 = .good := by
  induction es with
  | nil => exact h
  | cons x xs ih =>
    obtain ⟨first, rest⟩ := List.forall_mem_cons.mp h
    unfold updateFirst
    split
    · exact List.forall_mem_cons.mpr ⟨hf x, rest⟩
    · exact List.forall_mem_cons.mpr ⟨first, ih rest⟩

theorem updateFirst_length (p : StoredNotice → Bool) (f : StoredNotice → StoredNotice) (es : List StoredNotice) :
    (updateFirst p f es).length = es.length := by
  induction es with
  | nil => rfl
  | cons x xs ih =>
    unfold updateFirst
    split
    · rfl
    · exact congrArg (· + 1) ih

/-- A notice is taken or merged, and RPM has nothing to report. -/
theorem Roomy.placeNotice {r : ReportMemory} (h : Roomy n r) (hn : n < 32) (m : Notice) (now : Stamp) :
    Roomy (n + 1) (placeNotice m now r).1 ∧ (placeNotice m now r).2 = [] := by
  obtain ⟨good, room, capacity⟩ := h
  unfold Machine.placeNotice
  split
  · unfold placeFresh
    rw [if_pos (by omega)]
    refine ⟨⟨List.forall_mem_append.mpr ⟨good, by simp [freshEntry]⟩, ?_, capacity⟩, rfl⟩
    rw [List.length_append, List.length_singleton]
    omega
  · rename_i e found
    obtain ⟨w0, w1⟩ := good e (List.mem_of_find?_eq_some found)
    simp only [w0, w1, checkWords, correctWords, Bool.false_eq_true, if_false]
    refine ⟨⟨updateFirst_good (fun _ => ⟨rfl, rfl⟩) _ good, ?_, capacity⟩, trivial⟩
    rw [updateFirst_length]
    omega

/-! ## Nothing detected -/

/-- No fault but POSTURE_INPUT and SOURCE_INVALID has been detected, no sensor is at the trip, and at most `n` notices
stand. -/
structure Calm (n : Nat) (s : State) : Prop where
  level : s.flt.level = .none
  throttle : s.flt.throttle = false
  clear : ∀ k, k ≠ .postureInput → k ≠ .sourceInvalid →
    (s.flt.get k).status = false ∧ (s.flt.get k).active = false ∧ (s.flt.get k).count = 0
  memory : Roomy n s.rpm
  overload : s.srs.overload = false
  cool : ∀ i : Fin 8, s.thu.sensors[i].value < 1000
  limit : s.thu.settings.trip = 1000
  trip : s.thu.trip = false

theorem Calm.kept (h : Calm n s) (flt : t.flt = s.flt) (rpm : t.rpm = s.rpm) (srs : t.srs.overload = s.srs.overload)
    (thu : t.thu = s.thu) : Calm n t where
  level := by simpa only [flt] using h.level
  throttle := by simpa only [flt] using h.throttle
  clear := by simpa only [flt] using h.clear
  memory := by simpa only [rpm] using h.memory
  overload := srs.trans h.overload
  cool := by simpa only [thu] using h.cool
  limit := by simpa only [thu] using h.limit
  trip := by simpa only [thu] using h.trip

theorem calm_ite {c : Prop} [Decidable c] (h : Calm n s) (g : Calm n t) : Calm n (if c then s else t) := by
  split
  · exact h
  · exact g

theorem Calm.more (h : Calm n s) : Calm (n + 1) s :=
  { h with memory := { h.memory with room := h.memory.room.trans (Nat.le_succ n) } }

theorem calm_raise (hn : n < 32) (m : Notice) (h : Calm n s) : Calm (n + 1) (raise m s) := by
  obtain ⟨roomy, none⟩ := h.memory.placeNotice hn m s.uptime
  have placed : raise m s = { s with rpm := judgeAttn (placeNotice m s.uptime s.rpm).1 } := by
    unfold raise offerDepth
    dsimp only
    rw [none]
    rfl
  rw [placed]
  exact { h with memory := ⟨roomy.good, roomy.room, roomy.capacity⟩ }

/-- A record is replaced by one that is as clear, or is one of the two kinds. -/
theorem calm_withFault {k : FaultKind} {r : FaultRecord} (h : Calm n s)
    (hr : k ≠ .postureInput → k ≠ .sourceInvalid → r.status = false ∧ r.active = false ∧ r.count = 0) :
    Calm n { s with flt := s.flt.set k r } := by
  refine { h with clear := fun j posture source => ?_ }
  by_cases e : j = k
  · subst e
    simpa using hr posture source
  · simpa only [FaultUnit.get_set_ne _ _ e] using h.clear j posture source

theorem calm_endFault (k : FaultKind) (h : Calm n s) : Calm n (endFault k s) :=
  calm_withFault h fun posture source =>
    have ⟨status, _, count⟩ := h.clear k posture source
    ⟨status, rfl, count⟩

theorem calm_refreshChargeLed (h : Calm n s) : Calm n (refreshChargeLed s) := h.kept rfl rfl rfl rfl

theorem calm_refreshPowerLed (h : Calm n s) : Calm n (refreshPowerLed s) := h.kept rfl rfl rfl rfl

theorem calm_detectMild {k : FaultKind} (hk : k = .postureInput ∨ k = .sourceInvalid) (hn : n < 32) (detail : Byte)
    (h : Calm n s) : Calm (n + 1) (detectMild k detail s) := by
  unfold detectMild
  rw [detectWith_id]
  have recorded : Calm n { s with flt := s.flt.set k (recordedFault k detail s.uptime (s.flt.get k)) } :=
    calm_withFault h fun posture source => (hk.elim posture source).elim
  have shown := calm_refreshChargeLed recorded
  exact calm_ite recorded.more (calm_ite shown.more (calm_raise hn _ shown))

/-! ## The steps of the bring-up -/

theorem throttleWanted_calm (h : Calm n s) : throttleWanted s = false := by
  simp [throttleWanted, h.level, h.overload]

theorem calm_judgeThrottle (h : Calm n s) : Calm n (judgeThrottle s) :=
  { h with throttle := throttleWanted_calm h }

theorem calm_setSwitches (h : Calm n s) : Calm n (setSwitches s) := calm_judgeThrottle (h.kept rfl rfl rfl rfl)

theorem calm_bringPosture (hn : n < 32) (h : Calm n s) : Calm (n + 1) (bringPosture s) := by
  unfold bringPosture
  exact calm_ite (calm_detectMild (.inl rfl) hn _ h) (calm_endFault _ h).more

theorem calm_judgeInvalid {i : SourceId} {old new : SourceRecord} (hn : n < 32) (h : Calm n s) :
    Calm (n + 1) (judgeInvalid i old new s) := by
  unfold judgeInvalid
  exact calm_ite (calm_detectMild (.inr rfl) hn _ h) (calm_ite h.more (calm_endFault _ h).more)

theorem calm_bringBarrel {straps : Straps} (hn : n < 32) (first : s.srs = firstSelector straps false) (h : Calm n s) :
    Calm (n + 1) (bringBarrel s) := by
  rw [bringBarrel_eq first]
  exact calm_ite (calm_judgeInvalid hn (h.kept rfl rfl rfl rfl)) h.more

theorem calm_bringPackFaults (h : Calm n s) : Calm n (bringPackFaults s) := by
  unfold bringPackFaults
  exact calm_ite h (calm_endFault _ (calm_endFault _ (calm_endFault _ h)))

theorem calm_bringEnds (h : Calm n s) : Calm n (bringEnds s) := calm_endFault _ (calm_endFault _ h)

theorem calm_setSensor {i : Fin 8} {r : SensorRecord} (hr : r.value < 1000) (h : Calm n s) :
    Calm n (setSensor i r s) := by
  refine { h with cool := fun j => ?_ }
  simp only [setSensor, Fin.getElem_fin, Vector.getElem_set]
  split
  · exact hr
  · exact h.cool j

/-- A good reading below the trip is stored and reports nothing. -/
theorem calm_convertSensor {i : Fin 8} {b : Int} (hb : -300 ≤ b ∧ b < 1000) (h : Calm n s) :
    Calm n (convertSensor i b s) := by
  have good : goodReading b = true := by
    simp only [goodReading, Bool.and_eq_true, decide_eq_true_eq]
    omega
  unfold convertSensor
  simp only [good, Bool.not_true, Bool.false_and, Bool.false_eq_true, if_false]
  refine calm_setSensor ?_ h
  simpa only [boardRecord, good, if_true] using hb.2

/-- The four board readings of the reset are good, and below the default trip temperature. -/
def BoardsGood (i : Inputs) : Prop := ∀ b ∈ [i.board0, i.board1, i.board2, i.board3], -300 ≤ b ∧ b < 1000

theorem calm_bringThermal {i : Inputs} (inputs : s.inputs = i) (hb : BoardsGood i) (h : Calm n s) :
    Calm n (bringThermal s) := by
  subst inputs
  simp only [BoardsGood, List.forall_mem_cons] at hb
  obtain ⟨b0, b1, b2, b3, _⟩ := hb
  have converted := calm_convertSensor (i := 3) b3
    (calm_convertSensor (i := 2) b2 (calm_convertSensor (i := 1) b1 (calm_convertSensor (i := 0) b0 h)))
  have board : Calm n (convertBoard s.inputs.board0 s.inputs.board1 s.inputs.board2 s.inputs.board3 s) := by
    unfold convertBoard
    exact calm_ite converted (calm_endFault _ converted)
  exact { board with }

theorem calm_bringCharge (h : Calm n s) : Calm n (bringCharge s) := h.kept rfl rfl rfl rfl

theorem calm_bringFan (i : FanId) (h : Calm n s) : Calm n (bringFan i s) := by
  unfold bringFan remakeFan
  dsimp only
  exact calm_ite (calm_ite (h.kept rfl rfl rfl rfl) (h.kept rfl rfl rfl rfl)) h

theorem tripHolds_calm (h : Calm n s) : tripHolds s.thu = false := by
  refine List.any_eq_false.mpr fun i _ => ?_
  have cool := h.cool i
  simp only [atTrip, h.limit, Bool.and_eq_true, decide_eq_true_eq]
  omega

theorem judgeTrip_calm (h : Calm n s) : judgeTrip s = s := by
  simp [judgeTrip, judgeTripEnd, tripHolds_calm h, h.trip]

theorem calm_judgeWakeCondition (off : s.psq.state = .off) (disabled : (s.lwu.get .thermal).offEnable = false)
    (h : Calm n s) : Calm n (judgeWakeCondition s) := by
  have held : ∀ b, Calm n { s with thu.wakeCondition := b } := fun _ => { h with }
  rw [judgeWakeCondition_disabled off disabled]
  exact calm_ite h (calm_ite ((held _).kept rfl rfl rfl rfl) (held _))

theorem calm_bringConditions (off : s.psq.state = .off) (disabled : (s.lwu.get .thermal).offEnable = false)
    (h : Calm n s) : Calm n (bringConditions s) := by
  have ended : Calm n (endFault .supplyStale (endFault .thermalTrip s)) := calm_endFault _ (calm_endFault _ h)
  unfold bringConditions
  simp only [tripHolds_calm h, Bool.false_eq_true, if_false, judgeTrip_calm ended]
  exact calm_judgeWakeCondition off disabled ended

/-! ## The whole bring-up -/

theorem firstFaults_clear (k : FaultKind) :
    (firstFaults.get k).status = false ∧ (firstFaults.get k).active = false ∧ (firstFaults.get k).count = 0 := by
  cases k <;> exact ⟨rfl, rfl, rfl⟩

theorem roomy_freshMemory : Roomy 0 freshMemory := ⟨fun _ h => absurd h List.not_mem_nil, Nat.le_refl 0, rfl⟩

theorem firstThermal_cool (j : Fin 8) : firstThermal.sensors[j].value < 1000 := by
  simp [firstThermal, emptySensor]

theorem calm_bringKeyboard (straps : Straps) (i : Inputs) (pending : List Instr) :
    Calm 0 (bringKeyboard (powerOnBase straps i pending)) where
  level := rfl
  throttle := rfl
  clear k _ _ := firstFaults_clear k
  memory := roomy_freshMemory
  overload := rfl
  cool := firstThermal_cool
  limit := rfl
  trip := rfl

theorem calm_bringUp {straps : Straps} {i : Inputs} (hb : BoardsGood i) (pending : List Instr) :
    Calm 2 (bringUp (powerOnBase straps i pending)) := by
  have active : (broughtView straps i pending).srs.active = none := readSelector_active straps i
  have posture := started_bringPosture (started_bringKeyboard straps i pending)
  have calmPosture := calm_bringPosture (by decide) (calm_bringKeyboard straps i pending)
  have ends := started_bringEnds (started_bringPackFaults (started_setSwitches
    (started_bringBarrel (straps := straps) rfl posture)))
  have calmEnds := calm_bringEnds (calm_bringPackFaults (calm_setSwitches
    (calm_bringBarrel (by decide) (congrArg (·.srs) posture.view) calmPosture)))
  have boards := calm_bringThermal (congrArg (·.inputs) ends.view) hb calmEnds
  have fans := started_bringFan (i := .fan1) (started_bringFan (i := .fan0)
    (started_bringCharge active (started_bringThermal ends)))
  have calmFans := calm_bringFan .fan1 (calm_bringFan .fan0 (calm_bringCharge boards))
  have shown := started_refreshChargeLed (started_refreshPowerLed (started_judgeThrottle fans))
  have calmShown := calm_refreshChargeLed (calm_refreshPowerLed (calm_judgeThrottle calmFans))
  have off := congrArg (·.psq.state) shown.view
  have disabled := congrArg (fun w => (w.lwu.get .thermal).offEnable) shown.view
  rw [firstView_wakeEntry] at disabled
  exact calm_bringConditions off (disabled.trans (broughtView_disabled straps i pending)) calmShown

/-! ## The grant of the first turn (R36, R21) -/

theorem firstView_onlyGrant (h : OnlyGrant s t) : firstView t = firstView s := by
  obtain ⟨frame, flt⟩ := h
  have masks : (fun k => (t.flt.get k).masked) = fun k => (s.flt.get k).masked := by
    funext k
    rcases flt with same | ended
    · rw [same]
    · rw [ended]
      exact (keepsBeside_endFault (ks := [.busStuck]) List.mem_cons_self s).masked k
  have mode : t.flt.mode = s.flt.mode := by
    rcases flt with same | ended
    · rw [same]
    · rw [ended]
      rfl
  simp only [firstView, masks, mode]
  rw [frame]

theorem calm_onlyGrant (h : OnlyGrant s t) (g : Calm n s) : Calm n t := by
  obtain ⟨frame, flt⟩ := h
  rcases flt with same | ended
  · exact g.kept same (by rw [frame]) (by rw [frame]) (by rw [frame])
  · exact (calm_endFault .busStuck g).kept ended (by rw [frame]; rfl) (by rw [frame]; rfl) (by rw [frame]; rfl)

/-- A turn's transaction runs, the slot is empty, and no recovery has failed. -/
def FirstTurn (s : State) : Prop :=
  s.pbc.slot = none ∧ s.pbc.recoveryFails = 0 ∧ s.pbc.running.isSome = true

theorem firstTurn_beginTurn {d : BusDevice} {w : TurnWork} {ops : List BusOp} (hs : s.pbc.slot = none)
    (hr : s.pbc.recoveryFails = 0) (ho : ops ≠ []) : FirstTurn (beginTurn d w ops s) := by
  cases ops with
  | nil => exact absurd rfl ho
  | cons op rest =>
    unfold beginTurn startTransaction startAttempt
    dsimp only
    split
    · exact ⟨hs, rfl, rfl⟩
    · exact ⟨hs, hr, rfl⟩

/-- A due pack's poller has a transaction to make. -/
theorem packOps_ne_nil {p : PackId} (h : packDue s p = true) :
    switchOps (s.pks.record.get p) ++ (turnReads (s.pks.schedule.get p)).2 ≠ [] := by
  simp only [packDue, Bool.and_eq_true, Bool.or_eq_true, Bool.not_eq_true'] at h
  obtain ⟨present, (written | identification) | poll⟩ := h
  · simp [switchOps, switchDue, present, written]
  · simp [turnReads, identification, identReads]
  · unfold turnReads
    split_ifs <;> simp [identReads, pollReads]

theorem firstTurn_busGrant (h : s.pbc = firstBus) : FirstTurn (busGrant s) := by
  have slot : s.pbc.slot = none := by rw [h]; rfl
  have fails : s.pbc.recoveryFails = 0 := by rw [h]; rfl
  have granted : busGrant s = grantPoller s := by simp [busGrant, grantTurn, h, firstBus]
  rw [granted]
  unfold grantPoller
  split
  · rename_i d found
    have due := List.find?_some found
    cases d with
    | packA => exact firstTurn_beginTurn slot fails (packOps_ne_nil due)
    | packB => exact firstTurn_beginTurn slot fails (packOps_ne_nil due)
    | port1 => exact firstTurn_beginTurn slot fails (List.cons_ne_nil _ _)
    | port2 => exact firstTurn_beginTurn slot fails (List.cons_ne_nil _ _)
  · rename_i idle
    rw [List.find?_eq_none] at idle
    exact absurd (by simp [pollerDue, h, firstBus]) (idle .port1 (by simp [h, firstBus, rotation]))

end Sys2Proof.Machine
end

section
/-! The first values after a power-on reset, block by block, and O3. -/

namespace Sys2Proof.Proofs

open Sys2Proof.Machine Sys2Proof.Safety

/-! ## The state after the reset -/

section
variable (straps : Straps) (i : Inputs) (pending : List Instr)

theorem firstView_powerOn : firstView (powerOn straps i pending) = broughtView straps i pending :=
  (firstView_onlyGrant (onlyGrant_busGrant _)).trans (started_bringUp straps i pending).view

theorem chargeOff_powerOn : ChargeOff (powerOn straps i pending) := by
  have frame := (onlyGrant_busGrant (bringUp (powerOnBase straps i pending))).1
  have chc : (powerOn straps i pending).chc = (bringUp (powerOnBase straps i pending)).chc := by
    unfold powerOn
    rw [frame]
  unfold ChargeOff
  rw [chc]
  exact (started_bringUp straps i pending).off

theorem firstTurn_powerOn : FirstTurn (powerOn straps i pending) :=
  firstTurn_busGrant (started_bringUp straps i pending).bus

end

theorem calm_powerOn {straps : Straps} {i : Inputs} (hb : BoardsGood i) (pending : List Instr) :
    Calm 2 (powerOn straps i pending) :=
  calm_onlyGrant (onlyGrant_busGrant _) (calm_bringUp hb pending)

/-- The statement's four good readings. -/
theorem boardsGood_of_all {i : Inputs}
    (h : ([i.board0, i.board1, i.board2, i.board3].all fun b => decide (-300 ≤ b) && decide (b < 1000)) = true) :
    BoardsGood i := by
  simpa [BoardsGood] using h

/-! ## The blocks' first values -/

variable {straps : Straps} {i : Inputs} {pending : List Instr} {t : State}

/-- The keyboard's samples without the columns that are not there (R91, R108). -/
theorem scannedSamples_getLsbD (s : State) (raw : Samples) (p : Position) :
    (scannedSamples s raw).getLsbD p.val = (raw.getLsbD p.val && (s.straps.columns18 || decide (p.val < 128))) := by
  unfold scannedSamples
  cases s.straps.columns18 with
  | true => simp
  | false =>
    have bit : (BitVec.ofNat 144 (2 ^ 128 - 1)).getLsbD p.val = decide (p.val < 128) := by
      rw [BitVec.getLsbD_ofNat, Nat.testBit_two_pow_sub_one, decide_eq_true p.isLt, Bool.true_and]
    rw [if_neg Bool.false_ne_true, BitVec.getLsbD_and, bit, Bool.false_or]

theorem initialKey_state (closed : Bool) : (initialKey closed).state = if closed then .latent else .up := by
  cases closed <;> rfl

/-- KBS after its initial pass. -/
theorem firstKeyboard (h : firstView t = broughtView straps i pending) :
    t.kbs.settings = ⟨none, 3, 4, 10, 2, 500, 33⟩ ∧ t.kbs.mode = .stopped ∧
      (∀ p : Position, t.kbs.map[p] = ⟨BitVec.ofNat 8 (p.val + 1), 0, false, false, true, true⟩) ∧
      ∀ p : Position, t.kbs.keys[p].state =
        if i.matrix.getLsbD p.val && (straps.columns18 || decide (p.val < 128)) then .latent else .up := by
  have kbs : t.kbs = (bringKeyboard (powerOnBase straps i pending)).kbs := congrArg (·.kbs) h
  rw [kbs]
  refine ⟨rfl, rfl, fun p => ?_, fun p => ?_⟩
  · exact Vector.getElem_ofFn p.isLt
  · have key : (bringKeyboard (powerOnBase straps i pending)).kbs.keys[p] =
        initialKey ((scannedSamples (powerOnBase straps i pending) i.matrix).getLsbD p.val) :=
      Vector.getElem_ofFn p.isLt
    rw [key, scannedSamples_getLsbD]
    exact initialKey_state _

/-- The settings of the fans (R76, R90). -/
theorem firstFan (h : firstView t = broughtView straps i pending) :
    t.fnc.evalLeft = 500 ∧ t.fnc.fan.fan0.populated = true ∧ t.fnc.fan.fan1.populated = straps.fans2 ∧
      t.fnc.fan.fan0.mask = 0x11 ∧ t.fnc.fan.fan1.mask = 0x25 ∧
      ∀ i, (t.fnc.fan.get i).curve = [⟨400, 250⟩, ⟨600, 500⟩, ⟨800, 1000⟩] ∧ (t.fnc.fan.get i).hysteresis = 30 ∧
        (t.fnc.fan.get i).mode = .auto ∧ (t.fnc.fan.get i).failed = false ∧ (t.fnc.fan.get i).stallRun = 0 ∧
        (t.fnc.fan.get i).recoveryRun = 0 := by
  have fan0 : fanSettings t.fnc.fan.fan0 = fanSettings (restingFan true 0x11) :=
    congrFun (congrArg (·.fan) h) .fan0
  have fan1 : fanSettings t.fnc.fan.fan1 = fanSettings (restingFan straps.fans2 0x25) :=
    congrFun (congrArg (·.fan) h) .fan1
  have resting : ∀ {f : FanRecord} {populated : Bool} {mask : Byte},
      fanSettings f = fanSettings (restingFan populated mask) → f.populated = populated ∧ f.mask = mask ∧
        f.curve = [⟨400, 250⟩, ⟨600, 500⟩, ⟨800, 1000⟩] ∧ f.hysteresis = 30 ∧ f.mode = .auto ∧ f.failed = false ∧
        f.stallRun = 0 ∧ f.recoveryRun = 0 := fun same =>
    ⟨congrArg (·.populated) same, congrArg (·.mask) same, congrArg (·.curve) same, congrArg (·.hysteresis) same,
      congrArg (·.mode) same, congrArg (·.failed) same, congrArg (·.stallRun) same, congrArg (·.recoveryRun) same⟩
  obtain ⟨populated0, mask0, rest0⟩ := resting fan0
  obtain ⟨populated1, mask1, rest1⟩ := resting fan1
  refine ⟨congrArg (·.evalLeft) h, populated0, populated1, mask0, mask1, fun i => ?_⟩
  cases i with
  | fan0 => exact rest0
  | fan1 => exact rest1

/-- LWU's filters and its wake table (R133, R144). -/
theorem firstWakeUnit (h : firstView t = broughtView straps i pending) :
    t.lwu.lidClosed = i.lidClosed ∧ t.lwu.hinge1 = i.hinge1 ∧ t.lwu.hinge2 = i.hinge2 ∧
      t.lwu.lidTimer = none ∧ t.lwu.hinge1Timer = none ∧ t.lwu.hinge2Timer = none ∧ t.lwu.wakeTimer = none ∧
      t.lwu.ext0 = ⟨false, false⟩ ∧ t.lwu.ext1 = ⟨false, false⟩ ∧ t.lwu.cause = 0 ∧ t.lwu.causeStamp = 0 ∧
      ∀ w, (t.lwu.get w).offEnable = decide (w = .powerButton) ∧
        (t.lwu.get w).standbyEnable = decide (w ∈ [.powerButton, .lidOpen, .keyboard, .lowEnergy, .packAlarm]) ∧
        (w ≠ .thermal → (t.lwu.get w).status = false ∧ (t.lwu.get w).pending = false) := by
  have lwu := congrArg (·.lwu) h
  refine ⟨congrArg (·.lidClosed) lwu, congrArg (·.hinge1) lwu, congrArg (·.hinge2) lwu, congrArg (·.lidTimer) lwu,
    congrArg (·.hinge1Timer) lwu, congrArg (·.hinge2Timer) lwu, congrArg (·.wakeTimer) lwu, congrArg (·.ext0) lwu,
    congrArg (·.ext1) lwu, congrArg (·.cause) lwu, congrArg (·.causeStamp) lwu, fun w => ?_⟩
  have enables : wakeEnables (t.lwu.get w) = wakeEnables ((firstWake i defaultWakeTable 0 0).get w) := by
    rw [← firstView_wakeEntry, h, broughtView_wakeEntry]
  have idle : ∀ w, wakeEnables ((firstWake i defaultWakeTable 0 0).get w) =
      ⟨false, false, decide (w ∈ [.powerButton, .lidOpen, .keyboard, .lowEnergy, .packAlarm]),
        decide (w = .powerButton)⟩ := by
    intro w
    cases w <;> rfl
  rw [idle] at enables
  refine ⟨congrArg (·.offEnable) enables, congrArg (·.standbyEnable) enables, fun other => ?_⟩
  have wake := congrFun (congrArg (·.wake) h) w
  simp only [broughtView, firstView, if_neg other, Prod.mk.injEq] at wake
  obtain ⟨status, held⟩ := wake
  refine ⟨status.trans ?_, held.trans ?_⟩ <;> cases w <;> rfl

/-- SRS, a barrel perhaps read (R18). -/
theorem firstSources (h : firstView t = broughtView straps i pending) :
    t.srs.pin = none ∧ t.srs.margin = 5 ∧ t.srs.active = none ∧ t.srs.switching = false ∧ t.srs.pSys = 0 ∧
      t.srs.overload = false ∧ ∀ j, (t.srs.get j).disabled = false ∧ (t.srs.get j).settled = false := by
  have srs : t.srs = readSelector straps i := congrArg (·.srs) h
  have barrel : (barrelRecord i.adapter (firstSelector straps false).barrel).disabled = false ∧
      (barrelRecord i.adapter (firstSelector straps false).barrel).settled = false := by
    rw [barrelRecord_eq]
    exact ⟨rfl, rfl⟩
  rw [srs, readSelector]
  split
  · refine ⟨rfl, rfl, rfl, rfl, rfl, rfl, fun j => ?_⟩
    cases j with
    | barrel => exact barrel
    | port1 | port2 => exact ⟨rfl, rfl⟩
  · refine ⟨rfl, rfl, rfl, rfl, rfl, rfl, fun j => ?_⟩
    cases j <;> exact ⟨rfl, rfl⟩

theorem firstPack_state (populated active : Bool) :
    (firstPack populated active).state = if populated && active then .identify else .absent := by
  unfold firstPack
  split <;> rfl

theorem firstFaults_masked (k : FaultKind) : (firstFaults.get k).masked = decide (k.severity = .advisory) := by
  cases k <;> rfl

/-- Settles O3: the first values that no judgement of the bring-up touches stand in the view that every step carries;
the charge channels stay off and the bus is given out last; and with four good board readings nothing is detected but
of the posture and of a source. -/
theorem powerOnResetGivesFirstValues : Obligations.PowerOnResetGivesFirstValues := by
  unfold Obligations.PowerOnResetGivesFirstValues
  intro straps inputs s
  have view := firstView_powerOn straps inputs s.pending
  obtain ⟨pInMax, target⟩ := chargeOff_powerOn straps inputs s.pending
  have turn := firstTurn_powerOn straps inputs s.pending
  have calm := fun hb => calm_powerOn (straps := straps) (i := inputs) hb s.pending
  refine ⟨powerOn straps inputs s.pending, rfl, ?_⟩
  generalize powerOn straps inputs s.pending = t at view pInMax target turn calm ⊢
  have psq : t.psq = firstSequencer inputs := congrArg (·.psq) view
  have krp : t.krp = freshReporter := congrArg (·.krp) view
  have memory : memoryFrame t.rpm = memoryFrame freshMemory := congrArg (·.memory) view
  have thermal : (t.thu.settings, t.thu.table) = (defaultThermal, defaultTable) := congrArg (·.thermal) view
  have supplied : (t.thu.sensors[4], t.thu.sensors[5]) = (emptySensor, emptySensor) := congrArg (·.supplied) view
  have masked := congrFun (congrArg (·.masked) view)
  have power : (t.ind.power.override, t.ind.power.invert) = (none, false) := congrArg (·.power) view
  have charge : (t.ind.charge.override, t.ind.charge.invert) = (none, false) := congrArg (·.charge) view
  simp only [memoryFrame, Prod.mk.injEq] at memory thermal supplied power charge
  obtain ⟨keyArea, noticeArea, keys, attnLevel, correctedLimit⟩ := memory
  obtain ⟨settings, table⟩ := thermal
  obtain ⟨sensor4, sensor5⟩ := supplied
  obtain ⟨powerOverride, powerInvert⟩ := power
  obtain ⟨chargeOverride, chargeInvert⟩ := charge
  refine ⟨congrArg (·.inputs) view, ?_, congrArg (·.lkp) view,
    ⟨keyArea, noticeArea, keys, attnLevel, correctedLimit⟩, ?_,
    firstKeyboard view, ⟨settings, table, ?_, ?_⟩, firstFan view, firstWakeUnit view,
    ⟨congrArg (·.policy) view, pInMax, fun p => ⟨?_, target p⟩⟩, firstSources view, turn,
    ⟨congrArg (·.rsoc) view, congrArg (·.snapshot) view, ?_, ?_⟩, ⟨congrArg (·.mode) view, ?_, fun good => ?_⟩,
    congrArg (·.blink) view, powerOverride, chargeOverride, powerInvert, chargeInvert⟩
  · rw [psq]
    exact ⟨rfl, rfl, rfl, rfl, rfl, rfl, rfl, rfl, rfl, rfl, rfl, rfl, rfl⟩
  · rw [krp]
    exact ⟨rfl, rfl, rfl, rfl, rfl⟩
  · rw [sensor4]
    rfl
  · rw [sensor5]
    rfl
  · have stages := congrFun (congrArg (·.stages) view) p
    cases p <;> exact stages
  · exact (congrFun (congrArg (·.packState) view) .a).trans (firstPack_state true inputs.packA)
  · exact (congrFun (congrArg (·.packState) view) .b).trans (firstPack_state straps.packs2 inputs.packB)
  · exact fun k => (masked k).trans (firstFaults_masked k)
  · have quiet := calm (boardsGood_of_all good)
    exact ⟨quiet.level, quiet.throttle, quiet.clear⟩

end Sys2Proof.Proofs
end

section
/-! What is derived and must stay so: the platform RSOC (R31), the discharge switches (R30), THROTTLE (R168) and the two
LEDs (R169, R170). `Derived x` says of a state that the derivation `x` is up to date. An operation that changes an input
of a derivation is followed by the operation that makes the derivation again; each lemma `derived_<operation>` says that
the operation leaves every derivation up to date, those that it makes again without asking that they were. -/

namespace Sys2Proof.Machine

open Sys2Proof.Safety

/-! ## The derivations -/

/-- What the statement says is derived: one item for each rule that makes it again. -/
inductive Derivation where
  /-- The platform RSOC (R31). -/
  | rsoc
  /-- A pack record is present exactly when its state is not ABSENT (R22). -/
  | presence
  /-- The discharge switches (R30), of records with their presence in order. -/
  | switches
  /-- THROTTLE (R168). -/
  | throttle
  /-- The power LED (R169). -/
  | powerLed
  /-- The charge LED (R169, R170). -/
  | chargeLed
  deriving DecidableEq

/-- What the derivations read and make of one pack record. -/
structure PackOutput where
  present : Bool
  state : PackState
  remaining : Nat
  full : Nat
  terminate : Bool
  switchOn : Bool
  switchHeld : Bool

/-- What the derivations read of one charge context: the state, and the target current. -/
structure ChargeOutput where
  state : ChargeState
  target : Nat

/-- What the derivations make of one LED. -/
structure LedOutput where
  derived : Show
  override : Option Show
  shown : Show

/-- The part of the state that the derivations read and make. -/
structure OutputView where
  rsoc : Nat
  packA : PackOutput
  packB : PackOutput
  active : Option SourceId
  overload : Bool
  level : ContainmentLevel
  throttle : Bool
  severe : Bool
  state : PlatformState
  grace : Bool
  chargeA : ChargeOutput
  chargeB : ChargeOutput
  blink : Nat
  power : LedOutput
  charge : LedOutput

def packOutput (r : PackRecord) : PackOutput :=
  ⟨r.present, r.state, r.remaining, r.full, r.alarm.terminateDischarge, r.switchOn, r.switchHeld⟩

def chargeOutput (c : ChargeContext) : ChargeOutput := ⟨c.state, c.targetCurrent⟩

def ledOutput (x : LedRecord) : LedOutput := ⟨x.derived, x.override, x.shown⟩

def outputView (s : State) : OutputView where
  rsoc := s.pks.rsoc
  packA := packOutput s.pks.record.a
  packB := packOutput s.pks.record.b
  active := s.srs.active
  overload := s.srs.overload
  level := s.flt.level
  throttle := s.flt.throttle
  severe := severeStatus s.flt
  state := s.psq.state
  grace := s.psq.grace.isSome
  chargeA := chargeOutput s.chc.context.a
  chargeB := chargeOutput s.chc.context.b
  blink := s.ind.blink
  power := ledOutput s.ind.power
  charge := ledOutput s.ind.charge

/-- R31's share, of the view. -/
def OutputView.share (v : OutputView) : Nat :=
  let remaining := (if v.packA.present then v.packA.remaining else 0) + if v.packB.present then v.packB.remaining else 0
  let full := (if v.packA.present then v.packA.full else 0) + if v.packB.present then v.packB.full else 0
  if full = 0 then 0 else min 100 (remaining * 100 / full)

def PackOutput.presenceOk (x : PackOutput) : Bool := x.present == (x.state != .absent)

/-- R30 at one pack, of the view. -/
def OutputView.switchOk (v : OutputView) (x : PackOutput) : Bool :=
  let wants := x.present && x.state != .faulted && !x.terminate
  (x.switchOn == (wants || x.switchHeld)) && (!x.switchHeld || (x.present && !wants && v.active.isNone))

/-- R30, of the view. -/
def OutputView.switchesOk (v : OutputView) : Bool :=
  v.switchOk v.packA && v.switchOk v.packB &&
    (v.active.isSome || !(v.packA.present || v.packB.present) || v.packA.switchOn || v.packB.switchOn) &&
    !(v.packA.switchHeld && v.packB.switchHeld)

def ChargeOutput.flows (c : ChargeOutput) : Bool := c.state == .charging && decide (0 < c.target)

def chargeDoneOf (x : PackOutput) (c : ChargeOutput) : Bool := !x.present || c.state == .complete || c.state == .held

/-- R170, of the view. -/
def OutputView.chargeShow (v : OutputView) : Show :=
  if v.severe then amberFast
  else if v.grace then ⟨.slow, some .amber⟩
  else if v.chargeA.flows || v.chargeB.flows then ⟨.solid, some .amber⟩
  else if v.active.isSome && (v.packA.present || v.packB.present) && chargeDoneOf v.packA v.chargeA
      && chargeDoneOf v.packB v.chargeB then ⟨.solid, some .green⟩
  else ⟨.off, none⟩

/-- What the charge LED shows (R169), of the view. -/
def OutputView.chargeShown (v : OutputView) : Show :=
  if v.severe then amberFast else if 0 < v.blink then amberFast else v.charge.override.getD v.chargeShow

/-- The derivation is up to date. -/
def Derivation.UpToDate (v : OutputView) : Derivation → Prop
  | .rsoc => v.rsoc = v.share
  | .presence => v.packA.presenceOk = true ∧ v.packB.presenceOk = true
  | .switches => v.packA.presenceOk = true ∧ v.packB.presenceOk = true → v.switchesOk = true
  | .throttle => v.throttle = (v.level == .shed || (v.overload && !(v.packA.switchOn || v.packB.switchOn)))
  | .powerLed =>
    v.power.derived = derivedPower v.state ∧ v.power.shown = v.power.override.getD (derivedPower v.state)
  | .chargeLed => v.charge.derived = v.chargeShow ∧ v.charge.shown = v.chargeShown

/-- The derivation is up to date in a state. -/
def Derived (x : Derivation) (s : State) : Prop := x.UpToDate (outputView s)

variable {x : Derivation} {s t u : State}

/-! ## The statement's terms -/

theorem derived_rsoc_iff : Derived .rsoc s ↔ s.pks.rsoc = rsocShare s.pks.record.a s.pks.record.b := Iff.rfl

theorem derived_switches_iff : switchesOk s = true ↔ Derived .presence s ∧ Derived .switches s := by
  simp only [Derived, Derivation.UpToDate, OutputView.switchesOk, OutputView.switchOk, PackOutput.presenceOk,
    switchesOk, outputView, packOutput, List.all_cons, List.all_nil, PerPack.get, Bool.and_eq_true, Bool.and_true]
  tauto

theorem derived_outputs_iff :
    outputsOk s = true ↔ Derived .throttle s ∧ Derived .powerLed s ∧ Derived .chargeLed s := by
  simp only [outputsOk, Bool.and_eq_true, beq_iff_eq]
  constructor
  · rintro ⟨⟨⟨⟨throttle, derivedP⟩, shownP⟩, derivedC⟩, shownC⟩
    exact ⟨throttle, ⟨derivedP, shownP⟩, derivedC, shownC⟩
  · rintro ⟨throttle, ⟨derivedP, shownP⟩, derivedC, shownC⟩
    exact ⟨⟨⟨⟨throttle, derivedP⟩, shownP⟩, derivedC⟩, shownC⟩

/-! ## Rules for all derivations -/

theorem derived_ite {c : Prop} [Decidable c] (h : Derived x s) (g : Derived x t) : Derived x (if c then s else t) := by
  split
  · exact h
  · exact g

theorem derived_fst_ite {α : Type} {c : Prop} [Decidable c] {y z : State × α} (h : Derived x y.1)
    (g : Derived x z.1) : Derived x (if c then y else z).1 := by
  split
  · exact h
  · exact g

theorem derived_foldl {α : Type} {f : State → α → State} (xs : List α)
    (hf : ∀ {u y}, Derived x u → Derived x (f u y)) (h : Derived x t) : Derived x (xs.foldl f t) := by
  induction xs generalizing t with
  | nil => exact h
  | cons y ys ih => exact ih (hf h)

/-! ## What is not read: each derivation under a change of what the others read -/

theorem Derived.withContext (hx : x ≠ .chargeLed) (h : Derived x s) (c : PerPack ChargeContext) :
    Derived x { s with chc.context := c } := by
  cases x with
  | chargeLed => exact absurd rfl hx
  | _ => exact h

theorem Derived.withGrace (hx : x ≠ .chargeLed) (h : Derived x s) (g : Option Nat) :
    Derived x { s with psq.grace := g } := by
  cases x with
  | chargeLed => exact absurd rfl hx
  | _ => exact h

/-- How much of a grace is left is not read, only whether one runs. -/
theorem Derived.withGraceLeft {g : Option Nat} (hg : g.isSome = s.psq.grace.isSome) (h : Derived x s) :
    Derived x { s with psq.grace := g } := by
  unfold Derived outputView at h ⊢
  rwa [← hg] at h

theorem Derived.withRecords (hx : x ≠ .chargeLed) (h : Derived x s) (r : Vector FaultRecord 20) :
    Derived x { s with flt.record := r } := by
  cases x with
  | chargeLed => exact absurd rfl hx
  | _ => exact h

theorem Derived.withLevel (hx : x ≠ .throttle) (h : Derived x s) (l : ContainmentLevel) :
    Derived x { s with flt.level := l } := by
  cases x with
  | throttle => exact absurd rfl hx
  | _ => exact h

theorem Derived.withOverload (hx : x ≠ .throttle) (h : Derived x s) (o : Bool) :
    Derived x { s with srs.overload := o } := by
  cases x with
  | throttle => exact absurd rfl hx
  | _ => exact h

theorem Derived.withState (hx : x ≠ .powerLed) (h : Derived x s) (p : PlatformState) :
    Derived x { s with psq.state := p } := by
  cases x with
  | powerLed => exact absurd rfl hx
  | _ => exact h

theorem Derived.withActive (hx : x ≠ .switches) (hy : x ≠ .chargeLed) (h : Derived x s) (a : Option SourceId) :
    Derived x { s with srs.active := a } := by
  cases x with
  | switches => exact absurd rfl hx
  | chargeLed => exact absurd rfl hy
  | _ => exact h

/-! ## What makes a derivation again -/

/-- IND shows what is asked for, afresh or as it was (R169). -/
theorem ledOutput_showOn (led : LedRecord) (want : Show) :
    ledOutput (showOn led want) = ⟨led.derived, led.override, want⟩ := by
  unfold showOn
  split
  next same => rw [← same]; rfl
  next => rfl

theorem derived_refreshChargeLed (h : x ≠ .chargeLed → Derived x s) : Derived x (refreshChargeLed s) := by
  cases x with
  | chargeLed =>
    have led : (outputView (refreshChargeLed s)).charge =
        ⟨derivedCharge s, s.ind.charge.override, chosenCharge s (derivedCharge s)⟩ := ledOutput_showOn _ _
    unfold Derived Derivation.UpToDate
    simp only [OutputView.chargeShown, led]
    exact ⟨rfl, rfl⟩
  | _ => exact h (by decide)

theorem derived_refreshPowerLed (h : x ≠ .powerLed → Derived x s) : Derived x (refreshPowerLed s) := by
  cases x with
  | powerLed =>
    have led : (outputView (refreshPowerLed s)).power =
        ⟨derivedPower s.psq.state, s.ind.power.override, s.ind.power.override.getD (derivedPower s.psq.state)⟩ :=
      ledOutput_showOn _ _
    unfold Derived Derivation.UpToDate
    simp only [led]
    exact ⟨rfl, rfl⟩
  | _ => exact h (by decide)

theorem derived_judgeThrottle (h : x ≠ .throttle → Derived x s) : Derived x (judgeThrottle s) := by
  cases x with
  | throttle => rfl
  | _ => exact h (by decide)

/-- A quotient that is cut at 100 (R31). -/
theorem cutShare (remaining full : Nat) :
    (if full = 0 then 0 else if full < remaining then 100 else remaining * 100 / full) =
      if full = 0 then 0 else min 100 (remaining * 100 / full) := by
  by_cases empty : full = 0
  · simp [empty]
  have pos : 0 < full := Nat.pos_of_ne_zero empty
  simp only [empty, if_false]
  split
  next above =>
    have : 100 ≤ remaining * 100 / full := (Nat.le_div_iff_mul_le pos).mpr (by omega)
    omega
  next below =>
    have : remaining * 100 / full ≤ 100 := Nat.div_le_of_le_mul (by omega)
    omega

/-- The model's share and the statement's are one (R31). -/
theorem rsocOf_eq_rsocShare (a b : PackRecord) : rsocOf a b = rsocShare a b := cutShare _ _

/-- A record under `withSwitch` (R30). -/
theorem packOutput_withSwitch (on held : Bool) (r : PackRecord) :
    packOutput (withSwitch on held r) = { packOutput r with switchOn := on, switchHeld := held } := by
  unfold withSwitch
  split
  next same => simp [packOutput, same]
  next => rfl

/-- PKS's rule of R30, of two records with their presence in order, is the one that the statement gives. -/
theorem switchesOk_of_rule (v : OutputView) (a b : PackRecord)
    (ha : a.present = (a.state != .absent)) (hb : b.present = (b.state != .absent)) :
    let heldA := switchHeldOn v.active.isSome true a b
    let heldB := switchHeldOn v.active.isSome false b a
    OutputView.switchesOk
      { v with
        packA := { packOutput a with switchOn := wantsOn a || heldA, switchHeld := heldA }
        packB := { packOutput b with switchOn := wantsOn b || heldB, switchHeld := heldB } } = true := by
  simp only [OutputView.switchesOk, OutputView.switchOk, packOutput, ha, hb, switchHeldOn, wantsOff, wantsOn,
    ← Option.not_isSome]
  generalize v.active.isSome = active, a.alarm.terminateDischarge = endA, b.alarm.terminateDischarge = endB,
    a.switchOn = onA, b.switchOn = onB
  revert active endA endB onA onB
  cases a.state <;> cases b.state <;> decide

/-- The switches are set afresh, and with them THROTTLE (R30, R168). -/
theorem derived_setSwitches (h : x ≠ .switches → x ≠ .throttle → Derived x s) : Derived x (setSwitches s) := by
  have packA : (outputView (setSwitches s)).packA = _ := packOutput_withSwitch _ _ _
  have packB : (outputView (setSwitches s)).packB = _ := packOutput_withSwitch _ _ _
  unfold Derived
  cases x with
  | throttle => rfl
  | switches =>
    simp only [Derivation.UpToDate, packA, packB]
    rintro ⟨presentA, presentB⟩
    have rule := switchesOk_of_rule (outputView (setSwitches s)) s.pks.record.a s.pks.record.b
      (beq_iff_eq.mp presentA) (beq_iff_eq.mp presentB)
    unfold OutputView.switchesOk
    simp only [packA, packB]
    exact rule
  | rsoc =>
    have before : Derived .rsoc s := h (by decide) (by decide)
    unfold Derivation.UpToDate
    simp only [OutputView.share, packA, packB]
    exact before
  | presence =>
    have before : Derived .presence s := h (by decide) (by decide)
    simp only [Derivation.UpToDate, packA, packB]
    exact before
  | powerLed => exact h (by decide) (by decide)
  | chargeLed =>
    have before : Derived .chargeLed s := h (by decide) (by decide)
    unfold Derivation.UpToDate
    simp only [OutputView.chargeShown, OutputView.chargeShow, packA, packB]
    exact before

end Sys2Proof.Machine
end

section
/-! The derivations under reports, containment and the platform's changes of state. -/

namespace Sys2Proof.Machine

open Sys2Proof.Safety

variable {x : Derivation} {s t u : State}

/-! ## Reports and detections -/

theorem severeStatus_set {f : FaultUnit} {k : FaultKind} {r : FaultRecord}
    (h : k.severe = false ∨ r.status = (f.get k).status) : severeStatus (f.set k r) = severeStatus f := by
  refine List.any_congr rfl fun j => ?_
  by_cases same : j = k
  · subst same
    rcases h with mild | status
    · simp [mild]
    · simp [status]
  · rw [FaultUnit.get_set_ne _ _ same]

/-- A fault record is replaced, of a kind that is not SEVERE or under the same status. -/
theorem derived_setFault {k : FaultKind} {r : FaultRecord}
    (hr : k.severe = false ∨ r.status = (s.flt.get k).status) (h : Derived x s) :
    Derived x { s with flt := s.flt.set k r } := by
  have view : outputView { s with flt := s.flt.set k r } = outputView s := by
    simp only [outputView, severeStatus_set hr]
    rfl
  unfold Derived
  rwa [view]

theorem derived_endFault {k : FaultKind} (h : Derived x s) : Derived x (endFault k s) := derived_setFault (.inr rfl) h

theorem derived_detectWith_id {offer : Notice → State → State} (ho : ∀ {n u}, Derived x u → Derived x (offer n u))
    {k : FaultKind} {detail : Byte} (mild : k.severe = false) (h : Derived x s) :
    Derived x (detectWith id offer k detail s) := by
  rw [detectWith_id]
  have recorded := derived_setFault (r := recordedFault k detail s.uptime (s.flt.get k)) (.inl mild) h
  have shown := derived_refreshChargeLed fun _ => recorded
  exact derived_ite recorded (derived_ite shown (ho shown))

theorem memoryKinds_mild {k : FaultKind} (h : k ∈ memoryKinds) : k.severe = false := by
  revert h
  cases k <;> decide

theorem derived_foldl_detectWith {offer : Notice → State → State}
    (ho : ∀ {n u}, Derived x u → Derived x (offer n u)) {ds : Reports} (kinds : OfMemory ds) (h : Derived x s) :
    Derived x (ds.foldl (fun t d => detectWith id offer d.1 d.2 t) s) := by
  induction ds generalizing s with
  | nil => exact h
  | cons d ds ih =>
    obtain ⟨first, rest⟩ := List.forall_mem_cons.mp kinds
    exact ih rest (derived_detectWith_id ho (memoryKinds_mild first) h)

theorem derived_offerDepth {n : Nat} {notice : Notice} (h : Derived x s) : Derived x (offerDepth n notice s) := by
  induction n generalizing notice s with
  | zero => exact h
  | succ n ih =>
    have placed : Derived x { s with rpm := judgeAttn (placeNotice notice s.uptime s.rpm).1 } := h
    exact derived_foldl_detectWith ih (placeNotice_step notice s.uptime s.rpm).2 placed

theorem derived_raise {n : Notice} (h : Derived x s) : Derived x (raise n s) := derived_offerDepth h

theorem derived_raiseAll {ns : List Notice} (h : Derived x s) : Derived x (raiseAll ns s) :=
  derived_foldl ns derived_raise h

theorem derived_detectMild {k : FaultKind} {detail : Byte} (mild : k.severe = false) (h : Derived x s) :
    Derived x (detectMild k detail s) :=
  derived_detectWith_id derived_raise mild h

theorem derived_takeReports {ds : Reports} (kinds : OfMemory ds) (h : Derived x s) : Derived x (takeReports ds s) :=
  derived_foldl_detectWith derived_raise kinds h

/-! ## Charge (R41 to R59) -/

/-- CHC's refresh shows the charge LED again, from whatever contexts it was given. -/
theorem derived_chargeRefresh {force : Bool} {ns : List Notice} (h : x ≠ .chargeLed → Derived x s) :
    Derived x (chargeRefresh force ns s) := by
  unfold chargeRefresh
  refine derived_raiseAll (derived_refreshChargeLed fun hx => ?_)
  have hastened : ∀ u, Derived x u → Derived x (hastenPolls u) := fun _ hu => hu
  refine hastened _ (derived_ite ?_ ((h hx).withContext hx _))
  exact ((h hx).withContext hx _).withContext hx _

/-! ## Fans (R77 to R84) -/

theorem derived_remakeFan {i : FanId} (h : Derived x t) : Derived x (remakeFan i t) := by
  unfold remakeFan
  exact derived_ite h h

theorem derived_remakeDuties (h : Derived x t) : Derived x (remakeDuties t) := derived_remakeFan (derived_remakeFan h)

theorem derived_setOverride {i : FanId} {mode : OverrideMode} {duty : Nat} {left : Option Nat} (h : Derived x t) :
    Derived x (setOverride i mode duty left t) := by
  have set (c : FanController) : Derived x { t with fnc := c } := h
  exact derived_raiseAll (derived_remakeFan (set _))

theorem derived_cancelOverride {i : FanId} (h : Derived x t) : Derived x (cancelOverride i t) := by
  unfold cancelOverride
  exact derived_ite h (derived_setOverride h)

theorem derived_fansTakeState {leaving : Bool} (h : Derived x t) : Derived x (fansTakeState leaving t) := by
  unfold fansTakeState
  exact derived_remakeDuties (derived_ite (derived_cancelOverride (derived_cancelOverride h)) h)

/-! ## Containment and THROTTLE (R167, R168) -/

theorem derived_setLevel {l : ContainmentLevel} (h : Derived x t) : Derived x (setLevel l t) := by
  unfold setLevel
  exact derived_ite h (derived_judgeThrottle fun hx =>
    derived_remakeDuties (derived_chargeRefresh fun _ => h.withLevel hx l))

theorem derived_raiseLevel (h : Derived x t) : Derived x (raiseLevel t) := by
  unfold raiseLevel
  exact derived_ite (derived_setLevel h) h

theorem derived_releaseAtStart (h : Derived x t) : Derived x (releaseAtStart t) := by
  unfold releaseAtStart
  exact derived_ite h (derived_setLevel h)

/-! ## The keyboard as the platform drives it (R92, R102) -/

/-- A new scanner, whatever it is: named, so that its key table is not computed where one is put in place. -/
theorem derived_withScanner {k : Scanner} (h : Derived x t) : Derived x { t with kbs := k } := h

theorem derived_offerKey {e : KeyEvent} (h : Derived x t) : Derived x (offerKey e t) := by
  unfold offerKey
  exact derived_ite h h

theorem derived_handRelease {synthetic : Bool} {p : Position} {code : Byte} {layer : Bool} (h : Derived x t) :
    Derived x (handRelease synthetic p code layer t) := by
  unfold handRelease typeRelease queueEvent
  exact derived_ite (derived_ite (derived_offerKey h) (derived_offerKey h)) h

theorem derived_setScanMode {m : ScanMode} (h : Derived x t) : Derived x (setScanMode m t) := by
  unfold setScanMode
  exact derived_ite h h

theorem derived_syntheticRelease {p : Position} (h : Derived x t) : Derived x (syntheticRelease t p) := by
  unfold syntheticRelease
  exact derived_handRelease (derived_withScanner h)

theorem derived_beginSuppression {m : ScanMode} (h : Derived x t) : Derived x (beginSuppression m t) := by
  have released := derived_foldl (f := syntheticRelease) (reportedSet (setScanMode m t).kbs) derived_syntheticRelease
    (derived_setScanMode (m := m) h)
  exact released

theorem derived_endSuppression {m : ScanMode} (h : Derived x t) : Derived x (endSuppression m t) := by
  have running := derived_setScanMode (m := m) h
  exact running

theorem derived_updateKeyboard (h : Derived x t) : Derived x (updateKeyboard t) := by
  unfold updateKeyboard
  exact derived_ite (derived_beginSuppression (derived_withScanner h))
    (derived_ite (derived_endSuppression (derived_withScanner h)) (derived_setScanMode (derived_withScanner h)))

/-! ## Wakes and the platform state (R134 to R160) -/

theorem derived_clearPending (h : Derived x t) : Derived x (clearPending t) := by
  unfold clearPending
  refine derived_foldl _ (fun hu => ?_) h
  unfold resetHeld
  exact derived_ite hu hu

theorem derived_judgeTripEnd (h : Derived x t) : Derived x (judgeTripEnd t) := by
  unfold judgeTripEnd
  have ended : Derived x { t with thu.trip := false } := h
  exact derived_ite (derived_endFault ended) h

theorem derived_thermalLeaveOn (h : Derived x t) : Derived x (thermalLeaveOn t) := by
  unfold thermalLeaveOn
  have left : Derived x (setSensor 5 (leaveOnSensor t.thu.sensors[5])
      (setSensor 4 (leaveOnSensor t.thu.sensors[4]) t)) := h
  exact derived_judgeTripEnd (derived_endFault left)

/-- A change of the platform state derives the power LED again (R147). -/
theorem derived_changeState {new : PlatformState} (h : Derived x t) : Derived x (changeState new t) := by
  unfold changeState
  extract_lets old last t1 t2 t3 t4 t5
  have h5 : Derived x t5 := derived_refreshPowerLed fun hx => by
    have h1 : Derived x t1 := h.withState hx new
    have h2 : Derived x t2 := derived_ite (derived_clearPending h1) h1
    have h3 : Derived x t3 := derived_fansTakeState (derived_updateKeyboard h2)
    have h4 : Derived x t4 := derived_ite (derived_thermalLeaveOn h3) (derived_ite h3 h3)
    exact h4
  exact derived_ite h5 h5

theorem derived_beginGrace (h : x ≠ .chargeLed → Derived x t) : Derived x (beginGrace t) := by
  unfold beginGrace
  exact derived_refreshChargeLed fun hx => derived_raise ((h hx).withGrace hx _)

theorem derived_endGrace {event : Nat} {off : Bool} (h : Derived x t) : Derived x (endGrace event off t) := by
  unfold endGrace
  split
  · exact h
  · exact derived_refreshChargeLed fun hx => derived_raise (h.withGrace hx none)

theorem derived_enterMpgWait (h : Derived x t) : Derived x (enterMpgWait t) := by
  unfold enterMpgWait
  exact derived_ite h h

theorem derived_recordWake (h : Derived x t) : Derived x (recordWake t) := by
  have recorded (w : WakeUnit) : Derived x { t with lwu := w } := h
  rw [recordWake_frame]
  exact recorded _

theorem derived_takeStart (h : Derived x t) : Derived x (takeStart t) := by
  unfold takeStart
  extract_lets t0 wake t1 t2 t3
  have h0 : Derived x t0 := derived_recordWake h
  clear_value t0
  have h1 : Derived x t1 := h0
  have h2 : Derived x t2 := derived_releaseAtStart (derived_clearPending (derived_changeState h1))
  have h3 : Derived x t3 := derived_ite (derived_beginGrace fun _ => h2) h2
  exact derived_ite (derived_enterMpgWait h3) h3

theorem derived_takeResume (h : Derived x t) : Derived x (takeResume t) := by
  unfold takeResume
  exact derived_enterMpgWait (derived_clearPending (derived_changeState (derived_recordWake h)))

/-- A refused start blinks amber FAST, which is what R169 asks for while a blink is left. -/
theorem derived_refuseStart (h : Derived x t) : Derived x (refuseStart t) := by
  cases x with
  | chargeLed =>
    obtain ⟨derived, -⟩ : Derived .chargeLed t := h
    refine ⟨derived, ?_⟩
    show amberFast = _
    unfold OutputView.chargeShown
    split <;> rfl
  | _ => exact h

theorem derived_offerWake (h : Derived x t) : Derived x (offerWake t) := by
  unfold offerWake
  refine derived_ite h ?_
  split
  · exact derived_takeResume h
  · exact derived_ite (derived_takeStart h) (derived_refuseStart h)
  · exact h

theorem derived_settingEvent {i : WakeSource} (h : Derived x t) : Derived x (settingEvent i t) := by
  have marked : Derived x (markSource i t) := h
  exact derived_ite (derived_offerWake marked) marked

theorem derived_judgeCritical (h : Derived x t) : Derived x (judgeCritical t) := by
  unfold judgeCritical startGrace
  have judged (b : Bool) : Derived x { t with psq.critical := b } := h
  have begun := derived_beginGrace fun _ => judged true
  exact derived_ite h (derived_ite (derived_ite (derived_ite (derived_offerWake begun) begun) (judged true))
    (derived_endGrace (judged false)))

theorem derived_arriveOff (h : Derived x t) : Derived x (arriveOff t) := by
  unfold arriveOff
  have stepped : Derived x { t with psq.step := .none, psq.stepLeft := 0, psq.stopKind := .none } := h
  exact derived_endGrace (derived_raise (derived_changeState stepped))

theorem derived_forcedStop {cause : StopCause} (h : Derived x t) : Derived x (forcedStop cause t) := by
  unfold forcedStop
  have stopping : Derived x
      { t with psq.lastStop := cause, psq.stopKind := .forced, psq.step := .none, psq.stepLeft := 0 } := h
  exact derived_ite h (derived_arriveOff (derived_ite stopping (derived_changeState stopping)))

theorem derived_arriveStandby (h : Derived x t) : Derived x (arriveStandby t) := by
  unfold arriveStandby
  have dropped : Derived x { dropMain t with psq.step := .none, psq.stepLeft := 0 } := h
  exact derived_offerWake (derived_raise (derived_changeState dropped))

/-! ## SEVERE detections and the trip (R73, R164, R166) -/

theorem derived_contain {k : FaultKind} (h : Derived x t) : Derived x (contain k t) := by
  unfold contain
  split
  · exact h
  · exact derived_raiseLevel h
  · exact derived_setLevel h
  · exact derived_raiseLevel (derived_forcedStop h)

/-- A detection of any kind: a status that is newly set is handed to IND after the containment action (R164). -/
theorem derived_detect {k : FaultKind} {detail : Byte} (h : Derived x t) : Derived x (detect k detail t) := by
  unfold detect
  split
  case isFalse mild => exact derived_detectMild (Bool.eq_false_iff.mpr mild) h
  case isTrue severe =>
    unfold detectWith
    dsimp only
    split
    case isTrue again => exact derived_contain (derived_setFault (.inr again.symm) h)
    case isFalse fresh =>
      have shown := derived_refreshChargeLed fun hx =>
        derived_contain (k := k) (h.withRecords hx (t.flt.set k (recordedFault k detail t.uptime (t.flt.get k))).record)
      exact derived_ite shown (derived_raise shown)

theorem derived_judgeTrip (h : Derived x t) : Derived x (judgeTrip t) := by
  unfold judgeTrip
  have tripped : Derived x { t with thu.trip := true } := h
  exact derived_ite (derived_raise (derived_detect tripped)) (derived_judgeTripEnd h)

theorem derived_judgeWakeCondition (h : Derived x t) : Derived x (judgeWakeCondition t) := by
  unfold judgeWakeCondition
  have judged : Derived x { t with thu.wakeCondition := wakeHolds t.thu } := h
  exact derived_ite h (derived_ite (derived_settingEvent judged) judged)

theorem derived_arriveOn (h : Derived x t) : Derived x (arriveOn t) := by
  unfold arriveOn
  have released : Derived x { t with psq.prst := false, psq.step := .none, psq.stepLeft := 0 } := h
  exact derived_judgeTrip (derived_raise (derived_raise (derived_changeState released)))

theorem derived_railFail {detail : Byte} (h : Derived x t) : Derived x (railFail detail t) :=
  derived_detect (derived_forcedStop h)

end Sys2Proof.Machine
end

section
/-! The derivations under the operations of the blocks, in the order of the model's files. -/

namespace Sys2Proof.Machine

open Sys2Proof.Safety

variable {x : Derivation} {s t u : State}

/-! ## Stages (R43 to R52) -/

theorem derived_chargeAtPoll {p : PackId} {target : Nat} (h : x ≠ .chargeLed → Derived x t) :
    Derived x (chargeAtPoll p target t) := by
  unfold chargeAtPoll
  exact derived_chargeRefresh fun hx => (h hx).withContext hx _

theorem derived_handToCharge {p : PackId} (h : x ≠ .chargeLed → Derived x t) : Derived x (handToCharge p t) := by
  unfold handToCharge
  have handed (hx : x ≠ .chargeLed) : Derived x { t with chc.handed := t.chc.handed.set p (t.pks.record.get p) } := h hx
  exact derived_chargeRefresh fun hx => (handed hx).withContext hx _

theorem derived_judgePolicy {recharge : Bool} (h : Derived x t) : Derived x (judgePolicy recharge t) := by
  unfold judgePolicy
  exact derived_chargeRefresh fun hx => h.withContext hx _

theorem derived_restEnded {p : PackId} (h : Derived x t) : Derived x (restEnded p t) := by
  unfold restEnded
  exact derived_ite (derived_chargeRefresh fun hx => h.withContext hx _) h

theorem derived_limitExpired {p : PackId} (h : Derived x t) : Derived x (limitExpired p t) := by
  unfold limitExpired
  have refreshed {ns : List Notice} (c : PerPack ChargeContext) :
      Derived x (chargeRefresh true ns { t with chc.context := c }) :=
    derived_chargeRefresh fun hx => h.withContext hx c
  exact derived_ite (derived_ite (derived_detectMild rfl (refreshed _)) (refreshed _)) h

/-! ## Fans (R77 to R84) -/

theorem derived_evaluateFan {i : FanId} (h : Derived x t) : Derived x (evaluateFan i t) := by
  unfold evaluateFan
  exact derived_ite (derived_remakeFan h) h

theorem derived_endBoost {i : FanId} (h : Derived x t) : Derived x (endBoost i t) := by
  unfold endBoost
  exact derived_ite (derived_setOverride h) h

theorem derived_startBoost {i : FanId} (h : Derived x t) : Derived x (startBoost i t) := by
  unfold startBoost
  exact derived_ite (derived_setOverride h) h

theorem derived_toggleBoost (h : Derived x t) : Derived x (toggleBoost t).1 := by
  unfold toggleBoost
  split
  · exact derived_endBoost (derived_endBoost h)
  · exact derived_startBoost (derived_startBoost h)

theorem derived_applyDerate (h : Derived x t) : Derived x (applyDerate t) := by
  unfold applyDerate
  exact derived_ite h (derived_raise (derived_chargeRefresh fun _ => h))

/-! ## Keys (R94 to R124) -/

theorem derived_queueEvent {kind : KeyKind} {code : Byte} {fn synthetic : Bool} {p : Position} {stamp : Stamp}
    (h : Derived x t) : Derived x (queueEvent kind code fn synthetic p stamp t) :=
  derived_offerKey h

theorem derived_typePress {p : Position} {code : Byte} {layer : Bool} (h : Derived x t) :
    Derived x (typePress p code layer t) := by
  unfold typePress
  exact derived_ite h h

theorem derived_typeExpired (h : Derived x t) : Derived x (typeExpired t) := by
  unfold typeExpired
  exact derived_ite h (derived_queueEvent h)

theorem derived_toggleLimit (h : Derived x t) : Derived x (toggleLimit t) := by
  unfold toggleLimit
  exact derived_judgePolicy h

theorem derived_runAction {code : Byte} {p : Position} {layer : Bool} (h : Derived x t) :
    Derived x (runAction code p layer t) := by
  unfold runAction
  split
  · exact derived_raise h
  · exact derived_raise (derived_toggleBoost h)
  · exact derived_raise (derived_toggleLimit h)
  · exact derived_raise h
  · exact h

theorem derived_handPress {p : Position} {code : Byte} {layer : Bool} {stamp : Stamp} (h : Derived x t) :
    Derived x (handPress p code layer stamp t) := by
  unfold handPress
  exact derived_ite (derived_typePress (derived_queueEvent h)) (derived_ite (derived_runAction h) h)

theorem derived_completePress {p : Position} (h : Derived x t) : Derived x (completePress p t) := by
  unfold completePress
  exact derived_ite h (derived_ite (derived_queueEvent h) (derived_handPress h))

/-- One position of a pass, whatever its state (R94, R99, R100, R104). -/
theorem derived_evaluatePosition {mode : ScanMode} {wakes : Nat} {p : Position} (h : Derived x t) :
    Derived x (evaluatePosition mode (t, wakes) p).1 := by
  unfold evaluatePosition
  dsimp only
  split
  case h_1 | h_2 =>
    exact derived_fst_ite
      (derived_fst_ite (derived_fst_ite (derived_completePress h) h) h) h
  case h_3 | h_4 => exact derived_fst_ite h (derived_fst_ite (derived_handRelease h) h)
  case h_5 | h_6 => exact derived_fst_ite h (derived_fst_ite h h)

theorem derived_foldl_evaluatePosition {mode : ScanMode} {wakes : Nat} (ps : List Position) (h : Derived x t) :
    Derived x (ps.foldl (evaluatePosition mode) (t, wakes)).1 := by
  induction ps generalizing t wakes with
  | nil => exact h
  | cons p ps ih => exact ih (derived_evaluatePosition h)

theorem derived_evaluatePass {raw : Samples} (h : Derived x t) : Derived x (evaluatePass raw t).1 := by
  unfold evaluatePass
  exact derived_foldl_evaluatePosition _ h

theorem derived_keyboardWakes {n : Nat} (h : Derived x t) : Derived x (keyboardWakes n t) := by
  induction n generalizing t with
  | zero => exact h
  | succ n ih => exact ih (derived_settingEvent h)

theorem derived_passEnds {raw : Samples} (h : Derived x t) : Derived x (passEnds raw t) := by
  unfold passEnds
  have h1 : Derived x { t with inputs.matrix := raw } := h
  exact derived_ite (derived_keyboardWakes (derived_evaluatePass h1)) h1

theorem derived_passStarts (h : Derived x t) : Derived x (passStarts t) := by
  unfold passStarts
  exact derived_ite h h

/-! ## Sensors (R69 to R75) -/

theorem derived_convertSensor {i : Fin 8} {v : Int} (h : Derived x t) : Derived x (convertSensor i v t) := by
  unfold convertSensor
  exact derived_ite (derived_detectMild rfl h) h

theorem derived_convertBoard {cpu charger skin ambient : Int} (h : Derived x t) :
    Derived x (convertBoard cpu charger skin ambient t) := by
  unfold convertBoard
  extract_lets t1
  have h1 : Derived x t1 :=
    derived_convertSensor (derived_convertSensor (derived_convertSensor (derived_convertSensor h)))
  exact derived_ite h1 (derived_endFault h1)

theorem derived_judgeSupplyStale (h : Derived x t) : Derived x (judgeSupplyStale t) := by
  unfold judgeSupplyStale
  exact derived_ite h (derived_endFault h)

theorem derived_goStale {i : Fin 8} (h : Derived x t) : Derived x (goStale i t) := by
  unfold goStale
  exact derived_judgeSupplyStale (derived_detectMild rfl (derived_raise h))

theorem derived_judgeDerate {before : ThermalUnit} (h : Derived x t) : Derived x (judgeDerate before t) := by
  unfold judgeDerate
  exact derived_ite h (derived_applyDerate h)

theorem derived_boardConverted {cpu charger skin ambient : Int} (h : Derived x t) :
    Derived x (boardConverted cpu charger skin ambient t) := by
  unfold boardConverted
  exact derived_judgeDerate
    (derived_judgeWakeCondition (derived_judgeTrip (derived_convertBoard h)))

theorem derived_freshnessReached {i : Fin 8} (h : Derived x t) : Derived x (freshnessReached i t) := by
  unfold freshnessReached
  exact derived_ite (derived_judgeTrip (derived_goStale h)) h

theorem derived_supplyField {i : Fin 8} {v : Int} (h : Derived x t) : Derived x (supplyField i v t) := by
  unfold supplyField applySupply
  exact derived_ite h (derived_judgeSupplyStale h)

theorem derived_supplyUnderSettings {i : Fin 8} (h : Derived x t) : Derived x (supplyUnderSettings i t) := by
  unfold supplyUnderSettings
  exact derived_ite h (derived_ite (derived_goStale h) h)

theorem derived_takeThermal {settings : ThermalSettings} {table : Vector DerateEntry 4} (h : Derived x t) :
    Derived x (takeThermal settings table t) := by
  unfold takeThermal
  exact derived_remakeDuties (derived_applyDerate (derived_judgeWakeCondition (derived_judgeTrip
    (derived_supplyUnderSettings (derived_supplyUnderSettings h)))))

/-! ## Fan events (R77, R81 to R83) -/

theorem derived_evaluateFans (h : Derived x t) : Derived x (evaluateFans t) := by
  unfold evaluateFans
  exact derived_evaluateFan (derived_evaluateFan h)

theorem derived_judgeStallEnd (h : Derived x t) : Derived x (judgeStallEnd t) := by
  unfold judgeStallEnd
  exact derived_ite h (derived_endFault h)

theorem derived_healthChanged {i : FanId} {failed : Bool} (h : Derived x t) :
    Derived x (healthChanged i failed t) := by
  unfold healthChanged
  exact derived_remakeFan (derived_applyDerate
    (derived_ite (derived_raise (derived_detectMild rfl h)) (derived_raise (derived_judgeStallEnd h))))

theorem derived_tachEnded {i : FanId} {pulses : Nat} (h : Derived x t) : Derived x (tachEnded i pulses t) := by
  unfold tachEnded
  exact derived_ite (derived_ite (derived_judgeStallEnd h) (derived_healthChanged h)) h

theorem derived_overrideExpired {i : FanId} (h : Derived x t) : Derived x (overrideExpired i t) := by
  unfold overrideExpired
  exact derived_ite (derived_cancelOverride h) h

/-! ## The platform (R129 to R161) -/

theorem derived_offerAtOff {before : State} (h : Derived x t) : Derived x (offerAtOff before t) := by
  unfold offerAtOff
  exact derived_ite (derived_offerWake h) h

theorem derived_takeExtSettings {i : WakeSource} {old new : ExtSettings} {high : Bool} (h : Derived x t) :
    Derived x (takeExtSettings i old new high t) := by
  unfold takeExtSettings
  exact derived_ite (derived_settingEvent h) h

theorem derived_takeWakeConfig {standby off ext : Nat} (h : Derived x t) :
    Derived x (takeWakeConfig standby off ext t) := by
  unfold takeWakeConfig
  exact derived_ite (derived_offerWake (derived_takeExtSettings (derived_takeExtSettings h)))
    (derived_takeExtSettings (derived_takeExtSettings h))

theorem derived_eventIfHeld {i : WakeSource} (h : Derived x t) : Derived x (eventIfHeld t i) := by
  unfold eventIfHeld
  exact derived_ite (derived_settingEvent h) h

theorem derived_clearSource {i : WakeSource} (h : Derived x t) : Derived x (clearSource t i) := h

theorem derived_takeWakeStatus {mask : Nat} (h : Derived x t) : Derived x (takeWakeStatus mask t) := by
  unfold takeWakeStatus
  exact derived_foldl _ derived_eventIfHeld (derived_foldl _ derived_clearSource h)

theorem derived_wakeTimerRunsOut (h : Derived x t) : Derived x (wakeTimerRunsOut t) := by
  unfold wakeTimerRunsOut
  exact derived_settingEvent h

theorem derived_wakeTimerExpired (h : Derived x t) : Derived x (wakeTimerExpired t) := by
  unfold wakeTimerExpired
  exact derived_ite (derived_wakeTimerRunsOut h) h

theorem derived_lidInput {closed : Bool} (h : Derived x t) : Derived x (lidInput closed t) := by
  unfold lidInput
  exact derived_ite h h

theorem derived_postureChanged {old : Posture} (h : Derived x t) : Derived x (postureChanged old t) := by
  unfold postureChanged
  exact derived_ite h (derived_updateKeyboard (derived_raise h))

theorem derived_lidChanged {closed : Bool} (h : Derived x t) : Derived x (lidChanged closed t) := by
  unfold lidChanged
  exact derived_postureChanged (derived_ite (derived_raise h) (derived_settingEvent (derived_raise h)))

theorem derived_lidSettled (h : Derived x t) : Derived x (lidSettled t) := by
  unfold lidSettled
  exact derived_ite h (derived_ite h (derived_lidChanged h))

theorem derived_hingeInput {i : HingeId} {active : Bool} (h : Derived x t) :
    Derived x (hingeInput i active t) := by
  cases i with
  | h1 => exact derived_ite h h
  | h2 => exact derived_ite h h

theorem derived_hingeDecoded {oldPair : Option Posture} (h : Derived x t) :
    Derived x (hingeDecoded oldPair t) := by
  unfold hingeDecoded
  exact derived_postureChanged
    (derived_ite (derived_detectMild rfl h) (derived_ite (derived_endFault h) h))

theorem derived_hingeSettled {i : HingeId} (h : Derived x t) : Derived x (hingeSettled i t) := by
  cases i with
  | h1 => exact derived_ite h (derived_hingeDecoded h)
  | h2 => exact derived_ite h (derived_hingeDecoded h)

theorem derived_extInput {i : ExtId} {high : Bool} (h : Derived x t) : Derived x (extInput i high t) := by
  cases i with
  | ext0 => exact derived_ite h (derived_ite (derived_settingEvent h) h)
  | ext1 => exact derived_ite h (derived_ite (derived_settingEvent h) h)

theorem derived_takeTransition {request : Nat} (h : Derived x t) : Derived x (takeTransition request t) := by
  unfold takeTransition
  exact derived_ite (derived_changeState h) (derived_changeState h)

theorem derived_overrideTaken (h : Derived x t) : Derived x (overrideTaken t) := by
  unfold overrideTaken
  exact derived_ite h (derived_detectMild rfl (derived_forcedStop h))

theorem derived_takeSeqSettings {y : SeqSettings} (h : Derived x t) : Derived x (takeSeqSettings y t) := by
  unfold takeSeqSettings
  exact derived_judgeCritical (derived_ite (derived_overrideTaken h) h)

theorem derived_spgRises (h : Derived x t) : Derived x (spgRises t) := by
  unfold spgRises
  exact derived_ite (derived_enterMpgWait h) h

theorem derived_mpgRises (h : Derived x t) : Derived x (mpgRises t) := by
  unfold mpgRises
  exact derived_ite h h

theorem derived_stepWaitExpired (h : Derived x t) : Derived x (stepWaitExpired t) := by
  unfold stepWaitExpired
  split
  case h_4 => exact h
  all_goals exact derived_railFail h

theorem derived_powerGoodFalls {i : GoodId} (h : Derived x t) : Derived x (powerGoodFalls i t) := by
  cases i with
  | spg => exact derived_ite (derived_railFail h) h
  | mpg => exact derived_ite (derived_railFail h) h

theorem derived_resetHoldExpired (h : Derived x t) : Derived x (resetHoldExpired t) := by
  unfold resetHoldExpired
  exact derived_ite (derived_arriveOn h) h

theorem derived_standbyDelayExpired (h : Derived x t) : Derived x (standbyDelayExpired t) := by
  unfold standbyDelayExpired
  exact derived_ite (derived_arriveStandby h) h

theorem derived_offDelayExpired (h : Derived x t) : Derived x (offDelayExpired t) := by
  unfold offDelayExpired
  have h1 : Derived x (dropAll t) := h
  exact derived_ite (derived_arriveOff h1) h

theorem derived_buttonInput {pressed : Bool} (h : Derived x t) : Derived x (buttonInput pressed t) := by
  unfold buttonInput
  exact derived_ite h h

theorem derived_buttonReleased (h : Derived x t) : Derived x (buttonReleased t) := by
  unfold buttonReleased
  exact derived_ite (derived_raise h) h

theorem derived_buttonSettled (h : Derived x t) : Derived x (buttonSettled t) := by
  unfold buttonSettled buttonPressed
  exact derived_ite h
    (derived_ite h (derived_ite (derived_settingEvent h) (derived_buttonReleased h)))

theorem derived_overrideTimeReached (h : Derived x t) : Derived x (overrideTimeReached t) := by
  unfold overrideTimeReached
  exact derived_ite (derived_overrideTaken h) h

theorem derived_graceExpired (h : Derived x t) : Derived x (graceExpired t) := by
  unfold graceExpired
  split
  · exact h
  next runs =>
    have counted : Derived x { t with psq.grace := some 0 } :=
      h.withGraceLeft (by simpa [Option.isSome_iff_ne_none] using runs)
    exact derived_detectMild rfl (derived_forcedStop (derived_endGrace counted))

theorem derived_restartHoldEnded (h : Derived x t) : Derived x (restartHoldEnded t) := by
  unfold restartHoldEnded
  exact derived_ite h (derived_judgeCritical h)

/-! ## The link (R178 to R184) -/

theorem derived_countError {detail : Byte} (h : Derived x t) : Derived x (countError detail t) := by
  unfold countError
  exact derived_ite h (derived_ite (derived_detectMild rfl h) h)

theorem derived_countErrors {detail : Byte} {n : Nat} (h : Derived x t) :
    Derived x (countErrors detail n t) := by
  induction n generalizing t with
  | zero => exact h
  | succ n ih => exact ih (derived_countError h)

theorem derived_deliver {o : Outgoing} (h : Derived x t) : Derived x (deliver o t) := by
  unfold deliver
  exact derived_ite h h

theorem derived_answerPassthrough {payload : List Byte} (h : Derived x t) :
    Derived x (answerPassthrough payload t) := by
  unfold answerPassthrough
  split
  · exact derived_ite h (derived_deliver h)
  · exact h

theorem derived_disposeFrame {f : Frame} (h : Derived x t) : Derived x (disposeFrame f t) := by
  unfold disposeFrame
  exact derived_ite h h

theorem derived_receive {type : Byte} {payload : List Byte} {serve : State → State}
    (hs : ∀ {u}, Derived x u → Derived x (serve u)) (h : Derived x t) :
    Derived x (receive type payload serve t) := by
  unfold receive
  exact derived_ite (derived_countErrors h) (derived_ite (hs h) (derived_disposeFrame h))

theorem derived_request {type : Byte} {payload : List Byte} {serve : List Byte → State → State × List Byte}
    (hs : ∀ {p u}, Derived x u → Derived x (serve p u).1) (h : Derived x t) :
    Derived x (request type serve payload t) := by
  unfold request
  exact derived_receive (fun hu => derived_deliver (hs hu)) h

theorem derived_faultyFrame {detail : Byte} {bytes : Nat} {f : Frame} (h : Derived x t) :
    Derived x (faultyFrame detail bytes f t) := by
  unfold faultyFrame
  exact derived_ite (derived_countErrors h) (derived_disposeFrame (derived_countError h))

theorem derived_takeByte {b : Byte} (h : Derived x t) : Derived x (takeByte t b) := by
  unfold takeByte
  split
  · exact derived_ite h (derived_countError h)
  · exact h
  · exact derived_ite (derived_faultyFrame h) h
  · exact h
  · exact h
  · exact derived_countError h

theorem derived_gapRunsOut (h : Derived x t) : Derived x (gapRunsOut t) := by
  unfold gapRunsOut
  exact derived_ite (derived_countError h) h

theorem derived_gapTimesOut {taken : List Byte} (h : Derived x t) : Derived x (gapTimesOut taken t) := by
  unfold gapTimesOut
  exact derived_gapRunsOut (derived_foldl _ derived_takeByte h)

theorem derived_takeRoom (h : Derived x t) : Derived x (takeRoom t) := by
  unfold takeRoom
  split
  · exact derived_deliver h
  · split
    · exact derived_disposeFrame h
    · exact h

theorem derived_framingErrors (h : Derived x t) : Derived x (framingErrors t) := by
  unfold framingErrors
  exact derived_countError (derived_ite h h)

theorem derived_byteOverruns (h : Derived x t) : Derived x (byteOverruns t) := by
  unfold byteOverruns
  exact derived_ite (derived_countError h) h

/-! ## Packs (R23 to R37) -/

/-- The derivations that stand beside a change of a pack record, and that no hand-off makes again. -/
def Derivation.beside (x : Derivation) : Prop := x = .presence ∨ x = .powerLed

theorem Derivation.beside_of_ne (h1 : x ≠ .rsoc) (h2 : x ≠ .switches) (h3 : x ≠ .throttle) (h4 : x ≠ .chargeLed) :
    x.beside := by
  cases x <;> simp_all [Derivation.beside]

theorem derived_updateRsoc (h : x ≠ .rsoc → Derived x t) : Derived x (updateRsoc t) := by
  refine derived_judgeCritical ?_
  cases x with
  | rsoc => exact rsocOf_eq_rsocShare _ _
  | _ => exact h (by decide)

theorem derived_endPackFault {k : FaultKind} {holds : PackRecord → Bool} {p : PackId} (h : Derived x t) :
    Derived x (endPackFault k holds p t) := by
  unfold endPackFault
  exact derived_ite h (derived_endFault h)

theorem derived_endCommLost {p : PackId} (h : Derived x t) : Derived x (endCommLost p t) := by
  unfold endCommLost
  exact derived_ite h (derived_endPackFault h)

/-- A record that is handed on makes RSOC, switches, THROTTLE and charge LED again. -/
theorem derived_handRecord {p : PackId} (h : x.beside → Derived x t) : Derived x (handRecord p t) := by
  unfold handRecord
  refine derived_updateRsoc fun h1 => derived_setSwitches fun h2 h3 => ?_
  have charged : Derived x (handToCharge p t) := derived_handToCharge fun h4 => h (Derivation.beside_of_ne h1 h2 h3 h4)
  exact charged

theorem derived_handPoll {p : PackId} {target : Nat} (h : x.beside → Derived x t) :
    Derived x (handPoll p target t) := by
  unfold handPoll
  refine derived_updateRsoc fun h1 => derived_setSwitches fun h2 h3 => ?_
  have handed (h4 : x ≠ .chargeLed) : Derived x { t with chc.handed := t.chc.handed.set p (t.pks.record.get p) } :=
    h (Derivation.beside_of_ne h1 h2 h3 h4)
  have charged := derived_chargeAtPoll (p := p) (target := target) handed
  exact charged

theorem derived_modSchedule {p : PackId} {f : PackSchedule → PackSchedule} (h : Derived x t) :
    Derived x (modSchedule p f t) := h

theorem derived_schedulePoll {p : PackId} (h : Derived x t) : Derived x (schedulePoll p t) := derived_modSchedule h

/-- A change of a record that no derivation reads. -/
theorem derived_modRecord {p : PackId} {f : PackRecord → PackRecord} (hf : ∀ r, packOutput (f r) = packOutput r)
    (h : Derived x t) : Derived x (modRecord p f t) := by
  have view : outputView (modRecord p f t) = outputView t := by
    cases p <;> simp [outputView, modRecord, PerPack.set, PerPack.get, hf]
  unfold Derived
  rwa [view]

/-- A change of a record that keeps its presence in order. -/
theorem derived_modRecord_beside {p : PackId} {f : PackRecord → PackRecord} (hx : x.beside)
    (hf : (packOutput (t.pks.record.get p)).presenceOk = true →
      (packOutput (f (t.pks.record.get p))).presenceOk = true)
    (h : Derived x t) : Derived x (modRecord p f t) := by
  rcases hx with rfl | rfl
  · obtain ⟨presentA, presentB⟩ := h
    cases p
    · exact ⟨hf presentA, presentB⟩
    · exact ⟨presentA, hf presentB⟩
  · exact h

/-- A pack that is not ABSENT moves to a state that is not ABSENT (R24, R27, R29). -/
theorem derived_moveState {p : PackId} {new : PackState} (hx : x.beside) (hn : new ≠ .absent)
    (hr : (t.pks.record.get p).state ≠ .absent) (h : Derived x t) :
    Derived x (modRecord p (fun r => { r with state := new }) t) :=
  derived_modRecord_beside hx
    (by simp [packOutput, PackOutput.presenceOk, bne_iff_ne.mpr hn, bne_iff_ne.mpr hr]) h

theorem derived_settleReady {p : PackId} (hx : x.beside) (h : Derived x t) : Derived x (settleReady p t) := by
  unfold settleReady
  dsimp only
  split
  next moves =>
    refine derived_raise (derived_moveState hx (by decide) (fun gone => ?_) h)
    simp [gone] at moves
  next => exact h

theorem derived_settleFaulted {p : PackId} (hx : x.beside) (h : Derived x t) : Derived x (settleFaulted p t) := by
  unfold settleFaulted
  dsimp only
  split
  next moves =>
    refine derived_raise (derived_moveState hx (by decide) (fun gone => ?_) h)
    simp [gone] at moves
  next => exact h

theorem derived_judgeOverCharge {p : PackId} (hx : x.beside) (h : Derived x t) : Derived x (judgeOverCharge p t) := by
  unfold judgeOverCharge
  exact derived_ite
    (derived_settingEvent (derived_settleFaulted hx (derived_detect (derived_modRecord (fun _ => rfl) h)))) h

theorem derived_judgeOverTemp {p : PackId} (hx : x.beside) (h : Derived x t) : Derived x (judgeOverTemp p t) := by
  unfold judgeOverTemp
  exact derived_ite
    (derived_settingEvent (derived_settleFaulted hx (derived_detect (derived_modRecord (fun _ => rfl) h)))) h

theorem derived_judgeAlarm {p : PackId} {old : AlarmFlags} (h : Derived x t) : Derived x (judgeAlarm p old t) := by
  unfold judgeAlarm
  induction alarmsRisen old (t.pks.record.get p).alarm with
  | zero => exact h
  | succ n ih => exact derived_settingEvent (derived_raise ih)

theorem derived_dropOverCharge {p : PackId} (h : Derived x t) : Derived x (dropOverCharge p t) := by
  unfold dropOverCharge
  exact derived_ite h (derived_modRecord (fun _ => rfl) h)

theorem derived_dropOverTemp {p : PackId} (h : Derived x t) : Derived x (dropOverTemp p t) := by
  unfold dropOverTemp
  exact derived_ite h (derived_modRecord (fun _ => rfl) h)

theorem derived_endAlarms {p : PackId} (h : Derived x t) : Derived x (endAlarms p t) := by
  unfold endAlarms
  have ended := derived_ite (c := overChargeHolds (t.pks.record.get p) = true) h
    (derived_endPackFault (k := .packOverCharged) (holds := overChargeHolds) (p := p) h)
  exact derived_ite ended (derived_endPackFault ended)

theorem derived_clearCauses {charged hot : Bool} {p : PackId} (h : Derived x t) :
    Derived x (clearCauses charged hot p t) := by
  unfold clearCauses
  extract_lets before t1 t2
  have h1 : Derived x t1 := derived_ite (derived_dropOverCharge h) h
  have h2 : Derived x t2 := derived_ite (derived_dropOverTemp h1) h1
  exact derived_ite h2 (derived_handRecord fun hx => derived_settleReady hx h2)

/-- A good poll: the alarms are taken before the record is handed on, which makes all but the power LED again. -/
theorem derived_goodPoll {p : PackId} {ws : List Word16} (h : Derived x t) : Derived x (goodPoll p ws t) := by
  unfold goodPoll
  extract_lets target old t1 t2 t3 t4
  refine derived_schedulePoll (derived_handPoll fun hx => ?_)
  have polled : Derived x (modRecord p (polledRecord ws t.uptime) t) := derived_modRecord_beside hx id h
  have h1 : Derived x t1 := polled
  have h2 : Derived x t2 := derived_settleReady hx (derived_endCommLost h1)
  have h3 : Derived x t3 := derived_judgeAlarm (derived_judgeOverTemp hx (derived_judgeOverCharge hx h2))
  exact derived_settleReady hx (derived_dropOverTemp (derived_dropOverCharge (derived_endAlarms h3)))

theorem derived_goodIdentification {p : PackId} {ws : List Word16} (h : Derived x t) :
    Derived x (goodIdentification p ws t) :=
  derived_goodPoll (derived_modRecord (fun _ => rfl) h)

theorem derived_judgeAtFailure {p : PackId} (h : Derived x t) : Derived x (judgeAtFailure p t) := by
  unfold judgeAtFailure
  have ended {c : Prop} [Decidable c] : Derived x (if c then t else endFault .packOverCharged t) :=
    derived_ite h (derived_endFault h)
  have both {c : Prop} [Decidable c] {u} (hu : Derived x u) :
      Derived x (judged p (if c then u else endFault .packOverTemp u)) :=
    derived_ite hu (derived_endFault hu)
  exact derived_ite (both ended) h

theorem derived_failedPoll {p : PackId} (h : Derived x t) : Derived x (failedPoll p t) := by
  unfold failedPoll
  have counted : Derived x (modRecord p (fun r => { r with failRun := min 3 ((t.pks.record.get p).failRun + 1) }) t) :=
    derived_modRecord (fun _ => rfl) h
  exact derived_ite
    (derived_handRecord fun hx => derived_settleFaulted hx
      (derived_detectMild rfl (derived_judgeAtFailure (derived_modRecord (fun _ => rfl) counted))))
    counted

theorem derived_packInserted {p : PackId} (h : Derived x t) : Derived x (packInserted p t) := by
  unfold packInserted
  refine derived_handRecord fun hx => derived_raise ?_
  have inserted := derived_modRecord_beside (p := p) hx
    (f := fun _ => { absentPack (t.pks.record.get p).populated with present := true, state := .identify })
    (fun _ => rfl) h
  exact inserted

theorem derived_removePassthrough {p : PackId} (h : Derived x t) : Derived x (removePassthrough p t) := by
  unfold removePassthrough
  split
  · exact h
  · have freed (b : BusController) : Derived x { t with pbc := b } := h
    exact derived_ite h (derived_ite h (derived_answerPassthrough (freed _)))

theorem derived_packRemoved {p : PackId} (h : Derived x t) : Derived x (packRemoved p t) := by
  unfold packRemoved
  refine derived_raise (derived_endCommLost (derived_endAlarms (derived_handRecord fun hx => ?_)))
  have removed := derived_modRecord_beside (p := p) hx (f := fun r => absentPack r.populated) (fun _ => rfl) h
  exact derived_removePassthrough removed

theorem derived_presenceChanges {p : PackId} {active : Bool} (h : Derived x t) :
    Derived x (presenceChanges p active t) := by
  unfold presenceChanges
  exact derived_ite h (derived_ite (derived_packInserted h) (derived_packRemoved h))

theorem derived_identificationFalls {p : PackId} (h : Derived x t) :
    Derived x (identificationFalls p t) := by
  unfold identificationFalls
  exact derived_ite (derived_modSchedule h) h

theorem derived_pollFalls {p : PackId} (h : Derived x t) : Derived x (pollFalls p t) := by
  unfold pollFalls
  exact derived_ite (derived_modSchedule h) h

theorem derived_channelFails {p : PackId} (h : Derived x t) : Derived x (channelFails p t) := by
  unfold channelFails
  have detected (c : PerPack Bool) : Derived x { t with chc.channelDetected := c } := h
  exact derived_ite (derived_chargeRefresh fun _ => derived_detect (detected _)) (derived_chargeRefresh fun _ => h)

theorem derived_channelRecovers {p : PackId} (h : Derived x t) : Derived x (channelRecovers p t) := by
  unfold channelRecovers
  have ended (c : PerPack Bool) : Derived x { t with chc.channelDetected := c } := h
  exact derived_chargeRefresh fun _ => derived_ite (ended _) (derived_endFault (ended _))

theorem derived_channelFaultChanges {p : PackId} {active : Bool} (h : Derived x t) :
    Derived x (channelFaultChanges p active t) := by
  unfold channelFaultChanges
  exact derived_ite h (derived_ite (derived_channelFails h) (derived_channelRecovers h))

/-! ## Sources (R4 to R15) -/

theorem derived_endOverload (h : Derived x t) : Derived x (endOverload t) := by
  unfold endOverload
  exact derived_judgeThrottle fun hx => derived_endFault (derived_raise (h.withOverload hx false))

theorem derived_beginOverload (h : Derived x t) : Derived x (beginOverload t) := by
  unfold beginOverload
  exact derived_judgeThrottle fun hx => derived_detectMild rfl (derived_raise (h.withOverload hx true))

theorem derived_judgeOverload (h : Derived x t) : Derived x (judgeOverload t) := by
  unfold judgeOverload
  exact derived_ite h (derived_ite h
    (derived_ite h (derived_ite (derived_endOverload h) (derived_beginOverload h))))

/-- The hand-off of the active source makes charge LED, switches and THROTTLE again (R11). -/
theorem derived_handSource (h : x ≠ .switches → x ≠ .chargeLed → Derived x t) : Derived x (handSource t) := by
  unfold handSource
  exact derived_judgeCritical (derived_setSwitches fun h1 _ => derived_chargeRefresh fun h2 => h h1 h2)

theorem derived_changeActive {new : Option SourceId} (h : Derived x t) : Derived x (changeActive new t) := by
  unfold changeActive
  extract_lets old changed t1 t2 t3
  have h3 : Derived x t3 := by
    refine derived_handSource fun hx hy => derived_raise ?_
    have h1 : Derived x t1 := h.withActive hx hy new
    unfold t2
    split
    · exact derived_settingEvent h1
    · exact h1
  clear_value t3
  exact derived_ite (derived_endOverload h3) h3

theorem derived_selectSource (h : Derived x t) : Derived x (selectSource t) := by
  unfold selectSource
  exact derived_ite h (derived_changeActive h)

theorem derived_setSource {i : SourceId} {r : SourceRecord} (h : Derived x t) : Derived x (setSource i r t) := by
  cases i <;> exact h

theorem derived_judgeInvalid {i : SourceId} {old new : SourceRecord} (h : Derived x t) :
    Derived x (judgeInvalid i old new t) := by
  unfold judgeInvalid
  exact derived_ite (derived_detectMild rfl h) (derived_ite h (derived_endFault h))

theorem derived_updateSource {i : SourceId} {new : SourceRecord} (h : Derived x t) :
    Derived x (updateSource i new t) := by
  unfold updateSource
  extract_lets old t1 t2
  have h1 : Derived x t1 := derived_judgeInvalid (derived_setSource h)
  have h2 : Derived x t2 := derived_ite (derived_selectSource h1) h1
  exact derived_ite (derived_chargeRefresh fun _ => h2) h2

theorem derived_contractDelivered {p : PortId} {block : List Byte} (h : Derived x t) :
    Derived x (contractDelivered p block t) := by
  unfold contractDelivered
  exact derived_updateSource h

theorem derived_sourceSettled {i : SourceId} (h : Derived x t) : Derived x (sourceSettled i t) := by
  unfold sourceSettled
  exact derived_ite
    (derived_ite (derived_selectSource (derived_setSource h)) (derived_setSource h)) h

theorem derived_switchingExpired (h : Derived x t) : Derived x (switchingExpired t) := by
  unfold switchingExpired
  exact derived_ite h (derived_ite (derived_selectSource (derived_chargeRefresh fun _ => h)) h)

theorem derived_requestRead {p : PortId} (h : Derived x t) : Derived x (requestRead p t) := h

theorem derived_portIntervalEnds {p : PortId} (h : Derived x t) : Derived x (portIntervalEnds p t) := by
  unfold portIntervalEnds
  exact derived_ite (derived_requestRead h) h

theorem derived_barrelDetect {active : Bool} {reading : AdapterReading} (h : Derived x t) :
    Derived x (barrelDetect active reading t) := by
  unfold barrelDetect
  exact derived_ite h (derived_ite h (derived_updateSource h))

theorem derived_adapterChanges {reading : AdapterReading} (h : Derived x t) :
    Derived x (adapterChanges reading t) := by
  unfold adapterChanges
  exact derived_ite (derived_updateSource h) h

theorem derived_pSysSampled {reading : Nat} (h : Derived x t) : Derived x (pSysSampled reading t) := by
  unfold pSysSampled
  exact derived_judgeOverload (derived_chargeRefresh fun _ => h)

/-! ## The pack bus (R19 to R35) -/

theorem derived_lineFound (h : Derived x t) : Derived x (lineFound t) := by
  have found : Derived x { t with pbc.recoveryFails := 0 } := h
  exact derived_endFault found

theorem derived_lineLevel {high : Bool} (h : Derived x t) : Derived x (lineLevel high t) := h

theorem derived_startAttempt {y : Transaction} (h : Derived x t) : Derived x (startAttempt y t) := by
  unfold startAttempt
  exact derived_ite (derived_lineFound h) h

theorem derived_startTransaction {device : BusDevice} {passthrough : Bool} {op : BusOp} (h : Derived x t) :
    Derived x (startTransaction device passthrough op t) := by
  unfold startTransaction
  exact derived_startAttempt h

theorem derived_beginTurn {poller : BusDevice} {work : TurnWork} {ops : List BusOp} (h : Derived x t) :
    Derived x (beginTurn poller work ops t) := by
  cases ops with
  | nil => exact h
  | cons op rest => exact derived_startTransaction h

theorem derived_beginPackTurn {p : PackId} (h : Derived x t) : Derived x (beginPackTurn p t) := by
  unfold beginPackTurn
  exact derived_beginTurn (derived_modSchedule h)

theorem derived_beginPortTurn {p : PortId} (h : Derived x t) : Derived x (beginPortTurn p t) := by
  unfold beginPortTurn
  exact derived_beginTurn h

theorem derived_beginPollerTurn {d : BusDevice} (h : Derived x t) : Derived x (beginPollerTurn d t) := by
  cases d with
  | packA | packB => exact derived_beginPackTurn h
  | port1 | port2 => exact derived_beginPortTurn h

theorem derived_grantPoller (h : Derived x t) : Derived x (grantPoller t) := by
  unfold grantPoller
  split
  · exact derived_beginPollerTurn h
  · exact h

theorem derived_grantTurn (h : Derived x t) : Derived x (grantTurn t) := by
  unfold grantTurn
  split
  · split
    · exact derived_startTransaction h
    · exact derived_grantPoller h
  · exact derived_grantPoller h

theorem derived_busGrant (h : Derived x t) : Derived x (busGrant t) := by
  unfold busGrant
  refine derived_ite h ?_
  split
  · exact derived_ite (derived_grantTurn h) (derived_startTransaction h)
  · exact derived_grantTurn h

theorem derived_endTurn (h : Derived x t) : Derived x (endTurn t) := h

theorem derived_switchWritten {p : PackId} {w : Word16} {good : Bool} (h : Derived x t) :
    Derived x (switchWritten p w good t) := by
  unfold switchWritten
  exact derived_ite (derived_modRecord (fun _ => by split <;> rfl) h) h

theorem derived_readsGood {p : PackId} {work : TurnWork} {ws : List Word16} (h : Derived x t) :
    Derived x (readsGood p work ws t) := by
  unfold readsGood
  split
  · exact derived_goodIdentification h
  · exact derived_goodPoll h

theorem derived_readsFailed {p : PackId} {work : TurnWork} (h : Derived x t) :
    Derived x (readsFailed p work t) := by
  unfold readsFailed
  split
  · exact derived_modSchedule (derived_failedPoll h)
  · exact derived_schedulePoll (derived_failedPoll h)

theorem derived_packOutcome {p : PackId} {y : Turn} {op : BusOp} {result : Option (List Byte)}
    (h : Derived x t) : Derived x (packOutcome p y op result t) := by
  unfold packOutcome
  split
  · exact derived_ite (derived_endTurn (derived_switchWritten h)) (derived_switchWritten h)
  · split
    · exact derived_readsFailed (derived_endTurn h)
    · exact derived_ite (derived_readsGood (derived_endTurn h)) h

theorem derived_portOutcome {p : PortId} {result : Option (List Byte)} (h : Derived x t) :
    Derived x (portOutcome p result t) := by
  cases result with
  | none => exact derived_endTurn h
  | some block => exact derived_contractDelivered (derived_endTurn h)

theorem derived_pollerOutcome {d : BusDevice} {op : BusOp} {result : Option (List Byte)} (h : Derived x t) :
    Derived x (pollerOutcome d op result t) := by
  unfold pollerOutcome
  split
  · exact h
  · cases d with
    | packA | packB => exact derived_packOutcome h
    | port1 | port2 => exact derived_portOutcome h

theorem derived_passthroughOutcome {result : Option (List Byte)} (h : Derived x t) :
    Derived x (passthroughOutcome result t) := by
  unfold passthroughOutcome
  split
  · exact h
  · exact derived_answerPassthrough h

theorem derived_endTransaction {y : Transaction} {result : Option (List Byte)} (h : Derived x t) :
    Derived x (endTransaction y result t) := by
  unfold endTransaction
  exact derived_ite (derived_passthroughOutcome h) (derived_ite h (derived_pollerOutcome h))

theorem derived_attemptFails {y : Transaction} (h : Derived x t) : Derived x (attemptFails y t) := by
  unfold attemptFails
  exact derived_ite (derived_endTransaction h) (derived_startAttempt h)

theorem derived_attemptEnded {result : AttemptResult} (h : Derived x t) :
    Derived x (attemptEnded result t) := by
  unfold attemptEnded
  split
  · exact h
  · refine derived_ite h ?_
    cases result with
    | notAcked => exact derived_attemptFails h
    | acked data => exact derived_ite (derived_endTransaction h) (derived_attemptFails h)

theorem derived_recoveryFailed {y : Transaction} (h : Derived x t) : Derived x (recoveryFailed y t) := by
  unfold recoveryFailed
  exact derived_attemptFails (derived_ite (derived_detectMild rfl h) h)

theorem derived_recoveryEnded {lineHigh : Bool} (h : Derived x t) : Derived x (recoveryEnded lineHigh t) := by
  unfold recoveryEnded
  split
  · exact h
  · exact derived_ite h (derived_ite (derived_lineFound h) (derived_recoveryFailed h))

theorem derived_busAttemptEnds {result : AttemptResult} {lineHigh : Bool} (h : Derived x t) :
    Derived x (busAttemptEnds result lineHigh t) := by
  unfold busAttemptEnds
  exact derived_attemptEnded (derived_lineLevel h)

theorem derived_attemptTimesOut {lineHigh : Bool} (h : Derived x t) :
    Derived x (attemptTimesOut lineHigh t) := by
  unfold attemptTimesOut
  exact derived_attemptEnded (derived_lineLevel h)

theorem derived_busRecovers {lineHigh : Bool} (h : Derived x t) : Derived x (busRecovers lineHigh t) := by
  unfold busRecovers
  exact derived_recoveryEnded (derived_lineLevel h)

/-! ## Indicators and fault clearing (R167 to R173) -/

/-- While a blink is left the charge LED shows amber FAST, whatever their number (R171). -/
theorem Derived.withBlink {n : Nat} (hn : 0 < n) (hb : 0 < t.ind.blink) (h : Derived x t) :
    Derived x { t with ind.blink := n } := by
  cases x with
  | chargeLed =>
    obtain ⟨derived, shown⟩ : Derived .chargeLed t := h
    refine ⟨derived, shown.trans ?_⟩
    have before : 0 < (outputView t).blink := hb
    have after : 0 < (outputView { t with ind.blink := n }).blink := hn
    simp only [OutputView.chargeShown, before, after, if_true]
    rfl
  | _ => exact h

theorem derived_chargePhaseEnds (h : Derived x t) : Derived x (chargePhaseEnds t) := by
  have swapped : Derived x { t with ind.charge := nextPhase t.ind.charge } := h
  unfold chargePhaseEnds
  dsimp only
  split
  next dark =>
    have blinks : 0 < t.ind.blink := by simpa using (Bool.and_eq_true_iff.mp dark).2
    split
    next =>
      refine derived_refreshChargeLed fun hx => ?_
      cases x with
      | chargeLed => exact absurd rfl hx
      | _ => exact swapped
    next left => exact swapped.withBlink (Nat.pos_of_ne_zero left) blinks
  next => exact swapped

theorem derived_phaseEnds {led : LedId} (h : Derived x t) : Derived x (phaseEnds led t) := by
  cases led with
  | power => exact derived_ite h h
  | charge => exact derived_ite (derived_chargePhaseEnds h) h

theorem derived_setLed {power invert : Bool} {override : Option Show} (h : Derived x t) :
    Derived x (setLed power override invert t) := by
  unfold setLed
  refine derived_ite (derived_refreshPowerLed fun hx => ?_) (derived_refreshChargeLed fun hx => ?_)
  · cases x with
    | powerLed => exact absurd rfl hx
    | _ => exact h
  · cases x with
    | chargeLed => exact absurd rfl hx
    | _ => exact h

theorem derived_redetect {mask : Nat} {k : FaultKind} (h : Derived x t) : Derived x (redetect mask t k) := by
  unfold redetect
  exact derived_ite (derived_detect h) h

theorem derived_clearPackCauses {mask : Nat} (h : Derived x t) : Derived x (clearPackCauses mask t) := by
  unfold clearPackCauses
  exact derived_clearCauses (derived_clearCauses h)

/-- Statuses are cleared: every derivation but the charge LED's stands, which step 4 of R173 makes again. -/
theorem derived_clearAndRedetect {mask : Nat} (hx : x ≠ .chargeLed) (h : Derived x t) :
    Derived x (clearAndRedetect mask t) := by
  unfold clearAndRedetect
  exact derived_foldl _ derived_redetect (derived_clearPackCauses (h.withRecords hx _))

theorem derived_releaseAtClear {mask : Nat} (h : Derived x t) : Derived x (releaseAtClear mask t) := by
  unfold releaseAtClear
  exact derived_ite h (derived_setLevel h)

end Sys2Proof.Machine
end

section
/-! The derivations under the requests, the restart, the expiries of a tick and so every command and step. -/

namespace Sys2Proof.Machine

open Sys2Proof.Safety

variable {x : Derivation} {s t u : State}

/-! ## Requests: the state after a request has been served -/

theorem derived_servePing {p : List Byte} (h : Derived x t) : Derived x (servePing p t).1 := by
  unfold servePing
  exact derived_fst_ite h h

theorem derived_serveLinkStart {p : List Byte} (h : Derived x t) : Derived x (serveLinkStart p t).1 := by
  unfold serveLinkStart
  exact derived_fst_ite h h

theorem derived_serveStatusGet {p : List Byte} (h : Derived x t) : Derived x (serveStatusGet p t).1 := by
  unfold serveStatusGet
  exact derived_fst_ite h h

theorem derived_serveRestart {p : List Byte} (h : Derived x t) : Derived x (serveRestart p t) := by
  unfold serveRestart
  exact derived_ite (derived_deliver h) (derived_deliver h)

theorem derived_serveUnknown {p : List Byte} (h : Derived x t) : Derived x (serveUnknown p t).1 := h

theorem derived_layOut {key notice : Area} {level limit : Nat} (h : Derived x t) :
    Derived x (layOut key notice level limit t) := by
  unfold layOut
  exact derived_ite (derived_detectMild rfl h) h

theorem derived_serveLinkSetup {p : List Byte} (h : Derived x t) : Derived x (serveLinkSetup p t).1 := by
  unfold serveLinkSetup
  exact derived_fst_ite h (derived_fst_ite h (derived_fst_ite h (derived_layOut h)))

theorem derived_readWords {queue : Byte} {words : List WordCheck} (h : Derived x t) :
    Derived x (readWords queue words t).1 := by
  have read (r : ReportMemory) : Derived x { t with rpm := r } := h
  refine derived_takeReports ?_ (read _)
  obtain ⟨-, kinds⟩ := correctWords_step queue (checkWords words).1 t.rpm
  split
  · exact kinds.append (ofMemory_nil.cons (by simp [memoryKinds]))
  · exact kinds

theorem derived_readKeys {fuel want : Nat} (h : Derived x t) : Derived x (readKeys fuel want t).1 := by
  induction fuel generalizing want t with
  | zero => exact h
  | succ fuel ih =>
    cases want with
    | zero => exact h
    | succ want =>
      unfold readKeys
      split
      · exact h
      · exact derived_fst_ite (ih (derived_readWords h)) (ih (derived_readWords h))

theorem derived_readNotices {fuel want : Nat} (h : Derived x t) :
    Derived x (readNotices fuel want t).1 := by
  induction fuel generalizing want t with
  | zero => exact h
  | succ fuel ih =>
    cases want with
    | zero => exact h
    | succ want =>
      unfold readNotices
      split
      · exact h
      · exact derived_fst_ite (ih (derived_readWords h)) (ih (derived_readWords h))

theorem derived_serveQueueRead {p : List Byte} (h : Derived x t) : Derived x (serveQueueRead p t).1 := by
  unfold serveQueueRead readKeyQueue readNoticeQueue
  exact derived_fst_ite h
    (derived_fst_ite h (derived_fst_ite (derived_readKeys h) (derived_readNotices h)))

theorem derived_serveAttnLevelSet {p : List Byte} (h : Derived x t) :
    Derived x (serveAttnLevelSet p t).1 := by
  unfold serveAttnLevelSet
  exact derived_fst_ite h (derived_fst_ite h h)

theorem derived_serveSourcePolicy {p : List Byte} (h : Derived x t) :
    Derived x (serveSourcePolicy p t).1 := by
  unfold serveSourcePolicy
  exact derived_fst_ite h (derived_fst_ite h
    (derived_fst_ite h (derived_selectSource (derived_chargeRefresh fun _ => h))))

theorem derived_serveSourceStatusGet {p : List Byte} (h : Derived x t) :
    Derived x (serveSourceStatusGet p t).1 := by
  unfold serveSourceStatusGet
  exact derived_fst_ite h h

theorem derived_servePackStatusGet {p : List Byte} (h : Derived x t) :
    Derived x (servePackStatusGet p t).1 := by
  unfold servePackStatusGet
  refine derived_fst_ite h (derived_fst_ite h (derived_fst_ite h (derived_fst_ite h ?_)))
  split
  · exact h
  · exact h

theorem derived_servePackSnapshot {p : List Byte} (h : Derived x t) :
    Derived x (servePackSnapshot p t).1 := by
  unfold servePackSnapshot
  exact derived_fst_ite h h

theorem derived_servePassthrough {type : Byte} {device : Option BusDevice} {op : Option BusOp} {adjusted : Bool}
    (h : Derived x t) : Derived x (servePassthrough type device op adjusted t) := by
  unfold servePassthrough
  split
  · exact derived_ite h (derived_deliver h)
  · exact derived_deliver h

theorem derived_servePackRead {p : List Byte} (h : Derived x t) : Derived x (servePackRead p t) := by
  unfold servePackRead
  exact derived_ite (derived_deliver h) (derived_servePassthrough h)

theorem derived_servePackWrite {p : List Byte} (h : Derived x t) : Derived x (servePackWrite p t) := by
  unfold servePackWrite
  exact derived_ite (derived_deliver h) (derived_servePassthrough h)

theorem derived_putContext {p : PackId} {c : ChargeContext} (h : Derived x t) :
    Derived x (putContext p c t) := by
  unfold putContext
  exact derived_chargeRefresh fun hx => h.withContext hx _

theorem derived_serveProfileLoad {p : List Byte} (h : Derived x t) : Derived x (serveProfileLoad p t).1 := by
  unfold serveProfileLoad
  refine derived_fst_ite h ?_
  split
  · exact h
  · exact h
  · exact derived_putContext h

theorem derived_serveProfileExtend {p : List Byte} (h : Derived x t) :
    Derived x (serveProfileExtend p t).1 := by
  unfold serveProfileExtend
  refine derived_fst_ite h ?_
  split
  · exact h
  · exact h
  · exact derived_fst_ite h (derived_putContext h)

theorem derived_serveProfileGet {p : List Byte} (h : Derived x t) : Derived x (serveProfileGet p t).1 := by
  unfold serveProfileGet
  refine derived_fst_ite h ?_
  split
  · exact h
  · exact derived_fst_ite h h

theorem derived_serveProfileAbort {p : List Byte} (h : Derived x t) :
    Derived x (serveProfileAbort p t).1 := by
  unfold serveProfileAbort
  refine derived_fst_ite h ?_
  split
  · exact h
  · exact derived_putContext h

theorem derived_serveChargePolicy {p : List Byte} (h : Derived x t) :
    Derived x (serveChargePolicy p t).1 := by
  unfold serveChargePolicy
  refine derived_fst_ite h (derived_fst_ite h ?_)
  split
  · exact h
  · exact derived_judgePolicy h

theorem derived_serveBudgetGet {p : List Byte} (h : Derived x t) : Derived x (serveBudgetGet p t).1 := by
  unfold serveBudgetGet
  refine derived_fst_ite h (derived_fst_ite h (derived_fst_ite h ?_))
  split
  · exact h
  · exact h

theorem derived_serveTempSupply {p : List Byte} (h : Derived x t) : Derived x (serveTempSupply p t).1 := by
  unfold serveTempSupply
  exact derived_fst_ite h (derived_judgeTrip (derived_supplyField (derived_supplyField h)))

theorem derived_serveThermalConfig {p : List Byte} (h : Derived x t) :
    Derived x (serveThermalConfig p t).1 := by
  unfold serveThermalConfig
  exact derived_fst_ite h (derived_fst_ite h (derived_fst_ite h (derived_takeThermal h)))

theorem derived_takeCurve {i : FanId} {curve : List CurvePoint} {hysteresis : Nat} {mask : Byte}
    (h : Derived x t) : Derived x (takeCurve i curve hysteresis mask t) := by
  unfold takeCurve
  exact derived_remakeFan h

theorem derived_serveFanCurveSet {p : List Byte} (h : Derived x t) : Derived x (serveFanCurveSet p t).1 := by
  unfold serveFanCurveSet
  exact derived_fst_ite h (derived_fst_ite h (derived_fst_ite h (derived_fst_ite h
    (derived_fst_ite h (derived_takeCurve h)))))

theorem derived_serveFanOverride {p : List Byte} (h : Derived x t) : Derived x (serveFanOverride p t).1 := by
  unfold serveFanOverride
  exact derived_fst_ite h (derived_fst_ite h (derived_fst_ite h (derived_fst_ite h
    (derived_foldl _ derived_setOverride h))))

theorem derived_serveThermalStatusGet {p : List Byte} (h : Derived x t) :
    Derived x (serveThermalStatusGet p t).1 := by
  unfold serveThermalStatusGet
  exact derived_fst_ite h h

theorem derived_takeKeySettings {y : KeySettings} (h : Derived x t) : Derived x (takeKeySettings y t) := by
  unfold takeKeySettings
  exact derived_ite h h

theorem derived_serveKeyConfig {p : List Byte} (h : Derived x t) : Derived x (serveKeyConfig p t).1 := by
  unfold serveKeyConfig
  exact derived_fst_ite h (derived_fst_ite h (derived_fst_ite h (derived_fst_ite h
    (derived_takeKeySettings h))))

theorem derived_serveKeyStateGet {p : List Byte} (h : Derived x t) : Derived x (serveKeyStateGet p t).1 := by
  unfold serveKeyStateGet
  exact derived_fst_ite h h

theorem derived_serveKeymapSet {p : List Byte} (h : Derived x t) : Derived x (serveKeymapSet p t).1 := by
  unfold serveKeymapSet
  exact derived_fst_ite h (derived_fst_ite h (derived_fst_ite h h))

theorem derived_serveKeymapGet {p : List Byte} (h : Derived x t) : Derived x (serveKeymapGet p t).1 := by
  unfold serveKeymapGet
  exact derived_fst_ite h (derived_fst_ite h h)

theorem derived_serveBacklightSet {p : List Byte} (h : Derived x t) :
    Derived x (serveBacklightSet p t).1 := by
  unfold serveBacklightSet
  exact derived_fst_ite h (derived_fst_ite h h)

theorem derived_serveWakeConfig {p : List Byte} (h : Derived x t) : Derived x (serveWakeConfig p t).1 := by
  unfold serveWakeConfig
  exact derived_fst_ite h (derived_fst_ite h (derived_fst_ite h (derived_takeWakeConfig h)))

theorem derived_serveWakeStatus {p : List Byte} (h : Derived x t) : Derived x (serveWakeStatus p t).1 := by
  unfold serveWakeStatus
  exact derived_fst_ite h (derived_fst_ite h (derived_takeWakeStatus h))

theorem derived_serveWakeTimerSet {p : List Byte} (h : Derived x t) :
    Derived x (serveWakeTimerSet p t).1 := by
  unfold serveWakeTimerSet
  exact derived_fst_ite h h

theorem derived_serveTransition {p : List Byte} (h : Derived x t) : Derived x (serveTransition p t).1 := by
  unfold serveTransition
  exact derived_fst_ite h (derived_fst_ite h (derived_takeTransition h))

theorem derived_servePlatformSettings {p : List Byte} (h : Derived x t) :
    Derived x (servePlatformSettings p t).1 := by
  unfold servePlatformSettings
  exact derived_fst_ite h (derived_fst_ite (derived_serveTransition h)
    (derived_fst_ite h (derived_takeSeqSettings h)))

theorem derived_serveFaultGet {p : List Byte} (h : Derived x t) : Derived x (serveFaultGet p t).1 := by
  unfold serveFaultGet
  exact derived_fst_ite h (derived_fst_ite h (derived_fst_ite h h))

theorem derived_serveFaultClear {p : List Byte} (h : Derived x t) : Derived x (serveFaultClear p t).1 := by
  unfold serveFaultClear
  exact derived_fst_ite h (derived_fst_ite h
    (derived_releaseAtClear (derived_refreshChargeLed fun hx => derived_clearAndRedetect hx h)))

/-- Masks are no status. -/
theorem severeStatus_masked (f : FaultUnit) (mask : Nat) :
    severeStatus { f with record := f.record.mapIdx fun i r => { r with masked := bitOf mask i } } =
      severeStatus f := by
  simp [severeStatus, FaultUnit.get]

theorem derived_serveFaultMaskSet {p : List Byte} (h : Derived x t) : Derived x (serveFaultMaskSet p t).1 := by
  have masked : Derived x
      { t with flt.record := t.flt.record.mapIdx fun i r => { r with masked := bitOf (le24At p 0) i } } := by
    unfold Derived outputView at h ⊢
    rwa [severeStatus_masked]
  unfold serveFaultMaskSet
  exact derived_fst_ite h (derived_fst_ite h (derived_fst_ite h masked))

theorem derived_serveContainmentSet {p : List Byte} (h : Derived x t) :
    Derived x (serveContainmentSet p t).1 := by
  unfold serveContainmentSet
  refine derived_fst_ite h (derived_fst_ite h ?_)
  split
  · exact h
  · exact h

theorem derived_serveIndicatorSet {p : List Byte} (h : Derived x t) :
    Derived x (serveIndicatorSet p t).1 := by
  unfold serveIndicatorSet
  exact derived_fst_ite h (derived_fst_ite h (derived_setLed h))

/-! ## Bring-up and the controller restart (R188) -/

theorem derived_bringKeyboard (h : Derived x t) : Derived x (bringKeyboard t) := by
  unfold bringKeyboard
  exact derived_withScanner h

theorem derived_bringPosture (h : Derived x t) : Derived x (bringPosture t) := by
  unfold bringPosture
  exact derived_ite (derived_detectMild rfl h) (derived_endFault h)

theorem derived_bringBarrel (h : Derived x t) : Derived x (bringBarrel t) := by
  unfold bringBarrel
  exact derived_ite (derived_updateSource h) h

theorem derived_bringCharge (h : x ≠ .chargeLed → Derived x t) (hx : x ≠ .chargeLed) : Derived x (bringCharge t) := by
  have handed : Derived x { t with chc.handed := t.pks.record } := h hx
  exact (handed.withContext hx _).withContext hx _

theorem derived_bringPackFaults (h : Derived x t) : Derived x (bringPackFaults t) := by
  unfold bringPackFaults
  exact derived_ite h (derived_endFault (derived_endFault (derived_endFault h)))

theorem derived_bringThermal (h : Derived x t) : Derived x (bringThermal t) := by
  unfold bringThermal
  exact derived_convertBoard h

theorem derived_bringFan {i : FanId} (h : Derived x t) : Derived x (bringFan i t) := by
  unfold bringFan
  exact derived_ite (derived_remakeFan h) h

theorem derived_bringConditions (h : Derived x t) : Derived x (bringConditions t) := by
  unfold bringConditions
  exact derived_judgeWakeCondition
    (derived_judgeTrip (derived_endFault (derived_ite h (derived_endFault h))))

theorem derived_bringEnds (h : Derived x t) : Derived x (bringEnds t) := by
  unfold bringEnds
  exact derived_endFault (derived_endFault h)

/-- The bring-up makes all derivations but those of a pack's presence and of RSOC, which the first values have. -/
theorem derived_bringUp (h : x = .presence ∨ x = .rsoc → Derived x t) : Derived x (bringUp t) := by
  unfold bringUp
  extract_lets t1 t2 t3
  refine derived_bringConditions (derived_refreshChargeLed fun hc => derived_refreshPowerLed fun hp =>
    derived_judgeThrottle fun ht => ?_)
  have h1 : Derived x t1 := derived_bringEnds (derived_bringPackFaults (derived_setSwitches fun hs _ =>
    derived_bringBarrel (derived_bringPosture (derived_bringKeyboard (h (by cases x <;> simp_all))))))
  have h2 : Derived x t2 := derived_bringCharge (fun _ => derived_bringThermal h1) hc
  exact derived_bringFan (derived_bringFan h2)

theorem derived_firstPacks {straps : Straps} {i : Inputs} {restart : Bool} (hx : x = .presence ∨ x = .rsoc)
    (h : t.pks = firstPacks straps i restart) : Derived x t := by
  have presence (populated active : Bool) : (packOutput (firstPack populated active)).presenceOk = true := by
    cases populated <;> cases active <;> rfl
  have empty (populated active : Bool) : (firstPack populated active).full = 0 := by
    cases populated <;> cases active <;> rfl
  rcases hx with rfl | rfl
  · simp only [Derived, Derivation.UpToDate, outputView, h]
    exact ⟨presence _ _, presence _ _⟩
  · rw [derived_rsoc_iff, h]
    simp [firstPacks, rsocShare, empty]

/-- After a controller restart nothing is left to be derived, whatever was before (R188). -/
theorem derived_controllerRestart : Derived x (controllerRestart t) :=
  derived_bringUp fun hx => derived_firstPacks hx rfl

/-- Nor is there after a power-on reset (R2). -/
theorem derived_powerOn (straps : Straps) (inputs : Inputs) (pending : List Instr) :
    Derived x (powerOn straps inputs pending) :=
  derived_busGrant (derived_bringUp fun hx => derived_firstPacks hx rfl)

theorem derived_replySent (h : Derived x t) : Derived x (replySent t) := by
  unfold replySent
  split
  · exact h
  · exact derived_ite derived_controllerRestart (derived_takeRoom h)

theorem derived_lineBreaks (h : Derived x t) : Derived x (lineBreaks t) := by
  unfold lineBreaks
  exact derived_ite derived_controllerRestart h

/-! ## The expiries of an idle millisecond (log 1, log 36) -/

theorem derived_whenDue {due : State → Bool} {act : State → State}
    (ha : ∀ {u}, Derived x u → Derived x (act u)) (h : Derived x t) : Derived x (whenDue due act t) := by
  unfold whenDue
  exact derived_ite (derived_offerAtOff (ha h)) h

theorem derived_sourceExpiries (h : Derived x t) : Derived x (sourceExpiries t) := by
  unfold sourceExpiries
  exact derived_foldl _ (derived_whenDue derived_portIntervalEnds)
    (derived_whenDue derived_switchingExpired
      (derived_foldl _ (derived_whenDue derived_sourceSettled) h))

theorem derived_packExpiries (h : Derived x t) : Derived x (packExpiries t) := by
  unfold packExpiries
  exact derived_foldl _
    (fun hu => derived_whenDue derived_pollFalls (derived_whenDue derived_identificationFalls hu))
    (derived_whenDue derived_attemptTimesOut h)

theorem derived_chargeExpiries (h : Derived x t) : Derived x (chargeExpiries t) := by
  unfold chargeExpiries
  exact derived_foldl _
    (fun hu => derived_whenDue derived_limitExpired (derived_whenDue derived_restEnded hu)) h

theorem derived_thermalExpiries (h : Derived x t) : Derived x (thermalExpiries t) := by
  unfold thermalExpiries
  exact derived_foldl _
    (fun hu => derived_whenDue derived_overrideExpired (derived_whenDue id hu))
    (derived_whenDue derived_evaluateFans
      (derived_foldl _ (derived_whenDue derived_freshnessReached) h))

theorem derived_keyExpiries (h : Derived x t) : Derived x (keyExpiries t) := by
  unfold keyExpiries
  exact derived_whenDue derived_typeExpired (derived_whenDue derived_passStarts h)

theorem derived_inputExpiries (h : Derived x t) : Derived x (inputExpiries t) := by
  unfold inputExpiries
  extract_lets t1 t2 t3 t4 t5
  have h1 : Derived x t1 := derived_whenDue derived_lidSettled h
  have h2 : Derived x t2 := derived_whenDue derived_hingeSettled h1
  have h3 : Derived x t3 := derived_whenDue derived_hingeSettled h2
  have h4 : Derived x t4 := derived_whenDue derived_buttonSettled h3
  have h5 : Derived x t5 := derived_whenDue derived_wakeTimerRunsOut h4
  exact derived_whenDue derived_overrideTimeReached h5

theorem derived_sequencerExpiries (h : Derived x t) : Derived x (sequencerExpiries t) := by
  unfold sequencerExpiries
  extract_lets t1 t2 t3 t4
  have h1 : Derived x t1 := derived_whenDue derived_stepWaitExpired h
  have h2 : Derived x t2 := derived_whenDue derived_resetHoldExpired h1
  have h3 : Derived x t3 := derived_whenDue derived_standbyDelayExpired h2
  have h4 : Derived x t4 := derived_whenDue derived_offDelayExpired h3
  exact derived_whenDue derived_restartHoldEnded (derived_whenDue derived_graceExpired h4)

theorem derived_lineExpiries (h : Derived x t) : Derived x (lineExpiries t) := by
  unfold lineExpiries
  exact derived_whenDue derived_gapRunsOut
    (derived_whenDue derived_phaseEnds (derived_whenDue derived_phaseEnds h))

theorem derived_expiries (h : Derived x t) : Derived x (expiries t) := by
  unfold expiries
  exact derived_lineExpiries (derived_sequencerExpiries (derived_inputExpiries (derived_keyExpiries
    (derived_thermalExpiries (derived_chargeExpiries (derived_packExpiries (derived_sourceExpiries h)))))))

theorem chargeOutput_countElapsed (c : ChargeContext) : chargeOutput (countElapsed c) = chargeOutput c := by
  unfold countElapsed
  split
  · rfl
  · split <;> rfl

/-- The counts move nothing that is derived, and nothing that it is derived from. -/
theorem outputView_advance (s : State) : outputView (advance s) = outputView s := by
  have grace : (countSequencer s.psq).grace.isSome = s.psq.grace.isSome := by
    unfold countSequencer shorten
    dsimp only
    split <;> simp
  simp only [outputView, advance, chargeOutput_countElapsed, grace]
  rfl

theorem derived_tick (h : Derived x t) : Derived x (tick t) := by
  unfold tick
  have counted : Derived x (advance t) := by
    unfold Derived
    rwa [outputView_advance]
  exact derived_busGrant (derived_expiries counted)

/-! ## Commands -/

/-- A meaning whose next state has the derivation up to date. -/
def EndsDerived (x : Derivation) (o : Host.Outcome State Fault Refusal) : Prop := ∀ t, o = .next t → Derived x t

/-- What every command leaves for its end leaves every derivation up to date (R21, R138). -/
theorem endsDerived_finish (h : Derived x t) : EndsDerived x (finish s t) := by
  intro u hu
  injection hu with hu
  subst hu
  exact derived_busGrant (derived_offerAtOff h)

theorem endsDerived_request {type : Byte} {payload : List Byte} {serve : List Byte → State → State × List Byte}
    (h : Derived x s) (hs : ∀ {p u}, Derived x u → Derived x (serve p u).1) :
    EndsDerived x (finish s (request type serve payload s)) :=
  endsDerived_finish (derived_request hs h)

/-- Every command leaves every derivation up to date: one arm for each row of the table. -/
theorem exec_endsDerived (c : Instr) (h : Derived x s) : EndsDerived x (exec c s) := by
  cases c with
  | powerOnReset straps inputs =>
    intro t ht
    injection ht with ht
    subst ht
    exact derived_powerOn straps inputs s.pending
  | ping p => exact endsDerived_request h derived_servePing
  | linkStart p => exact endsDerived_request h derived_serveLinkStart
  | statusGet p => exact endsDerived_request h derived_serveStatusGet
  | controllerRestart p => exact endsDerived_finish (derived_receive derived_serveRestart h)
  | linkSetup p => exact endsDerived_request h derived_serveLinkSetup
  | queueRead p => exact endsDerived_request h derived_serveQueueRead
  | attnLevelSet p => exact endsDerived_request h derived_serveAttnLevelSet
  | sourcePolicy p => exact endsDerived_request h derived_serveSourcePolicy
  | sourceStatusGet p => exact endsDerived_request h derived_serveSourceStatusGet
  | packStatusGet p => exact endsDerived_request h derived_servePackStatusGet
  | packSnapshot p => exact endsDerived_request h derived_servePackSnapshot
  | packRead p => exact endsDerived_finish (derived_receive derived_servePackRead h)
  | packWrite p => exact endsDerived_finish (derived_receive derived_servePackWrite h)
  | profileLoad p => exact endsDerived_request h derived_serveProfileLoad
  | profileExtend p => exact endsDerived_request h derived_serveProfileExtend
  | profileGet p => exact endsDerived_request h derived_serveProfileGet
  | profileAbort p => exact endsDerived_request h derived_serveProfileAbort
  | chargePolicy p => exact endsDerived_request h derived_serveChargePolicy
  | budgetGet p => exact endsDerived_request h derived_serveBudgetGet
  | tempSupply p => exact endsDerived_request h derived_serveTempSupply
  | thermalConfig p => exact endsDerived_request h derived_serveThermalConfig
  | fanCurveSet p => exact endsDerived_request h derived_serveFanCurveSet
  | fanOverride p => exact endsDerived_request h derived_serveFanOverride
  | thermalStatusGet p => exact endsDerived_request h derived_serveThermalStatusGet
  | keyConfig p => exact endsDerived_request h derived_serveKeyConfig
  | keyStateGet p => exact endsDerived_request h derived_serveKeyStateGet
  | keymapSet p => exact endsDerived_request h derived_serveKeymapSet
  | keymapGet p => exact endsDerived_request h derived_serveKeymapGet
  | backlightSet p => exact endsDerived_request h derived_serveBacklightSet
  | wakeConfig p => exact endsDerived_request h derived_serveWakeConfig
  | wakeStatus p => exact endsDerived_request h derived_serveWakeStatus
  | wakeTimerSet p => exact endsDerived_request h derived_serveWakeTimerSet
  | platformRequestTransition value => exact endsDerived_request h derived_serveTransition
  | platformRequestSettings p => exact endsDerived_request h derived_servePlatformSettings
  | faultGet p => exact endsDerived_request h derived_serveFaultGet
  | faultClear p => exact endsDerived_request h derived_serveFaultClear
  | faultMaskSet p => exact endsDerived_request h derived_serveFaultMaskSet
  | containmentSet p => exact endsDerived_request h derived_serveContainmentSet
  | indicatorSet p => exact endsDerived_request h derived_serveIndicatorSet
  | unknownType type p => exact endsDerived_request h derived_serveUnknown
  | framingError => exact endsDerived_finish (derived_framingErrors h)
  | byteOverrun => exact endsDerived_finish (derived_byteOverruns h)
  | skippedByte value => exact endsDerived_finish (derived_countError h)
  | gapTimeout taken => exact endsDerived_finish (derived_gapTimesOut h)
  | lengthFault type length => exact endsDerived_finish (derived_faultyFrame h)
  | checkFault type p check => exact endsDerived_finish (derived_faultyFrame h)
  | replySent => exact endsDerived_finish (derived_replySent h)
  | lineBreak => exact endsDerived_finish (derived_lineBreaks h)
  | barrelDetectChange active reading => exact endsDerived_finish (derived_barrelDetect h)
  | adapterIdentificationChange reading => exact endsDerived_finish (derived_adapterChanges h)
  | portAlert port => exact endsDerived_finish (derived_requestRead h)
  | portReadInterval port => exact endsDerived_finish (derived_portIntervalEnds h)
  | settleTimeReached source => exact endsDerived_finish (derived_sourceSettled h)
  | switchingExpiry => exact endsDerived_finish (derived_switchingExpired h)
  | pSysSample reading => exact endsDerived_finish (derived_pSysSampled h)
  | busAttemptEnd result lineHigh => exact endsDerived_finish (derived_busAttemptEnds h)
  | attemptTimeout lineHigh => exact endsDerived_finish (derived_attemptTimesOut h)
  | busRecoveryEnd lineHigh => exact endsDerived_finish (derived_busRecovers h)
  | packPresenceChange pack active => exact endsDerived_finish (derived_presenceChanges h)
  | identificationDue pack => exact endsDerived_finish (derived_identificationFalls h)
  | pollDue pack => exact endsDerived_finish (derived_pollFalls h)
  | channelFaultInputChange pack active => exact endsDerived_finish (derived_channelFaultChanges h)
  | restEnd pack => exact endsDerived_finish (derived_restEnded h)
  | stageLimitExpiry pack => exact endsDerived_finish (derived_limitExpired h)
  | boardConversion cpu charger skin ambient => exact endsDerived_finish (derived_boardConverted h)
  | freshnessTimeReached sensor => exact endsDerived_finish (derived_freshnessReached h)
  | fanEvaluation => exact endsDerived_finish (derived_evaluateFans h)
  | spinUpEnd fan => exact endsDerived_finish h
  | tachWindowEnd fan pulses => exact endsDerived_finish (derived_tachEnded h)
  | overrideExpiry fan => exact endsDerived_finish (derived_overrideExpired h)
  | scanPassStart => exact endsDerived_finish (derived_passStarts h)
  | scanPassEnd samples => exact endsDerived_finish (derived_passEnds h)
  | typematicExpiry => exact endsDerived_finish (derived_typeExpired h)
  | lidInputChange closed => exact endsDerived_finish (derived_lidInput h)
  | lidSettleExpiry => exact endsDerived_finish (derived_lidSettled h)
  | hingeInputChange hinge active => exact endsDerived_finish (derived_hingeInput h)
  | hingeSettleExpiry hinge => exact endsDerived_finish (derived_hingeSettled h)
  | extInputChange input high => exact endsDerived_finish (derived_extInput h)
  | wakeTimerExpiry => exact endsDerived_finish (derived_wakeTimerExpired h)
  | buttonInputChange pressed => exact endsDerived_finish (derived_buttonInput h)
  | buttonSettleExpiry => exact endsDerived_finish (derived_buttonSettled h)
  | overrideTimeReached => exact endsDerived_finish (derived_overrideTimeReached h)
  | spgRise => exact endsDerived_finish (derived_spgRises h)
  | mpgRise => exact endsDerived_finish (derived_mpgRises h)
  | stepWaitExpiry => exact endsDerived_finish (derived_stepWaitExpired h)
  | powerGoodLoss input => exact endsDerived_finish (derived_powerGoodFalls h)
  | resetHoldExpiry => exact endsDerived_finish (derived_resetHoldExpired h)
  | standbyDelayExpiry => exact endsDerived_finish (derived_standbyDelayExpired h)
  | offDelayExpiry => exact endsDerived_finish (derived_offDelayExpired h)
  | graceExpiry => exact endsDerived_finish (derived_graceExpired h)
  | restartHoldEnd => exact endsDerived_finish (derived_restartHoldEnded h)
  | ledPhaseEnd led => exact endsDerived_finish (derived_phaseEnds h)

/-- And so does every step. -/
theorem derived_step (h : Derived x s) (hs : step s = .next t) : Derived x t := by
  cases hp : s.pending with
  | nil =>
    rw [step_idle hp] at hs
    injection hs with hs
    subst hs
    exact derived_tick h
  | cons c rest =>
    rw [step_command hp] at hs
    have taken : Derived x { s with pending := rest } := h
    exact exec_endsDerived c taken t hs

end Sys2Proof.Machine
end

section
/-! The statement that what is derived stays derived. -/

namespace Sys2Proof.Proofs

open Sys2Proof.Machine Sys2Proof.Safety

/-- Settles O14: every derivation stays up to date, and each claim is some of them. -/
theorem rsocSwitchesAndOutputsStayDerived : Obligations.RsocSwitchesAndOutputsStayDerived := by
  intro s t hs
  refine ⟨fun rsoc => derived_step (x := .rsoc) rsoc hs, fun switches => ?_, fun outputs => ?_⟩
  · obtain ⟨presence, switches⟩ := derived_switches_iff.mp switches
    exact derived_switches_iff.mpr ⟨derived_step presence hs, derived_step switches hs⟩
  · obtain ⟨throttle, power, charge⟩ := derived_outputs_iff.mp outputs
    exact derived_outputs_iff.mpr ⟨derived_step throttle hs, derived_step power hs, derived_step charge hs⟩

end Sys2Proof.Proofs
end

section
/-! The end of every command gives out a free bus (R21), so that no step leaves work waiting for one. -/

namespace Sys2Proof.Machine

open Sys2Proof.Safety

variable {s t u : State}

/-! ## A grant begins a transaction (R19, R21) -/

@[simp] theorem startAttempt_running (a : Transaction) (s : State) :
    (startAttempt a s).pbc.running.isSome = true := by
  unfold startAttempt
  split <;> rfl

@[simp] theorem startTransaction_running (d : BusDevice) (passthrough : Bool) (op : BusOp) (s : State) :
    (startTransaction d passthrough op s).pbc.running.isSome = true :=
  startAttempt_running _ _

theorem beginTurn_running {d : BusDevice} {w : TurnWork} {ops : List BusOp} (h : ops ≠ []) (s : State) :
    (beginTurn d w ops s).pbc.running.isSome = true := by
  cases ops with
  | nil => exact absurd rfl h
  | cons op rest => exact startTransaction_running _ _ _ _

/-- What makes a pack's poller due gives its turn a first transaction. -/
theorem packDue_ops {p : PackId} (h : packDue s p = true) :
    switchOps (s.pks.record.get p) ++ (turnReads (s.pks.schedule.get p)).2 ≠ [] := by
  unfold packDue at h
  obtain ⟨present, work⟩ := Bool.and_eq_true_iff.mp h
  simp only [Bool.or_eq_true, Bool.not_eq_true'] at work
  obtain (unwritten | ident) | poll := work
  · simp [switchOps, switchDue, present, unwritten]
  · simp [turnReads, ident, identReads]
  · by_cases ident : (s.pks.schedule.get p).identDue = true <;> simp [turnReads, poll, ident, pollReads, identReads]

theorem beginPollerTurn_running {d : BusDevice} (h : pollerDue s d = true) :
    (beginPollerTurn d s).pbc.running.isSome = true := by
  cases d with
  | packA | packB => exact beginTurn_running (packDue_ops h) _
  | port1 | port2 => exact beginTurn_running (by simp) _

/-- The rotation passes every poller. -/
theorem mem_rotation (d last : BusDevice) : d ∈ rotation last := by
  cases last <;> cases d <;> decide

/-- The bus is at work, or no turn is in progress and no poller is due. -/
def BusServed (s : State) : Prop :=
  s.pbc.running.isSome = true ∨ (s.pbc.turn = none ∧ ∀ d, pollerDue s d = false)

theorem grantPoller_served (h : s.pbc.turn = none) : BusServed (grantPoller s) := by
  unfold grantPoller
  split
  next d found => exact .inl (beginPollerTurn_running (List.find?_some found))
  next idle =>
    exact .inr ⟨h, fun d => Bool.eq_false_iff.mpr (List.find?_eq_none.mp idle d (mem_rotation d _))⟩

theorem grantTurn_served (s : State) : BusServed (grantTurn s) := by
  unfold grantTurn
  split
  · split
    · exact .inl (startTransaction_running _ _ _ _)
    · exact grantPoller_served rfl
  next free => exact grantPoller_served free

/-! ## What a grant leaves (R20, R21, R26) -/

/-- The waits of a pack's schedule, which no turn touches. -/
def waitsOf (x : PackSchedule) : Option Nat × Option Nat := (x.identLeft, x.pollLeft)

/-- The bus is given out, from `s` to `t`: the passthrough slot and the packs' waits stand; and where the data line is
low, so do the fault table and the count of failed recoveries, and a transaction that begins does so with a recovery
(R20). -/
structure GivenOut (s t : State) : Prop where
  slot : t.pbc.slot = s.pbc.slot
  waits : ∀ p, waitsOf (t.pks.schedule.get p) = waitsOf (s.pks.schedule.get p)
  low : s.inputs.busLineHigh = false → t.flt = s.flt ∧ t.pbc.recoveryFails = s.pbc.recoveryFails ∧
    ∀ x, t.pbc.running = some x → x.second = false ∧ x.recovering = true

theorem GivenOut.idle (h : s.pbc.running = none) : GivenOut s s where
  slot := rfl
  waits _ := rfl
  low _ := ⟨rfl, rfl, fun x hx => by simp [h] at hx⟩

/-- A change of what is due, and of the turn, before a transaction begins. -/
theorem GivenOut.after (h : GivenOut t u) (slot : t.pbc.slot = s.pbc.slot)
    (waits : ∀ p, waitsOf (t.pks.schedule.get p) = waitsOf (s.pks.schedule.get p))
    (line : t.inputs.busLineHigh = s.inputs.busLineHigh) (flt : t.flt = s.flt)
    (fails : t.pbc.recoveryFails = s.pbc.recoveryFails) : GivenOut s u where
  slot := h.slot.trans slot
  waits p := (h.waits p).trans (waits p)
  low low := by
    obtain ⟨sameFlt, sameFails, begun⟩ := h.low (line.trans low)
    exact ⟨sameFlt.trans flt, sameFails.trans fails, begun⟩

theorem givenOut_startTransaction (d : BusDevice) (passthrough : Bool) (op : BusOp) (s : State) :
    GivenOut s (startTransaction d passthrough op s) := by
  unfold startTransaction startAttempt
  split
  next high => exact ⟨rfl, fun _ => rfl, fun low => by simp [high] at low⟩
  next =>
    refine ⟨rfl, fun _ => rfl, fun _ => ⟨rfl, rfl, fun x hx => ?_⟩⟩
    obtain rfl := Option.some.inj hx
    exact ⟨rfl, rfl⟩

theorem givenOut_beginTurn {d : BusDevice} {w : TurnWork} {ops : List BusOp} (h : s.pbc.running = none) :
    GivenOut s (beginTurn d w ops s) := by
  cases ops with
  | nil => exact .idle h
  | cons op rest => exact (givenOut_startTransaction d false op _).after rfl (fun _ => rfl) rfl rfl rfl

theorem givenOut_beginPollerTurn {d : BusDevice} (h : s.pbc.running = none) : GivenOut s (beginPollerTurn d s) := by
  have pack (p : PackId) : GivenOut s (beginPackTurn p s) :=
    (givenOut_beginTurn (by exact h)).after rfl (fun q => by cases p <;> cases q <;> rfl) rfl rfl rfl
  have port (p : PortId) : GivenOut s (beginPortTurn p s) :=
    (givenOut_beginTurn (by exact h)).after rfl (fun _ => rfl) rfl rfl rfl
  cases d with
  | packA | packB => exact pack _
  | port1 | port2 => exact port _

theorem givenOut_grantPoller (h : s.pbc.running = none) : GivenOut s (grantPoller s) := by
  unfold grantPoller
  split
  · exact givenOut_beginPollerTurn h
  · exact .idle h

theorem givenOut_grantTurn (h : s.pbc.running = none) : GivenOut s (grantTurn s) := by
  unfold grantTurn
  split
  · split
    · exact (givenOut_startTransaction _ _ _ _).after rfl (fun _ => rfl) rfl rfl rfl
    · exact (givenOut_grantPoller (by exact h)).after rfl (fun _ => rfl) rfl rfl rfl
  · exact givenOut_grantPoller h

/-- The end of a command with the slot empty. -/
theorem givenOut_busGrant (h : s.pbc.running = none) (hq : s.pbc.slot = none) : GivenOut s (busGrant s) := by
  unfold busGrant
  rw [h, hq]
  exact givenOut_grantTurn h

/-- Whatever the slot holds, the packs' waits stand. -/
theorem busGrant_waits (s : State) (p : PackId) :
    waitsOf ((busGrant s).pks.schedule.get p) = waitsOf (s.pks.schedule.get p) := by
  unfold busGrant
  split
  · rfl
  next free =>
    have idle : s.pbc.running = none := by simpa using free
    split
    · split
      · exact (givenOut_grantTurn idle).waits p
      · exact (givenOut_startTransaction _ _ _ _).waits p
    · exact (givenOut_grantTurn idle).waits p

/-- And where the data line is low, a free bus begins with a recovery, if with anything. -/
theorem busGrant_low (h : s.pbc.running = none) (low : s.inputs.busLineHigh = false) :
    (busGrant s).flt = s.flt ∧ (busGrant s).pbc.recoveryFails = s.pbc.recoveryFails ∧
      ∀ x, (busGrant s).pbc.running = some x → x.second = false ∧ x.recovering = true := by
  unfold busGrant
  rw [h]
  split
  next running => cases running
  next =>
    split
    · split
      · exact (givenOut_grantTurn h).low low
      · exact (givenOut_startTransaction _ _ _ _).low low
    · exact (givenOut_grantTurn h).low low

/-- The arbiter leaves a bus that is at work, or that nothing waits for (R21). -/
theorem busGrant_settles (s : State) : busSettled (busGrant s) = true := by
  have settled {u : State} (served : BusServed u) (slot : ∀ q, u.pbc.slot = some q → q.running = true) :
      busSettled u = true := by
    unfold busSettled
    obtain running | ⟨turn, due⟩ := served
    · simp [running]
    · cases hq : u.pbc.slot with
      | none => simp [turn, due]
      | some q => simp [turn, due, slot q hq]
  unfold busGrant
  split
  next running => simp [busSettled, running]
  next free =>
    have slot := (givenOut_grantTurn (s := s) (by simpa using free)).slot
    split
    next q waits =>
      split
      next taken =>
        refine settled (grantTurn_served s) fun r hr => ?_
        rw [slot, waits] at hr
        exact Option.some.inj hr ▸ taken
      next => simp [busSettled]
    next empty =>
      refine settled (grantTurn_served s) fun r hr => ?_
      rw [slot, empty] at hr
      cases hr

/-- Every step ends in the grant of a free bus (R21). -/
theorem step_ends_in_grant (h : step s = .next t) : ∃ u, t = busGrant u := by
  cases hp : s.pending with
  | nil =>
    rw [step_idle hp] at h
    injection h with h
    exact ⟨_, h.symm⟩
  | cons c rest =>
    rw [step_command hp] at h
    cases c <;> (injection h with h; exact ⟨_, h.symm⟩)

end Sys2Proof.Machine
end

section
/-! The statement that the bus never idles over due work. -/

namespace Sys2Proof.Proofs

open Sys2Proof.Machine Sys2Proof.Safety

/-- Settles O5: every step ends in a grant, and a grant leaves a settled bus. -/
theorem busNeverIdlesOverDueWork : Obligations.BusNeverIdlesOverDueWork := by
  intro s t hs
  obtain ⟨u, rfl⟩ := step_ends_in_grant hs
  exact busGrant_settles u

end Sys2Proof.Proofs
end

section
/-! The statement about the passthrough requests: what enters the slot, and what is refused. -/

namespace Sys2Proof.Proofs

open Sys2Proof.Machine Sys2Proof.Safety

variable {s t : State}

/-! ## A command while the bus is at work -/

theorem busSettled_of_running (h : s.pbc.running.isSome = true) : busSettled s = true := by
  simp [busSettled, h]

/-- A command that stays out of OFF's arrival, and keeps the bus at work, ends as its own effect leaves it. -/
theorem finish_running (running : t.pbc.running.isSome = true) (state : t.psq.state = s.psq.state) :
    finish s t = .next t :=
  congrArg Host.Outcome.next (conclude_settled s t state (busSettled_of_running running))

/-! ## The checks of R34 -/

theorem deviceOf_code (d : BusDevice) : deviceOf (byteOf d.code).toNat = some d := by
  cases d <;> rfl

theorem deviceOf_outside {n : Nat} (h : 3 < n) : deviceOf n = none := by
  match n, h with
  | n + 4, _ => rfl

theorem readOp_pos (command : Byte) {count : Nat} (h : count ≠ 0) :
    readOp command count = some (.readBlock command (min 32 count)) := by
  simp [readOp, h]

theorem servePackRead_eq (device command count : Byte) (s : State) :
    servePackRead [device, command, count] s =
      servePassthrough 0x22 (deviceOf device.toNat) (readOp command count.toNat) (decide (32 < count.toNat)) s := by
  simp [servePackRead, byteAt, byteOf_toNat]

theorem servePackWrite_eq (device command : Byte) {data : List Byte} (h1 : 1 ≤ data.length) (h2 : data.length ≤ 32)
    (s : State) :
    servePackWrite (device :: command :: data) s =
      servePassthrough 0x23 (deviceOf device.toNat) (some (.writeBlock command data)) false s := by
  have length : ¬((device :: command :: data).length < 3 ∨ 34 < (device :: command :: data).length) := by
    simp only [List.length_cons]
    omega
  unfold servePackWrite
  rw [if_neg length]
  simp [byteAt, byteOf_toNat]

theorem servePassthrough_there {d : BusDevice} (h : devicePresent s d = true) (type : Byte) (op : BusOp)
    (adjusted : Bool) : servePassthrough type (some d) (some op) adjusted s = enterSlot type d op adjusted s := by
  simp [servePassthrough, h]

theorem servePassthrough_absent {d : BusDevice} (h : devicePresent s d = false) (type : Byte) (op : BusOp)
    (adjusted : Bool) :
    servePassthrough type (some d) (some op) adjusted s = deliver (replyTo type [stNotPresent]) s := by
  simp [servePassthrough, h]

theorem servePassthrough_noDevice (type : Byte) (op : Option BusOp) (adjusted : Bool) (s : State) :
    servePassthrough type none op adjusted s = deliver (replyTo type [stBadValue]) s := rfl

theorem servePassthrough_noOp (type : Byte) (d : Option BusDevice) (adjusted : Bool) (s : State) :
    servePassthrough type d none adjusted s = deliver (replyTo type [stBadValue]) s := by
  cases d <;> rfl

/-- A request that is served on an idle link while the bus is at work. -/
theorem finish_receive_running {type : Byte} {p : List Byte} {serve : State → State} (idle : linkIdle s = true)
    (served : serve (huntAgain s) = t) (running : t.pbc.running.isSome = true) (state : t.psq.state = s.psq.state) :
    finish s (receive type p serve s) = .next t := by
  rw [receive_free _ _ _ _ (linkIdle_assemblyWaits idle) (linkIdle_serviceFree idle), served]
  exact finish_running running state

/-- Settles O35: the request enters the slot, or is refused by the first check that fails. -/
theorem passthroughEntersItsSlot : Obligations.PassthroughEntersItsSlot := by
  intro d device command count data s idle running slotted there
  have present : there ↔ devicePresent (huntAgain s) d = true := by
    cases d <;> simp [there, devicePresent, huntAgain]
  have counts (h : count ≠ 0) : count.toNat ≠ 0 := fun zero => h (BitVec.eq_of_toNat_eq zero)
  have refused (status : Byte) (type : Byte) {p : List Byte} {serve : State → State}
      (served : serve (huntAgain s) = deliver (replyTo type [status]) (huntAgain s)) :
      finish s (receive type p serve s) = .next (answered type [status] s) :=
    finish_receive_running idle (served.trans (deliver_huntAgain type [status] s idle)) running rfl
  refine ⟨fun here counted => ?reads, fun here h1 h2 => ?writes, fun gone counted => ?absent, fun bad => ?bad⟩
  case reads =>
    refine finish_receive_running idle ?_ running rfl
    rw [servePackRead_eq, deviceOf_code, readOp_pos _ (counts counted), servePassthrough_there (present.mp here)]
    rfl
  case writes =>
    refine finish_receive_running idle ?_ running rfl
    rw [servePackWrite_eq _ _ h1 h2, deviceOf_code, servePassthrough_there (present.mp here)]
    rfl
  case absent =>
    refine refused stNotPresent 0x22 ?_
    rw [servePackRead_eq, deviceOf_code, readOp_pos _ (counts counted),
      servePassthrough_absent (Bool.eq_false_iff.mpr fun h => gone (present.mpr h))]
  case bad =>
    refine refused stBadValue 0x22 ?_
    rw [servePackRead_eq]
    obtain outside | rfl := bad
    · rw [deviceOf_outside outside, servePassthrough_noDevice]
    · exact servePassthrough_noOp _ _ _ _

end Sys2Proof.Proofs
end

section
/-! What the platform's operations leave of the other blocks' work: each lemma `steady_<operation>` carries the relation
`Steady` across one of them, as Reach.lean carries the blocks that they do not touch at all. -/

namespace Sys2Proof.Machine

open Sys2Proof.Safety

/-! ## The relation -/

/-- Charge states are those of R41, and no channel has a target but while its pack is CHARGING (R57). -/
def ChargeSettled (s : State) : Prop :=
  ∀ p, (s.chc.context.get p).state = chargeStateOf (s.chc.handed.get p) (s.chc.context.get p) (barsOf s p) ∧
    ((s.chc.context.get p).state ≠ .charging →
      (s.chc.context.get p).targetCurrent = 0 ∧ (s.chc.context.get p).targetVoltage = 0)

/-- A pack's next poll is one interval of R26 away, outside ON. -/
def Paced (s : State) (p : PackId) : Prop :=
  (s.pks.schedule.get p).pollLeft = some (if (s.chc.context.get p).state = .charging then 1000 else 10000) ∧
    s.psq.state ≠ .on

/-- A charge context less what CHC derives and hands to the channel. -/
def profileOf (c : ChargeContext) : ChargeContext :=
  { c with state := .absent, causes := noBars, targetCurrent := 0, targetVoltage := 0 }

/-- A fault record less its active field. -/
def inactive (r : FaultRecord) : FaultRecord := { r with active := false }

/-- The kinds whose end THU judges for itself as the platform leaves ON (R71, R73). -/
abbrev EndsWithOn (k : FaultKind) : Prop := k = .supplyStale ∨ k = .thermalTrip

/-- A SEVERE kind outside `ks` is active, and does not end where the platform state may have changed (`moved`). -/
def HeldBy (moved : Prop) (ks : List FaultKind) (s : State) : Prop :=
  ∃ k : FaultKind, k.severe = true ∧ k ∉ ks ∧ (moved → ¬EndsWithOn k) ∧ (s.flt.get k).active = true

/-- Between the two states the platform has been at work, and faults of the kinds `ks` may have been recorded; `moved`
says whether the platform state may have changed, and `severe` whether SEVERE faults may have been recorded, with their
containment. -/
structure Steady (moved severe : Prop) (ks : List FaultKind) (s t : State) : Prop where
  platform : OnlyPlatform s t
  fault : ∀ k, k ∉ memoryKinds → k ∉ ks → inactive (t.flt.get k) = inactive (s.flt.get k)
  active : ∀ k, k ∉ memoryKinds → k ∉ ks → (moved → ¬EndsWithOn k) →
    (t.flt.get k).active = (s.flt.get k).active
  ended : ∀ k, k ∉ memoryKinds → k ∉ ks → (t.flt.get k).active = true → (s.flt.get k).active = true
  mode : t.flt.mode = s.flt.mode
  level : HeldBy moved ks s → s.flt.level ≠ .none →
    t.flt.level ≠ .none ∧ (s.flt.level = .shed → t.flt.level = .shed)
  released : ¬severe → s.flt.level = .none → t.flt.level = .none
  rest : ¬moved → t.psq.state = s.psq.state
  off : ¬severe → t.psq.state = .off → s.psq.state = .off
  stop : t.psq.state = .off → s.psq.state ≠ .off → t.psq.lastStop = .containment
  lastStop : t.psq.lastStop = s.psq.lastStop ∨ t.psq.lastStop = .containment
  status : ∀ i, (s.lwu.get i).status = true → (t.lwu.get i).status = true
  profile : ∀ p, profileOf (t.chc.context.get p) = profileOf (s.chc.context.get p)
  settled : ChargeSettled s → ChargeSettled t
  schedule : ∀ p, ∃ fast, t.pks.schedule.get p = hasten fast (s.pks.schedule.get p)
  paced : ¬severe → ChargeSettled s → ∀ p, Paced s p → Paced t p
  policy : t.chc.policy = s.chc.policy
  settings : t.thu.settings = s.thu.settings
  derate : t.thu.derate = s.thu.derate
  sensor : ∀ p : PackId, t.thu.sensors[p.sensor] = s.thu.sensors[p.sensor]

variable {moved severe : Prop} {ks : List FaultKind} {s t u : State}

theorem hasten_hasten (a b : Bool) (x : PackSchedule) : hasten a (hasten b x) = hasten (a || b) x := by
  cases a <;> cases b <;> try rfl
  simp only [hasten, Bool.or_self, if_true, Option.map_map]
  congr 2
  funext n
  simp

theorem Steady.refl (s : State) : Steady moved severe ks s s where
  platform := .refl s
  fault _ _ _ := rfl
  active _ _ _ _ := rfl
  ended _ _ _ := id
  mode := rfl
  level _ h := ⟨h, id⟩
  released _ := id
  rest _ := rfl
  off _ := id
  stop h n := absurd h n
  lastStop := .inl rfl
  status _ := id
  profile _ := rfl
  settled := id
  schedule _ := ⟨false, rfl⟩
  paced _ _ _ := id
  policy := rfl
  settings := rfl
  derate := rfl
  sensor _ := rfl

theorem Steady.heldBy (h : Steady moved severe ks s t) (held : HeldBy moved ks s) : HeldBy moved ks t := by
  obtain ⟨k, sev, hk, lasts, active⟩ := held
  have mild : k ∉ memoryKinds := fun hm => by simp [memoryKinds_mild hm] at sev
  exact ⟨k, sev, hk, lasts, (h.active k mild hk lasts).trans active⟩

theorem Steady.trans (h : Steady moved severe ks s t) (g : Steady moved severe ks t u) :
    Steady moved severe ks s u where
  platform := h.platform.trans g.platform
  fault k hm hk := (g.fault k hm hk).trans (h.fault k hm hk)
  active k hm hk h1 := (g.active k hm hk h1).trans (h.active k hm hk h1)
  ended k hm hk e := h.ended k hm hk (g.ended k hm hk e)
  mode := g.mode.trans h.mode
  level held hl := by
    obtain ⟨raised, shed⟩ := h.level held hl
    obtain ⟨raised', shed'⟩ := g.level (h.heldBy held) raised
    exact ⟨raised', fun e => shed' (shed e)⟩
  released hs e := g.released hs (h.released hs e)
  rest hm := (g.rest hm).trans (h.rest hm)
  off hs e := h.off hs (g.off hs e)
  stop e n := by
    by_cases off : t.psq.state = .off
    · exact g.lastStop.elim (fun same => same.trans (h.stop off n)) id
    · exact g.stop e off
  lastStop := g.lastStop.elim (fun same => h.lastStop.imp same.trans same.trans) .inr
  status i hi := g.status i (h.status i hi)
  profile p := (g.profile p).trans (h.profile p)
  settled e := g.settled (h.settled e)
  schedule p := by
    obtain ⟨a, ha⟩ := h.schedule p
    obtain ⟨b, hb⟩ := g.schedule p
    exact ⟨b || a, by rw [hb, ha, hasten_hasten]⟩
  paced hs e p hp := g.paced hs (h.settled e) p (h.paced hs e p hp)
  policy := g.policy.trans h.policy
  settings := g.settings.trans h.settings
  derate := g.derate.trans h.derate
  sensor p := (g.sensor p).trans (h.sensor p)

theorem eq_of_inactive {x y : FaultRecord} (h : inactive x = inactive y) (active : x.active = y.active) : x = y := by
  cases x
  cases y
  simp_all [inactive]

/-- The whole record of a kind outside `ks`. -/
theorem Steady.record (h : Steady moved severe ks s t) {k : FaultKind} (hm : k ∉ memoryKinds) (hk : k ∉ ks)
    (lasts : moved → ¬EndsWithOn k) : t.flt.get k = s.flt.get k :=
  eq_of_inactive (h.fault k hm hk) (h.active k hm hk lasts)

/-- More may have happened. -/
theorem Steady.mono {moved' severe' : Prop} {js : List FaultKind} (h : Steady moved severe ks s t)
    (hm : moved → moved') (hs : severe → severe') (sub : ∀ k ∈ ks, k ∈ js) : Steady moved' severe' js s t :=
  { h with
    fault := fun k mild hk => h.fault k mild fun hj => hk (sub k hj)
    active := fun k mild hk lasts => h.active k mild (fun hj => hk (sub k hj)) fun m => lasts (hm m)
    ended := fun k mild hk => h.ended k mild fun hj => hk (sub k hj)
    level := fun ⟨k, sev, hk, lasts, active⟩ =>
      h.level ⟨k, sev, fun hj => hk (sub k hj), fun m => lasts (hm m), active⟩
    rest := fun n => h.rest fun m => n (hm m)
    released := fun n => h.released fun e => n (hs e)
    off := fun n => h.off fun e => n (hs e)
    paced := fun n => h.paced fun e => n (hs e) }

/-- The fields that `Steady` is about, beside those that the platform does not touch. -/
def steadyView (s : State) : (Vector FaultRecord 20 × ContainmentMode × ContainmentLevel) ×
    (PlatformState × StopCause) × Vector WakeEntry 11 × PerPack ChargeContext × PerPack PackSchedule × ChargePolicy ×
    (ThermalSettings × Nat × SensorRecord × SensorRecord) :=
  ((s.flt.record, s.flt.mode, s.flt.level), (s.psq.state, s.psq.lastStop), s.lwu.table, s.chc.context, s.pks.schedule,
    s.chc.policy, (s.thu.settings, s.thu.derate, s.thu.sensors[6], s.thu.sensors[7]))

theorem barsOf_eq (platform : OnlyPlatform s t) (level : t.flt.level = s.flt.level)
    (derate : t.thu.derate = s.thu.derate) (p : PackId) : barsOf t p = barsOf s p := by
  have inputs : channelFault t.inputs p = channelFault s.inputs p := by
    rw [platform]
    cases p <;> rfl
  simp only [barsOf, platform.srs, platform.handed, level, derate, inputs]

/-- An operation of the platform that touches none of those fields. -/
theorem Steady.untouched (h : Steady moved severe ks s t) (platform : OnlyPlatform t u)
    (e : steadyView u = steadyView t) :
    Steady moved severe ks s u := by
  simp only [steadyView, Prod.mk.injEq] at e
  obtain ⟨⟨record, mode, level⟩, ⟨state, stop⟩, table, context, schedule, policy, settings, derate, sensorA,
    sensorB⟩ := e
  have fault (k : FaultKind) : u.flt.get k = t.flt.get k := by simp only [FaultUnit.get, record]
  refine h.trans
    { platform, mode, policy, settings, derate
      fault := fun k _ _ => by rw [fault]
      active := fun k _ _ _ => by rw [fault]
      ended := fun k _ _ => by rw [fault]; exact id
      level := fun _ e => ⟨level ▸ e, fun e => level.trans e⟩
      released := fun _ e => level.trans e
      rest := fun _ => state
      off := fun _ e => state ▸ e
      stop := fun e n => absurd (state ▸ e) n
      lastStop := .inl stop
      status := fun i => by simp only [WakeUnit.get, table]; exact id
      profile := fun p => by rw [context]
      settled := fun e p => by
        simpa only [context, platform.handed, barsOf_eq platform level derate] using e p
      schedule := fun p => ⟨false, by rw [schedule]; rfl⟩
      paced := fun _ _ p => by simp only [Paced, schedule, context, state]; exact id
      sensor := fun p => by cases p; exacts [sensorA, sensorB] }

theorem steady_ite {c : Prop} [Decidable c] (h : Steady moved severe ks s t) (g : Steady moved severe ks s u) :
    Steady moved severe ks s (if c then t else u) := by
  split
  · exact h
  · exact g

theorem steady_foldl {α : Type} {f : State → α → State} (xs : List α)
    (hf : ∀ {u y}, Steady moved severe ks s u → Steady moved severe ks s (f u y)) (h : Steady moved severe ks s t) :
    Steady moved severe ks s (xs.foldl f t) := by
  induction xs generalizing t with
  | nil => exact h
  | cons y ys ih => exact ih (hf h)

/-! ## Reports and faults -/

/-- Notices and detections of kinds that are not SEVERE. -/
theorem KeepsBeside.steady (g : KeepsBeside (ks ++ memoryKinds) t u) (h : Steady moved severe ks s t) :
    Steady moved severe ks s u := by
  have frame := g.reports
  have fault (k : FaultKind) (hm : k ∉ memoryKinds) (hk : k ∉ ks) : u.flt.get k = t.flt.get k :=
    g.fault k (by simp [hm, hk])
  have level : u.flt.level = t.flt.level := by rw [frame]
  refine h.trans
    { platform := frame.onlyPlatform
      fault := fun k hm hk => by rw [fault k hm hk]
      active := fun k hm hk _ => by rw [fault k hm hk]
      ended := fun k hm hk => by rw [fault k hm hk]; exact id
      mode := by rw [frame]
      level := fun _ e => ⟨level ▸ e, fun e => level.trans e⟩
      released := fun _ e => level.trans e
      rest := fun _ => by rw [frame]
      off := fun _ e => by rw [frame] at e; exact e
      stop := fun e n => absurd (by rw [frame] at e; exact e) n
      lastStop := .inl (by rw [frame])
      status := fun i e => by rw [frame]; exact e
      profile := fun p => by rw [frame]
      settled := fun e p => by
        have bars := barsOf_eq frame.onlyPlatform level (by rw [frame]) p
        rw [bars, frame]
        exact e p
      schedule := fun p => ⟨false, by rw [frame]; rfl⟩
      paced := fun _ _ p e => by rw [frame]; exact e
      policy := by rw [frame]
      settings := by rw [frame]
      derate := by rw [frame]
      sensor := fun p => by rw [frame] }

theorem steady_raise {n : Notice} (h : Steady moved severe ks s t) : Steady moved severe ks s (raise n t) :=
  ((keepsBeside_raise n t).mono (by simp +contextual)).steady h

theorem steady_raiseAll {ns : List Notice} (h : Steady moved severe ks s t) :
    Steady moved severe ks s (raiseAll ns t) :=
  ((keepsBeside_raiseAll ns t).mono (by simp +contextual)).steady h

theorem steady_detectMild {k : FaultKind} {detail : Byte} (hk : k ∈ ks) (h : Steady moved severe ks s t) :
    Steady moved severe ks s (detectMild k detail t) :=
  ((keepsBeside_detectMild k detail t).mono (by simp [hk]; tauto)).steady h

theorem steady_refreshChargeLed (h : Steady moved severe ks s t) : Steady moved severe ks s (refreshChargeLed t) :=
  h.untouched rfl rfl

/-- A record of a kind in `ks` is replaced. -/
theorem steady_setFault {k : FaultKind} {r : FaultRecord} (hk : k ∈ ks) (h : Steady moved severe ks s t) :
    Steady moved severe ks s { t with flt := t.flt.set k r } := by
  have other {j : FaultKind} (hj : j ∉ ks) : (t.flt.set k r).get j = t.flt.get j :=
    FaultUnit.get_set_ne _ _ fun e => hj (e ▸ hk)
  exact h.trans
    { Steady.refl t with
      platform := rfl
      fault := fun j _ hj => congrArg inactive (other hj)
      active := fun j _ hj _ => congrArg FaultRecord.active (other hj)
      ended := fun j _ hj e => (congrArg FaultRecord.active (other hj)).symm.trans e }

/-- A fault that THU judges ends with ON. -/
theorem steady_endWithOn {k : FaultKind} (hm : moved) (hk : EndsWithOn k) (h : Steady moved severe ks s t) :
    Steady moved severe ks s (endFault k t) := by
  have other {j : FaultKind} (hj : j ≠ k) : (endFault k t).flt.get j = t.flt.get j := FaultUnit.get_set_ne _ _ hj
  have same : (endFault k t).flt.get k = { t.flt.get k with active := false } := FaultUnit.get_set_same _ _ _
  refine h.trans
    { Steady.refl t with
      platform := rfl
      fault := fun j _ _ => ?_
      active := fun j _ _ lasts => congrArg FaultRecord.active (other fun e => lasts hm (e ▸ hk))
      ended := fun j _ _ e => ?_ }
  · by_cases e : j = k
    · rw [e, same]
      rfl
    · rw [other e]
  · by_cases hj : j = k
    · rw [hj, same] at e
      cases e
    · rw [other hj] at e
      exact e

/-! ## Fans and keys -/

theorem steady_remakeFan {i : FanId} (h : Steady moved severe ks s t) : Steady moved severe ks s (remakeFan i t) := by
  unfold remakeFan
  exact steady_ite (h.untouched rfl rfl) h

theorem steady_remakeDuties (h : Steady moved severe ks s t) : Steady moved severe ks s (remakeDuties t) :=
  steady_remakeFan (steady_remakeFan h)

theorem steady_fansTakeState {leaving : Bool} (h : Steady moved severe ks s t) :
    Steady moved severe ks s (fansTakeState leaving t) := by
  have cancelled {i : FanId} {u : State} (hu : Steady moved severe ks s u) :
      Steady moved severe ks s (cancelOverride i u) := by
    unfold cancelOverride setOverride
    exact steady_ite hu (steady_raiseAll (steady_remakeFan (hu.untouched rfl rfl)))
  unfold fansTakeState
  exact steady_remakeDuties (steady_ite (cancelled (cancelled h)) h)

/-- A keyboard, whatever it is. -/
theorem steady_withKeyboard {k : Scanner} {r : Reporter} (h : Steady moved severe ks s t) :
    Steady moved severe ks s { t with kbs := k, krp := r } :=
  h.untouched rfl rfl

theorem steady_handRelease {synthetic : Bool} {p : Position} {code : Byte} {layer : Bool}
    (h : Steady moved severe ks s t) : Steady moved severe ks s (handRelease synthetic p code layer t) := by
  have offered {e : KeyEvent} : Steady moved severe ks s (offerKey e t) := by
    unfold offerKey
    exact steady_ite (h.untouched rfl rfl) (h.untouched rfl rfl)
  unfold handRelease typeRelease queueEvent
  exact steady_ite (steady_ite (offered.untouched rfl rfl) offered) (h.untouched rfl rfl)

theorem steady_setScanMode {m : ScanMode} (h : Steady moved severe ks s t) :
    Steady moved severe ks s (setScanMode m t) := by
  unfold setScanMode
  exact steady_ite h (h.untouched rfl rfl)

theorem steady_syntheticRelease {p : Position} (h : Steady moved severe ks s t) :
    Steady moved severe ks s (syntheticRelease t p) := by
  unfold syntheticRelease
  have latent : Steady moved severe ks s (setKey p (silentKey .latent) t) := steady_withKeyboard h
  exact steady_handRelease latent

theorem steady_beginSuppression {m : ScanMode} (h : Steady moved severe ks s t) :
    Steady moved severe ks s (beginSuppression m t) := by
  unfold beginSuppression
  have released := steady_foldl (f := syntheticRelease) (reportedSet (setScanMode m t).kbs) steady_syntheticRelease
    (steady_setScanMode (m := m) h)
  exact released.untouched rfl rfl

theorem steady_updateKeyboard (h : Steady moved severe ks s t) : Steady moved severe ks s (updateKeyboard t) := by
  unfold updateKeyboard
  have taken : ∀ x y, Steady moved severe ks s { t with kbs.suppression := x, kbs.freshStart := y } :=
    fun _ _ => steady_withKeyboard h
  exact steady_ite (steady_beginSuppression (taken _ _))
    (steady_ite (steady_withKeyboard (steady_setScanMode (taken _ _))) (steady_setScanMode (taken _ _)))

/-! ## Wake sources and sensors -/

/-- The wake table is replaced, and every status that was set is still set. -/
theorem steady_withWake {w : WakeUnit} (hw : ∀ i, (t.lwu.get i).status = true → (w.get i).status = true)
    (h : Steady moved severe ks s t) : Steady moved severe ks s { t with lwu := w } :=
  h.trans { Steady.refl t with platform := rfl, status := hw }

theorem steady_markSource {i : WakeSource} (h : Steady moved severe ks s t) :
    Steady moved severe ks s (markSource i t) := by
  refine steady_withWake (fun j hj => ?_) h
  by_cases e : j = i
  · subst e
    simp
  · simpa [WakeUnit.get_set_ne _ _ e] using hj

theorem steady_clearPending (h : Steady moved severe ks s t) : Steady moved severe ks s (clearPending t) := by
  unfold clearPending
  refine steady_foldl _ (fun hu => ?_) (steady_withWake (fun i hi => ?_) h)
  · unfold resetHeld
    exact steady_ite (steady_markSource hu) hu
  · simpa [WakeUnit.get] using hi

theorem steady_recordWake (h : Steady moved severe ks s t) : Steady moved severe ks s (recordWake t) := by
  rw [recordWake_frame]
  exact steady_withWake (fun _ hi => by simpa only [WakeUnit.get] using hi) h

theorem steady_judgeTripEnd (hm : moved) (h : Steady moved severe ks s t) :
    Steady moved severe ks s (judgeTripEnd t) := by
  unfold judgeTripEnd
  have ended : Steady moved severe ks s { t with thu.trip := false } := h.untouched rfl rfl
  exact steady_ite (steady_endWithOn hm (.inr rfl) ended) h

/-- A supplied sensor's record is no pack's. -/
theorem steady_setSensor {i : Fin 8} {r : SensorRecord} (hi : i.val < 6) (h : Steady moved severe ks s t) :
    Steady moved severe ks s (setSensor i r t) := by
  refine h.untouched rfl ?_
  have six : i.val ≠ 6 := by omega
  have seven : i.val ≠ 7 := by omega
  simp [steadyView, setSensor, six, seven]

theorem steady_thermalLeaveOn (hm : moved) (h : Steady moved severe ks s t) :
    Steady moved severe ks s (thermalLeaveOn t) := by
  unfold thermalLeaveOn
  exact steady_judgeTripEnd hm (steady_endWithOn hm (.inl rfl)
    (steady_setSensor (by decide) (steady_setSensor (by decide) h)))

theorem steady_thermalEnterOn (h : Steady moved severe ks s t) : Steady moved severe ks s (thermalEnterOn t) := by
  unfold thermalEnterOn
  exact steady_setSensor (by decide) (steady_setSensor (by decide) h)

/-! ## CHC's refresh (R41, R53, R26) -/

/-- What an input change that is one of R53's makes of CHC and the poll waits, before the LED and the notices. -/
def chargeTaken (s : State) : State :=
  hastenPolls (recompute { s with chc.context := ⟨derivedContext s .a, derivedContext s .b⟩ })

theorem chargeRefresh_eq (ns : List Notice) (s : State) :
    ∃ ns', chargeRefresh true ns s = raiseAll ns' (refreshChargeLed (chargeTaken s)) := ⟨_, rfl⟩

theorem chargeTaken_context (s : State) (p : PackId) :
    (chargeTaken s).chc.context.get p = withTargets (derivedContext s p) ((chargeTaken s).chc.budget.packs.get p) := by
  cases p <;> rfl

theorem chargeTaken_schedule (s : State) (p : PackId) :
    (chargeTaken s).pks.schedule.get p = hasten (pollFast (chargeTaken s) p) (s.pks.schedule.get p) := by
  cases p <;> rfl

/-- Bars, and with them the charge states, are what they were derived from. -/
theorem chargeTaken_state (s : State) (p : PackId) :
    ((chargeTaken s).chc.context.get p).state =
      chargeStateOf (s.chc.handed.get p) (s.chc.context.get p) (barsOf s p) := by
  rw [chargeTaken_context]
  rfl

theorem chargeTaken_targets (s : State) (p : PackId) (h : ((chargeTaken s).chc.context.get p).state ≠ .charging) :
    ((chargeTaken s).chc.context.get p).targetCurrent = 0 ∧
      ((chargeTaken s).chc.context.get p).targetVoltage = 0 := by
  rw [chargeTaken_context] at h ⊢
  have rest : (derivedContext s p).state ≠ .charging := h
  have budget : ((chargeTaken s).chc.budget.packs.get p).targetCurrent = 0 ∧
      ((chargeTaken s).chc.budget.packs.get p).targetVoltage = 0 := by
    cases p <;>
      simp [chargeTaken, hastenPolls, recompute, computeBudget, packBudget, packEligible, targetVoltageOf, PerPack.get,
        rest]
  exact budget

theorem chargeSettled_chargeTaken (s : State) : ChargeSettled (chargeTaken s) := by
  refine fun p => ⟨?_, chargeTaken_targets s p⟩
  rw [chargeTaken_state, chargeTaken_context]
  rfl

/-- CHC's refresh leaves charge states and targets as R41 and R57 give them. -/
theorem chargeSettled_chargeRefresh (ns : List Notice) (s : State) : ChargeSettled (chargeRefresh true ns s) := by
  obtain ⟨ns', e⟩ := chargeRefresh_eq ns s
  rw [e]
  have taken : Steady False False [] (chargeTaken s) (raiseAll ns' (refreshChargeLed (chargeTaken s))) :=
    steady_raiseAll (steady_refreshChargeLed (.refl _))
  exact taken.settled (chargeSettled_chargeTaken s)

/-- Without the CONTAINMENT bar a pack that was CHARGING is still so. -/
theorem charging_of_released {r : PackRecord} {c : ChargeContext} {bars : Bars}
    (h : chargeStateOf r c bars = .charging) : chargeStateOf r c { bars with containment := false } = .charging := by
  unfold chargeStateOf at h ⊢
  split_ifs at h ⊢ with h1 h2 h3 h4 h5 h6 h7 h8
  next => simp_all [Bars.any]
  next => rfl

/-- A pack's wait is cut to the interval of its charge state. -/
theorem Paced.hasten {fast was is : Bool} {x : PackSchedule} (h : x.pollLeft = some (if was then 1000 else 10000))
    (kept : was = true → is = true) (hf : fast = is) :
    (Machine.hasten fast x).pollLeft = some (if is then 1000 else 10000) := by
  subst hf
  cases was <;> cases fast <;> simp_all [Machine.hasten, Config.pollFastMs]

/-! ## Containment (R166, R167) -/

/-- The level under a change to `l`, with CHC's refresh. -/
theorem steady_levelTaken {l : ContainmentLevel} (hl : severe ∨ l = .none)
    (held : HeldBy moved ks t → t.flt.level ≠ .none → l ≠ .none ∧ (t.flt.level = .shed → l = .shed)) :
    Steady moved severe ks t (chargeTaken { t with flt.level := l }) where
  platform := rfl
  fault _ _ _ := rfl
  active _ _ _ _ := rfl
  ended _ _ _ := id
  mode := rfl
  level := held
  released none _ := hl.resolve_left none
  rest _ := rfl
  off _ := id
  stop h n := absurd h n
  lastStop := .inl rfl
  status _ := id
  profile p := by rw [chargeTaken_context]; rfl
  settled _ := chargeSettled_chargeTaken _
  schedule p := ⟨_, chargeTaken_schedule { t with flt.level := l } p⟩
  paced none settled p := by
    rintro ⟨paced, on⟩
    refine ⟨?_, on⟩
    have hl := hl.resolve_left none
    have was : (t.pks.schedule.get p).pollLeft =
        some (if decide ((t.chc.context.get p).state = .charging) = true then 1000 else 10000) := by
      simpa only [decide_eq_true_eq] using paced
    have bars : barsOf { t with flt.level := l } p = { barsOf t p with containment := false } := by
      subst hl
      rfl
    have fast : pollFast (chargeTaken { t with flt.level := l }) p =
        decide (((chargeTaken { t with flt.level := l }).chc.context.get p).state = .charging) := by
      have off : isOn (chargeTaken { t with flt.level := l }) = false := beq_eq_false_iff_ne.mpr on
      simp only [pollFast, off, Bool.or_false, beq_eq_decide]
    rw [chargeTaken_schedule]
    refine (Paced.hasten was (fun charging => ?_) fast).trans (by simp only [decide_eq_true_eq])
    rw [decide_eq_true_eq] at charging ⊢
    rw [chargeTaken_state, bars]
    exact charging_of_released ((settled p).1.symm.trans charging)
  policy := rfl
  settings := rfl
  derate := rfl
  sensor _ := rfl

theorem steady_setLevel {l : ContainmentLevel} (hl : severe ∨ l = .none)
    (held : HeldBy moved ks t → t.flt.level ≠ .none → l ≠ .none ∧ (t.flt.level = .shed → l = .shed))
    (h : Steady moved severe ks s t) : Steady moved severe ks s (setLevel l t) := by
  unfold setLevel
  obtain ⟨ns, e⟩ := chargeRefresh_eq [] { t with flt.level := l }
  rw [e]
  have taken := h.trans (steady_levelTaken hl held)
  have made := steady_remakeDuties (steady_raiseAll (ns := ns) (steady_refreshChargeLed taken))
  exact steady_ite h (made.untouched rfl rfl)

theorem not_heldBy_of_severeActive (h : severeActive t.flt = false) : ¬HeldBy moved ks t := by
  rintro ⟨k, sev, -, -, active⟩
  have none := List.any_eq_false.mp h k (mem_allFaultKinds k)
  simp [sev, active] at none

theorem steady_releaseAtStart (h : Steady moved severe ks s t) : Steady moved severe ks s (releaseAtStart t) := by
  unfold releaseAtStart
  split
  · exact h
  next none =>
    exact steady_setLevel (.inr rfl)
      (fun held => absurd held (not_heldBy_of_severeActive (Bool.eq_false_iff.mpr none))) h

theorem steady_raiseLevel (hs : severe) (h : Steady moved severe ks s t) : Steady moved severe ks s (raiseLevel t) := by
  unfold raiseLevel
  split
  next none => exact steady_setLevel (.inl hs) (fun _ e => absurd none e) h
  next => exact h

/-! ## Changes of the platform state (R147 to R160) -/

theorem steady_hastenPolls (h : Steady moved severe ks s t) : Steady moved severe ks s (hastenPolls t) := by
  have schedule (p : PackId) :
      (hastenPolls t).pks.schedule.get p = hasten (pollFast t p) (t.pks.schedule.get p) := by
    cases p <;> rfl
  refine h.trans { Steady.refl t with platform := rfl, schedule := fun p => ⟨_, schedule p⟩, paced := ?_ }
  rintro - - p ⟨paced, on⟩
  have off : isOn t = false := beq_eq_false_iff_ne.mpr on
  refine ⟨?_, on⟩
  rw [schedule]
  refine (Paced.hasten (was := decide ((t.chc.context.get p).state = .charging)) ?_ id ?_).trans
    (by simp only [decide_eq_true_eq]; rfl)
  · simpa only [decide_eq_true_eq] using paced
  · simp only [pollFast, off, Bool.or_false, beq_eq_decide]

/-- A change to a state other than ON, and to OFF only as containment stops the platform. -/
theorem steady_changeState {new : PlatformState} (hm : moved) (on : new ≠ .on)
    (stop : new = .off → severe ∧ t.psq.lastStop = .containment) (h : Steady moved severe ks s t) :
    Steady moved severe ks s (changeState new t) := by
  unfold changeState
  extract_lets old last t1 t2 t3 t4 t5
  have h1 : Steady moved severe ks s t1 := h.trans
    { Steady.refl t with
      platform := rfl
      rest := fun none => absurd hm none
      off := fun none e => absurd (stop e).1 none
      stop := fun e _ => (stop e).2
      paced := fun _ _ _ ⟨paced, _⟩ => ⟨paced, on⟩ }
  have h2 : Steady moved severe ks s t2 := steady_ite (steady_clearPending h1) h1
  have h3 : Steady moved severe ks s t3 := steady_fansTakeState (steady_updateKeyboard h2)
  have h4 : Steady moved severe ks s t4 :=
    steady_ite (steady_thermalLeaveOn hm h3) (steady_ite (steady_thermalEnterOn h3) h3)
  have h5 : Steady moved severe ks s t5 := (steady_hastenPolls h4).untouched rfl rfl
  exact steady_ite (h5.untouched rfl rfl) h5

theorem steady_beginGrace (h : Steady moved severe ks s t) : Steady moved severe ks s (beginGrace t) := by
  unfold beginGrace
  exact steady_refreshChargeLed (steady_markSource (steady_raise (h.untouched rfl rfl)))

theorem steady_endGrace {event : Nat} {off : Bool} (h : Steady moved severe ks s t) :
    Steady moved severe ks s (endGrace event off t) := by
  unfold endGrace
  split
  · exact h
  · exact steady_refreshChargeLed (steady_raise (h.untouched rfl rfl))

theorem steady_enterMpgWait (h : Steady moved severe ks s t) : Steady moved severe ks s (enterMpgWait t) := by
  unfold enterMpgWait
  exact steady_ite (h.untouched rfl rfl) (h.untouched rfl rfl)

theorem steady_takeStart (hm : moved) (h : Steady moved severe ks s t) : Steady moved severe ks s (takeStart t) := by
  unfold takeStart
  extract_lets t0 wake t1 t2 t3
  have h0 : Steady moved severe ks s t0 := steady_recordWake h
  clear_value t0
  have h1 : Steady moved severe ks s t1 := h0.untouched rfl rfl
  have h2 : Steady moved severe ks s t2 := steady_releaseAtStart (steady_clearPending
    (steady_changeState (new := .starting) hm (by decide) (fun e => by cases e) h1))
  clear_value t2
  have h3 : Steady moved severe ks s t3 := steady_ite (steady_beginGrace h2) h2
  clear_value t3
  exact steady_ite (steady_enterMpgWait h3) h3

theorem steady_takeResume (hm : moved) (h : Steady moved severe ks s t) : Steady moved severe ks s (takeResume t) := by
  unfold takeResume
  exact steady_enterMpgWait (steady_clearPending
    (steady_changeState hm (by decide) (fun e => by cases e) (steady_recordWake h)))

theorem steady_offerWake (hm : moved) (h : Steady moved severe ks s t) : Steady moved severe ks s (offerWake t) := by
  unfold offerWake
  refine steady_ite h ?_
  split
  · exact steady_takeResume hm h
  · exact steady_ite (steady_takeStart hm h) (h.untouched rfl rfl)
  · exact h

theorem steady_settingEvent {i : WakeSource} (hm : moved) (h : Steady moved severe ks s t) :
    Steady moved severe ks s (settingEvent i t) := by
  unfold settingEvent
  exact steady_ite (steady_offerWake hm (steady_markSource h)) (steady_markSource h)

theorem steady_judgeCritical (hm : moved) (h : Steady moved severe ks s t) :
    Steady moved severe ks s (judgeCritical t) := by
  unfold judgeCritical startGrace
  have judged (b : Bool) : Steady moved severe ks s { t with psq.critical := b } := h.untouched rfl rfl
  have begun := steady_beginGrace (judged true)
  exact steady_ite h (steady_ite (steady_ite (steady_ite (steady_offerWake hm begun) begun) (judged true))
    (steady_endGrace (judged false)))

/-- In OFF no grace begins, and the state stands. -/
theorem steady_judgeCritical_off (off : t.psq.state = .off) (h : Steady moved severe ks s t) :
    Steady moved severe ks s (judgeCritical t) := by
  unfold judgeCritical
  have judged (b : Bool) : Steady moved severe ks s { t with psq.critical := b } := h.untouched rfl rfl
  refine steady_ite h (steady_ite ?_ (steady_endGrace (judged false)))
  rw [if_neg (by simp [off])]
  exact judged true

theorem steady_offerAtOff {before : State} (hm : moved) (h : Steady moved severe ks s t) :
    Steady moved severe ks s (offerAtOff before t) := by
  unfold offerAtOff
  exact steady_ite (steady_offerWake hm h) h

/-- The offer that ends a command, by itself. -/
theorem steady_offered (before t : State) : Steady True False [] t (offerAtOff before t) :=
  steady_offerAtOff trivial (.refl _)

/-! ## Forced stops and SEVERE detections (R155, R164, R166) -/

theorem steady_arriveOff (hm : moved) (hs : severe) (stop : t.psq.lastStop = .containment)
    (h : Steady moved severe ks s t) : Steady moved severe ks s (arriveOff t) := by
  unfold arriveOff
  have stepped : Steady moved severe ks s { t with psq.step := .none, psq.stepLeft := 0, psq.stopKind := .none } :=
    h.untouched rfl rfl
  have arrived := steady_changeState (new := .off) hm (by decide) (by exact fun _ => ⟨hs, stop⟩) stepped
  exact steady_endGrace (steady_raise (arrived.untouched rfl rfl))

/-- FLT's own stop of the platform. -/
theorem steady_forcedStop (hm : moved) (hs : severe) (h : Steady moved severe ks s t) :
    Steady moved severe ks s (forcedStop .containment t) := by
  unfold forcedStop
  split
  · exact h
  next up =>
    let t1 : State :=
      { t with psq.lastStop := .containment, psq.stopKind := .forced, psq.step := .none, psq.stepLeft := 0 }
    have stopping : Steady moved severe ks t t1 := (Steady.refl t).trans
      { Steady.refl t with
        platform := rfl, lastStop := .inr rfl, stop := fun off _ => absurd off up }
    have kept {v : State} (hv : Steady moved severe ks t1 v) : v.psq.lastStop = .containment :=
      hv.lastStop.elim id id
    have changed : Steady moved severe ks t1 (if t.psq.state = .stopping then t1 else changeState .stopping t1) :=
      steady_ite (.refl _) (steady_changeState hm (by decide) (fun e => by cases e) (.refl _))
    have dropped : Steady moved severe ks t1
        (dropAll (if t.psq.state = .stopping then t1 else changeState .stopping t1)) := changed.untouched rfl rfl
    exact (h.trans stopping).trans (steady_arriveOff hm hs (kept dropped) dropped)

theorem steady_contain {k : FaultKind} (hm : moved) (hs : severe) (h : Steady moved severe ks s t) :
    Steady moved severe ks s (contain k t) := by
  unfold contain
  split
  · exact h
  · exact steady_raiseLevel hs h
  · exact steady_setLevel (.inl hs) (fun _ _ => ⟨by decide, fun _ => rfl⟩) h
  · exact steady_raiseLevel hs (steady_forcedStop hm hs h)

/-- In OFF there is nothing left to stop. -/
theorem steady_contain_off {k : FaultKind} (off : t.psq.state = .off) (hs : severe)
    (h : Steady moved severe ks s t) : Steady moved severe ks s (contain k t) := by
  unfold contain
  rw [forcedStop_off _ _ off]
  split
  · exact h
  · exact steady_raiseLevel hs h
  · exact steady_setLevel (.inl hs) (fun _ _ => ⟨by decide, fun _ => rfl⟩) h
  · exact steady_raiseLevel hs h

/-- A detection of a kind in `ks`, with its own containment. -/
theorem steady_detect_of {k : FaultKind} {detail : Byte} (hk : k ∈ ks)
    (acted : k.severe = true → ∀ {v : State}, Steady moved severe ks s v → v.psq.state = t.psq.state →
      Steady moved severe ks s (contain k v))
    (h : Steady moved severe ks s t) : Steady moved severe ks s (detect k detail t) := by
  unfold detect detectWith
  split
  case isFalse => exact steady_detectMild hk h
  case isTrue sev =>
    have contained := acted sev (steady_setFault (r := recordedFault k detail t.uptime (t.flt.get k)) hk h) rfl
    have shown := steady_refreshChargeLed contained
    exact steady_ite contained (steady_ite shown (steady_raise shown))

theorem steady_detect {k : FaultKind} {detail : Byte} (hk : k ∈ ks) (hm : moved) (hs : k.severe = true → severe)
    (h : Steady moved severe ks s t) : Steady moved severe ks s (detect k detail t) :=
  steady_detect_of hk (fun sev _ hv _ => steady_contain hm (hs sev) hv) h

end Sys2Proof.Machine
end

section
/-! What PKS's operations leave of the other blocks: each lemma `stands_<operation>` carries the relation `Stands`
across one of them. Pack records, charge contexts and pack sensors may change; faults of the kinds that PKS detects may
be recorded. -/

namespace Sys2Proof.Machine

open Sys2Proof.Safety

/-! ## The relation -/

/-- Between the two states only packs, charging, fans, keys and reports have changed, besides the platform state, its
wakes, and faults of the kinds `ks`; `severe` says whether SEVERE ones may have been recorded, with their
containment. -/
structure Stands (severe : Prop) (ks : List FaultKind) (s t : State) : Prop where
  uptime : t.uptime = s.uptime
  line : t.inputs.busLineHigh = s.inputs.busLineHigh
  srs : t.srs = s.srs
  pbc : t.pbc = s.pbc
  lkp : { t.lkp with run := false } = { s.lkp with run := false }
  policy : t.chc.policy = s.chc.policy
  settings : t.thu.settings = s.thu.settings
  fault : ∀ k, k ∉ memoryKinds → k ∉ ks → inactive (t.flt.get k) = inactive (s.flt.get k)
  active : ∀ k, k ∉ memoryKinds → k ∉ ks → k ≠ .supplyStale → k ≠ .thermalTrip →
    (t.flt.get k).active = (s.flt.get k).active
  ended : ∀ k, k ∉ memoryKinds → k ∉ ks → (t.flt.get k).active = true → (s.flt.get k).active = true
  mode : t.flt.mode = s.flt.mode
  level : HeldBy True ks s → s.flt.level ≠ .none → t.flt.level ≠ .none ∧ (s.flt.level = .shed → t.flt.level = .shed)
  released : ¬severe → s.flt.level = .none → t.flt.level = .none
  off : ¬severe → t.psq.state = .off → s.psq.state = .off
  status : ∀ i, (s.lwu.get i).status = true → (t.lwu.get i).status = true

variable {moved severe : Prop} {ks : List FaultKind} {s t u : State}

theorem Steady.stands (h : Steady moved severe ks s t) : Stands severe ks s t :=
  { h with
    active := fun k hm hk h1 h2 => h.active k hm hk fun _ e => e.elim h1 h2
    level := fun ⟨k, sev, hk, lasts, active⟩ => h.level ⟨k, sev, hk, fun _ => lasts trivial, active⟩
    uptime := h.platform.uptime
    line := by rw [h.platform]
    srs := h.platform.srs
    pbc := h.platform.pbc
    lkp := by rw [h.platform] }

theorem Stands.refl (s : State) : Stands severe ks s s := (Steady.refl (moved := False) s).stands

theorem Stands.heldBy (h : Stands severe ks s t) (held : HeldBy True ks s) : HeldBy True ks t := by
  obtain ⟨k, sev, hk, lasts, active⟩ := held
  have mild : k ∉ memoryKinds := fun hm => by simp [memoryKinds_mild hm] at sev
  have same := h.active k mild hk (fun e => lasts trivial (.inl e)) fun e => lasts trivial (.inr e)
  exact ⟨k, sev, hk, lasts, same.trans active⟩

theorem Stands.trans (h : Stands severe ks s t) (g : Stands severe ks t u) : Stands severe ks s u where
  uptime := g.uptime.trans h.uptime
  line := g.line.trans h.line
  srs := g.srs.trans h.srs
  pbc := g.pbc.trans h.pbc
  lkp := g.lkp.trans h.lkp
  policy := g.policy.trans h.policy
  settings := g.settings.trans h.settings
  fault k hm hk := (g.fault k hm hk).trans (h.fault k hm hk)
  active k hm hk h1 h2 := (g.active k hm hk h1 h2).trans (h.active k hm hk h1 h2)
  ended k hm hk e := h.ended k hm hk (g.ended k hm hk e)
  mode := g.mode.trans h.mode
  level held hl := by
    obtain ⟨raised, shed⟩ := h.level held hl
    obtain ⟨raised', shed'⟩ := g.level (h.heldBy held) raised
    exact ⟨raised', fun e => shed' (shed e)⟩
  released hs e := g.released hs (h.released hs e)
  off hs e := h.off hs (g.off hs e)
  status i hi := g.status i (h.status i hi)

/-- The whole record of a kind that nothing has touched. -/
theorem Stands.record (h : Stands severe ks s t) {k : FaultKind} (hm : k ∉ memoryKinds) (hk : k ∉ ks)
    (h1 : k ≠ .supplyStale) (h2 : k ≠ .thermalTrip) : t.flt.get k = s.flt.get k :=
  eq_of_inactive (h.fault k hm hk) (h.active k hm hk h1 h2)

/-- The service slot and the reply queue stand. -/
theorem Stands.link (h : Stands severe ks s t) : t.lkp.service = s.lkp.service ∧ t.lkp.replies = s.lkp.replies :=
  ⟨(congrArg LinkPort.service h.lkp :), (congrArg LinkPort.replies h.lkp :)⟩

/-- The fields that `Stands` is about. -/
def standsView (s : State) : (Stamp × Bool × Selector × BusController × LinkPort) × ChargePolicy × ThermalSettings ×
    (Vector FaultRecord 20 × ContainmentMode × ContainmentLevel) × PlatformState × Vector WakeEntry 11 :=
  ((s.uptime, s.inputs.busLineHigh, s.srs, s.pbc, { s.lkp with run := false }), s.chc.policy, s.thu.settings,
    (s.flt.record, s.flt.mode, s.flt.level), s.psq.state, s.lwu.table)

/-- An operation that touches none of those fields. -/
theorem Stands.untouched (h : Stands severe ks s t) (e : standsView u = standsView t) : Stands severe ks s u := by
  simp only [standsView, Prod.mk.injEq] at e
  obtain ⟨⟨uptime, line, srs, pbc, lkp⟩, policy, settings, ⟨record, mode, level⟩, state, table⟩ := e
  have fault (k : FaultKind) : u.flt.get k = t.flt.get k := by simp only [FaultUnit.get, record]
  exact h.trans
    { uptime, line, srs, pbc, lkp, policy, settings, mode
      fault := fun k _ _ => by rw [fault]
      active := fun k _ _ _ _ => by rw [fault]
      ended := fun k _ _ => by rw [fault]; exact id
      level := fun _ e => ⟨level ▸ e, fun e => level.trans e⟩
      released := fun _ e => level.trans e
      off := fun _ e => state ▸ e
      status := fun i => by simp only [WakeUnit.get, table]; exact id }

/-- An operation of the platform, after whatever went before it. -/
theorem Stands.steady (h : Stands severe ks s t) (g : Steady True severe ks t u) : Stands severe ks s u :=
  h.trans g.stands

theorem stands_ite {c : Prop} [Decidable c] (h : Stands severe ks s t) (g : Stands severe ks s u) :
    Stands severe ks s (if c then t else u) := by
  split
  · exact h
  · exact g

/-! ## The ends of pack faults (R27, R29) -/

/-- The kinds that PKS detects (R27, R28). -/
def packKinds : List FaultKind := [.packCommLost, .packOverCharged, .packOverTemp]

theorem steady_endFault {k : FaultKind} (hk : k ∈ ks) (h : Steady moved severe ks s t) :
    Steady moved severe ks s (endFault k t) :=
  steady_setFault hk h

theorem steady_endPackFault {k : FaultKind} {holds : PackRecord → Bool} {p : PackId} (hk : k ∈ ks)
    (h : Steady moved severe ks s t) : Steady moved severe ks s (endPackFault k holds p t) := by
  unfold endPackFault
  exact steady_ite h (steady_endFault hk h)

theorem steady_endCommLost {p : PackId} (h : Steady moved severe packKinds s t) :
    Steady moved severe packKinds s (endCommLost p t) := by
  unfold endCommLost
  exact steady_ite h (steady_endPackFault (by decide) h)

theorem steady_endAlarms {p : PackId} (h : Steady moved severe packKinds s t) :
    Steady moved severe packKinds s (endAlarms p t) := by
  unfold endAlarms
  have ended := steady_ite (c := overChargeHolds (t.pks.record.get p) = true) h
    (steady_endPackFault (k := .packOverCharged) (holds := overChargeHolds) (p := p) (by decide) h)
  exact steady_ite ended (steady_endPackFault (by decide) ended)

/-! ## Reports, faults and the platform -/

theorem stands_raise {n : Notice} (h : Stands severe ks s t) : Stands severe ks s (raise n t) :=
  h.steady (steady_raise (.refl _))

theorem stands_detectMild {k : FaultKind} {detail : Byte} (hk : k ∈ ks) (h : Stands severe ks s t) :
    Stands severe ks s (detectMild k detail t) :=
  h.steady (steady_detectMild hk (.refl _))

theorem stands_detect {k : FaultKind} {detail : Byte} (hk : k ∈ ks) (hs : k.severe = true → severe)
    (h : Stands severe ks s t) : Stands severe ks s (detect k detail t) :=
  h.steady (steady_detect hk trivial hs (.refl _))

theorem stands_endFault {k : FaultKind} (hk : k ∈ ks) (h : Stands severe ks s t) : Stands severe ks s (endFault k t) :=
  h.steady (steady_endFault hk (.refl _))

theorem stands_settingEvent {i : WakeSource} (h : Stands severe ks s t) : Stands severe ks s (settingEvent i t) :=
  h.steady (steady_settingEvent trivial (.refl _))

theorem stands_chargeRefresh {ns : List Notice} (h : Stands severe ks s t) :
    Stands severe ks s (chargeRefresh true ns t) := by
  obtain ⟨ns', e⟩ := chargeRefresh_eq ns t
  rw [e]
  exact (h.untouched (u := chargeTaken t) rfl).steady (steady_raiseAll (steady_refreshChargeLed (.refl _)))

/-! ## Hand-offs (R27, R30, R31) -/

theorem stands_setSwitches (h : Stands severe ks s t) : Stands severe ks s (setSwitches t) := h.untouched rfl

theorem stands_updateRsoc (h : Stands severe ks s t) : Stands severe ks s (updateRsoc t) := by
  have shared : Stands severe ks s { t with pks.rsoc := rsocOf t.pks.record.a t.pks.record.b } := h.untouched rfl
  exact shared.steady (steady_judgeCritical trivial (.refl _))

theorem stands_handToThermal {p : PackId} (h : Stands severe ks s t) : Stands severe ks s (handToThermal p t) :=
  h.untouched rfl

theorem stands_handToCharge {p : PackId} (h : Stands severe ks s t) : Stands severe ks s (handToCharge p t) := by
  unfold handToCharge
  exact stands_chargeRefresh (h.untouched rfl)

theorem stands_chargeAtPoll {p : PackId} {target : Nat} (h : Stands severe ks s t) :
    Stands severe ks s (chargeAtPoll p target t) := by
  unfold chargeAtPoll
  exact stands_chargeRefresh (h.untouched rfl)

theorem stands_handRecord {p : PackId} (h : Stands severe ks s t) : Stands severe ks s (handRecord p t) := by
  unfold handRecord
  exact stands_updateRsoc (stands_setSwitches (stands_handToThermal (stands_handToCharge h)))

theorem stands_handPoll {p : PackId} {target : Nat} (h : Stands severe ks s t) :
    Stands severe ks s (handPoll p target t) := by
  unfold handPoll
  exact stands_updateRsoc (stands_setSwitches (stands_handToThermal (stands_chargeAtPoll (h.untouched rfl))))

/-! ## Pack records (R23 to R29) -/

theorem stands_modRecord {p : PackId} {f : PackRecord → PackRecord} (h : Stands severe ks s t) :
    Stands severe ks s (modRecord p f t) := h.untouched rfl

theorem stands_modSchedule {p : PackId} {f : PackSchedule → PackSchedule} (h : Stands severe ks s t) :
    Stands severe ks s (modSchedule p f t) := h.untouched rfl

theorem stands_judged {p : PackId} (h : Stands severe ks s t) : Stands severe ks s (judged p t) := h.untouched rfl

theorem stands_settleReady {p : PackId} (h : Stands severe ks s t) : Stands severe ks s (settleReady p t) := by
  unfold settleReady
  exact stands_ite (stands_raise (stands_modRecord h)) h

theorem stands_settleFaulted {p : PackId} (h : Stands severe ks s t) : Stands severe ks s (settleFaulted p t) := by
  unfold settleFaulted
  exact stands_ite (stands_raise (stands_modRecord h)) h

theorem stands_judgeAtFailure {p : PackId} (charged : .packOverCharged ∈ ks) (hot : .packOverTemp ∈ ks)
    (h : Stands severe ks s t) : Stands severe ks s (judgeAtFailure p t) := by
  unfold judgeAtFailure
  have ended := stands_ite (c := (t.pks.record.get p.other).causes.overCharged = true) h (stands_endFault charged h)
  exact stands_ite (stands_judged (stands_ite ended (stands_endFault hot ended))) h

theorem stands_failedPoll {p : PackId} (h : Stands severe packKinds s t) :
    Stands severe packKinds s (failedPoll p t) := by
  unfold failedPoll
  exact stands_ite
    (stands_handRecord (stands_settleFaulted (stands_detectMild (by decide)
      (stands_judgeAtFailure (by decide) (by decide) (stands_modRecord (stands_modRecord h))))))
    (stands_modRecord h)

theorem stands_readsFailed {p : PackId} {w : TurnWork} (h : Stands severe packKinds s t) :
    Stands severe packKinds s (readsFailed p w t) := by
  unfold readsFailed
  split
  · exact stands_modSchedule (stands_failedPoll h)
  · exact stands_modSchedule (stands_failedPoll h)

theorem stands_offerAtOff {before : State} (h : Stands severe ks s t) : Stands severe ks s (offerAtOff before t) :=
  h.steady (steady_offerAtOff trivial (.refl _))

end Sys2Proof.Machine
end

section
/-! How an attempt on the pack bus fails: the second one that follows, the recovery before it, and the outcome of a
transaction whose second attempt has failed (R19, R20). -/

namespace Sys2Proof.Machine

open Sys2Proof.Safety

variable {s t : State} {x : Transaction}

/-! ## Judgements of the data line (R20) -/

theorem startAttempt_low (h : s.inputs.busLineHigh = false) (x : Transaction) :
    startAttempt x s = { s with pbc.running := some { x with recovering := true, left := 0 } } := by
  simp [startAttempt, h]

theorem attemptFails_first (h : x.second = false) (s : State) :
    attemptFails x s = startAttempt { x with second := true } s := by
  simp [attemptFails, h]

theorem attemptFails_second (h : x.second = true) (s : State) : attemptFails x s = endTransaction x none s := by
  simp [attemptFails, h]

theorem attemptEnded_notAcked (hx : s.pbc.running = some x) (hr : x.recovering = false) :
    attemptEnded .notAcked s = attemptFails x s := by
  simp [attemptEnded, hx, hr]

theorem recoveryEnded_high (hx : s.pbc.running = some x) (hr : x.recovering = true) :
    recoveryEnded true s =
      lineFound { s with pbc.running := some { x with recovering := false, left := Config.attemptMs } } := by
  simp [recoveryEnded, hx, hr]

theorem recoveryEnded_low (hx : s.pbc.running = some x) (hr : x.recovering = true) :
    recoveryEnded false s = recoveryFailed x s := by
  simp [recoveryEnded, hx, hr]

/-- The model's test of R20 and R177 is the one that they give. -/
theorem stuckDetected_iff (s : State) :
    stuckDetected s = true ↔ s.pbc.recoveryFails = if (s.flt.get .busStuck).active then 0 else 1 := by
  simp [stuckDetected]

/-! ## A failed recovery (R20) -/

/-- A failed recovery is counted, and detects BUS_STUCK where it is the one that R20 or R177 names. -/
def recoveryCounted (x : Transaction) (s : State) : State :=
  let s1 := { s with pbc.recoveryFails := min 2 (s.pbc.recoveryFails + 1) }
  if stuckDetected s then detectMild .busStuck (byteOf x.device.code) s1 else s1

theorem recoveryFailed_eq (x : Transaction) (s : State) :
    recoveryFailed x s = attemptFails x (recoveryCounted x s) := rfl

/-- Beside the count it touches the reports alone. -/
theorem recoveryCounted_frame (x : Transaction) (s : State) :
    OnlyReports { s with pbc.recoveryFails := min 2 (s.pbc.recoveryFails + 1) } (recoveryCounted x s) := by
  unfold recoveryCounted
  split
  · exact detectMild_frame _ _ _
  · exact .refl _

theorem recoveryCounted_quiet (h : stuckDetected s = false) (x : Transaction) :
    (recoveryCounted x s).flt = s.flt := by
  simp [recoveryCounted, h]

theorem recoveryCounted_stuck (h : stuckDetected s = true) (x : Transaction) :
    (recoveryCounted x s).flt.get .busStuck =
      recordedFault .busStuck (byteOf x.device.code) s.uptime (s.flt.get .busStuck) := by
  simp only [recoveryCounted, h, if_true]
  exact detectMild_get (by decide) _ _

/-- A record as step 1 of R164 makes it is that of a detection. -/
theorem recorded_of_get {k : FaultKind} {detail : Byte} {now : Stamp} {t : State}
    (h : t.flt.get k = recordedFault k detail now (s.flt.get k)) : recorded k detail s t := by
  unfold recorded
  rw [h]
  exact ⟨rfl, rfl, rfl, rfl⟩

/-! ## The failed outcome of a transaction (R19) -/

/-- The bus is free; the line, the count of failed recoveries and BUS_STUCK are as they were. -/
structure BusFreed (s u : State) : Prop where
  line : u.inputs.busLineHigh = s.inputs.busLineHigh
  running : u.pbc.running = none
  fails : u.pbc.recoveryFails = s.pbc.recoveryFails
  stuck : u.flt.get .busStuck = s.flt.get .busStuck

theorem BusFreed.stands {severe : Prop} {t u : State} (h : BusFreed s t) (g : Stands severe packKinds t u) :
    BusFreed s u where
  line := g.line.trans h.line
  running := by rw [g.pbc, h.running]
  fails := by rw [g.pbc, h.fails]
  stuck := (g.record (by decide) (by decide) (by decide) (by decide)).trans h.stuck

/-- The reply of a passthrough touches the link alone. -/
theorem busFreed_passthroughOutcome (result : Option (List Byte)) (h : BusFreed s t) :
    BusFreed s (passthroughOutcome result t) := by
  unfold passthroughOutcome answerPassthrough deliver
  repeat' split
  all_goals exact ⟨h.line, h.running, h.fails, h.stuck⟩

theorem busFreed_packFailed {p : PackId} {turn : Turn} {op : BusOp} (h : BusFreed s t) :
    BusFreed s (packOutcome p turn op none t) := by
  have ended : BusFreed s (endTurn t) := ⟨h.line, h.running, h.fails, h.stuck⟩
  unfold packOutcome
  cases op with
  | writeWord _ w =>
    dsimp only [switchWritten]
    split
    · exact ended
    · exact h
  | readWord _ | readBlock _ _ | writeBlock _ _ =>
    exact ended.stands (severe := False) (stands_readsFailed (.refl _))

theorem busFreed_pollerFailed {d : BusDevice} {op : BusOp} (h : BusFreed s t) :
    BusFreed s (pollerOutcome d op none t) := by
  unfold pollerOutcome
  split
  · exact h
  · cases d with
    | packA | packB => exact busFreed_packFailed h
    | port1 | port2 => exact ⟨h.line, h.running, h.fails, h.stuck⟩

/-- A failed transaction frees the bus. -/
theorem busFreed_endTransaction (x : Transaction) (s : State) : BusFreed s (endTransaction x none s) := by
  have freed : BusFreed s { s with pbc.running := none } := ⟨rfl, rfl, rfl, rfl⟩
  unfold endTransaction
  split
  · exact busFreed_passthroughOutcome none freed
  · split
    · exact freed
    · exact busFreed_pollerFailed freed

end Sys2Proof.Machine
end

section
/-! The statement about the attempts of a transaction. -/

namespace Sys2Proof.Proofs

open Sys2Proof.Machine Sys2Proof.Safety

variable {s : State} {x : Transaction}

/-- A failed first attempt is followed by the second, on the line as it was found. -/
theorem finish_attemptFails_first (hx : s.pbc.running = some x) (hs : x.second = false) (hr : x.recovering = false)
    (line : Bool) :
    finish s (attemptEnded .notAcked (lineLevel line s)) =
      .next (startAttempt { x with second := true } (lineLevel line s)) := by
  rw [attemptEnded_notAcked (s := lineLevel line s) hx hr, attemptFails_first hs]
  refine finish_running (startAttempt_running _ _) ?_
  cases line <;> rfl

/-- The failed recovery of a second attempt frees the bus, and what then begins starts with a recovery. -/
theorem finish_recoveryFailed_second (hx : s.pbc.running = some x) (hs : x.second = true) (hr : x.recovering = true) :
    ∃ t, exec (.busRecoveryEnd false) s = .next t ∧ t.inputs.busLineHigh = false ∧
      t.pbc.recoveryFails = min 2 (s.pbc.recoveryFails + 1) ∧
      (∀ y, t.pbc.running = some y → y.second = false ∧ y.recovering = true) ∧
      t.flt.get .busStuck = (recoveryCounted x (lineLevel false s)).flt.get .busStuck ∧
      (∀ (q : Passthrough) (type : Byte), x.passthrough = true → s.pbc.slot = some q → q.packGone = false →
        s.lkp.service = .passthrough type false → repliesFull s = false →
        t.pbc.slot = none ∧ t.lkp.service = .empty ∧
          t.lkp.replies =
            s.lkp.replies ++ [⟨⟨replyType type, [8, byteOf q.device.code, opCommand q.op]⟩, false⟩]) := by
  let w := recoveryCounted x (lineLevel false s)
  have frame : OnlyReports _ w := recoveryCounted_frame x (lineLevel false s)
  have freed : BusFreed w (endTransaction x none w) := busFreed_endTransaction x w
  have offered : BusFreed w (offerAtOff s (endTransaction x none w)) :=
    freed.stands (severe := False) (stands_offerAtOff (.refl _))
  have low : (offerAtOff s (endTransaction x none w)).inputs.busLineHigh = false := by
    rw [offered.line, frame]
    rfl
  have grant := (onlyGrant_busGrant (offerAtOff s (endTransaction x none w))).1
  obtain ⟨sameFlt, sameFails, begun⟩ := busGrant_low offered.running low
  refine ⟨conclude s (endTransaction x none w), ?_, ?_, ?_, begun, ?_, ?_⟩
  · refine congrArg (finish s) ?_
    unfold busRecovers
    rw [recoveryEnded_low (s := lineLevel false s) hx hr, recoveryFailed_eq, attemptFails_second hs]
  · unfold conclude
    rw [grant]
    exact low
  · unfold conclude
    rw [sameFails, offered.fails, frame]
    rfl
  · unfold conclude
    rw [sameFlt, offered.stuck]
  · intro q type hp hq here service room
    have replied : endTransaction x none w =
        deliver (replyTo type [8, byteOf q.device.code, opCommand q.op])
          { w with pbc.running := none, pbc.slot := none } := by
      have slot : w.pbc.slot = some q := by rw [frame]; exact hq
      have waiting : w.lkp.service = .passthrough type false := by rw [frame]; exact service
      simp [endTransaction, hp, passthroughOutcome, slot, passthroughReply, here, answerPassthrough, waiting,
        stBusFailed]
    have link : w.lkp = s.lkp := by rw [frame]; rfl
    have room' : repliesFull { w with pbc.running := none, pbc.slot := none } = false := by
      simpa only [repliesFull, link] using room
    have same : offerAtOff s (endTransaction x none w) = endTransaction x none w := by
      refine offerAtOff_same _ _ ?_
      rw [replied, deliver_room _ _ room', frame]
      rfl
    have slot := (givenOut_busGrant offered.running (by rw [same, replied, deliver_room _ _ room'])).slot
    unfold conclude
    refine ⟨?_, ?_⟩
    · rw [slot, same, replied, deliver_room _ _ room']
    · rw [grant, same, replied, deliver_room _ _ room']
      simp [link, replyTo]

/-- Settles O34: the first attempt's failures are followed at once by the second, with or without a recovery; a failed
recovery is counted, and the second attempt's frees the bus. -/
theorem busAttemptsRepeatAndRecover : Obligations.BusAttemptsRepeatAndRecover := by
  intro x s hx fails stuck
  have judged : stuckDetected (lineLevel false s) = true ↔ stuck := stuckDetected_iff (lineLevel false s)
  refine ⟨fun hs hr line c hc => ?first, fun hr => ?found, fun hs hr => ?counted, fun hs hr => ?ended⟩
  case first =>
    have ends : exec c s = finish s (attemptEnded .notAcked (lineLevel line s)) := by
      obtain rfl | rfl := hc <;> rfl
    rw [ends, finish_attemptFails_first hx hs hr line]
    cases line <;> rfl
  case found =>
    have ends : exec (.busRecoveryEnd true) s = finish s (recoveryEnded true (lineLevel true s)) := rfl
    rw [ends, recoveryEnded_high (s := lineLevel true s) hx hr]
    exact finish_running rfl rfl
  case counted =>
    let w := recoveryCounted x (lineLevel false s)
    have frame : OnlyReports _ w := recoveryCounted_frame x (lineLevel false s)
    have ends : exec (.busRecoveryEnd false) s = finish s (startAttempt { x with second := true } w) := by
      refine congrArg (finish s) ?_
      unfold busRecovers
      rw [recoveryEnded_low (s := lineLevel false s) hx hr, recoveryFailed_eq, attemptFails_first hs]
    have low : w.inputs.busLineHigh = false := by rw [frame]; rfl
    rw [startAttempt_low low] at ends
    refine ⟨_, ends.trans (finish_running rfl (by rw [frame]; rfl)), ?_, fun none => ?_, fun detected => ?_⟩
    · rw [frame]
      rfl
    · exact recoveryCounted_quiet (Bool.eq_false_iff.mpr (none ∘ judged.mp)) x
    · exact recorded_of_get (recoveryCounted_stuck (judged.mpr detected) x)
  case ended =>
    obtain ⟨t, ends, line, count, begun, record, reply⟩ := finish_recoveryFailed_second hx hs hr
    refine ⟨t, ends, line, count, begun, fun none => ?_, fun detected => ?_, reply⟩
    · rw [record, recoveryCounted_quiet (Bool.eq_false_iff.mpr (none ∘ judged.mp)) x]
      rfl
    · exact recorded_of_get (record.trans (recoveryCounted_stuck (judged.mpr detected) x))

end Sys2Proof.Proofs
end

section
/-! What handing a pack record on makes of it: the discharge switches (R30), the charge context (R41, R44), the poll
waits (R26) and the pack's temperature sensor (R72). -/

namespace Sys2Proof.Machine

open Sys2Proof.Safety

variable {s t u : State} {p : PackId}

/-! ## The end of a command at work -/

theorem offerAtOff_of_off (h : t.psq.state = .off → s.psq.state = .off) : offerAtOff s t = t := by
  unfold offerAtOff
  split
  next arrived => exact absurd (h (by simpa using arrived.2)) (by simpa using arrived.1)
  next => rfl

theorem busGrant_running (h : s.pbc.running.isSome = true) : busGrant s = s := by
  simp [busGrant, h]

/-- A command that keeps the bus at work, and does not arrive in OFF, ends as its own effect leaves it. -/
theorem conclude_working (running : t.pbc.running.isSome = true) (off : t.psq.state = .off → s.psq.state = .off) :
    conclude s t = t := by
  unfold conclude
  rw [offerAtOff_of_off off, busGrant_running running]

/-! ## The discharge switches (R30) -/

/-- A pack record as PKS's rule of the switches sets it. -/
def switchedRecord (s : State) (p : PackId) : PackRecord :=
  let r := s.pks.record.get p
  let held := switchHeldOn s.srs.active.isSome (p == .a) r (s.pks.record.get p.other)
  withSwitch (wantsOn r || held) held r

theorem setSwitches_record (s : State) (p : PackId) : (setSwitches s).pks.record.get p = switchedRecord s p := by
  cases p <;> rfl

theorem updateRsoc_record (s : State) : (updateRsoc s).pks.record = s.pks.record :=
  (steady_judgeCritical trivial (moved := True) (severe := False) (ks := []) (.refl _)).platform.record

/-- The rule reads the pack records and whether a source is active. -/
theorem switchedRecord_congr (record : t.pks.record = s.pks.record) (srs : t.srs = s.srs) (p : PackId) :
    switchedRecord t p = switchedRecord s p := by
  simp only [switchedRecord, record, srs]

/-- Whatever the switch, the rest of the record stands. -/
theorem switchedRecord_eq (s : State) (p : PackId) :
    ∃ on held, switchedRecord s p = withSwitch on held (s.pks.record.get p) := ⟨_, _, rfl⟩

/-- A pack that wants its switch on has it on, and not held. -/
theorem switchedRecord_wantsOn (h : wantsOn (s.pks.record.get p) = true) :
    switchedRecord s p = withSwitch true false (s.pks.record.get p) := by
  simp [switchedRecord, switchHeldOn, wantsOff, h]

/-- An absent pack's switch is off. -/
theorem switchedRecord_absent (h : (s.pks.record.get p).state = .absent) :
    switchedRecord s p = withSwitch false false (s.pks.record.get p) := by
  simp [switchedRecord, switchHeldOn, wantsOff, wantsOn, h]

theorem handRecord_record (s : State) (p q : PackId) : (handRecord p s).pks.record.get q = switchedRecord s q := by
  have frame : OnlyPlatform _ (handToCharge p s) := (chargeRefresh_frame true [] _).onlyPlatform
  unfold handRecord
  rw [updateRsoc_record, setSwitches_record]
  exact switchedRecord_congr frame.record frame.srs q

theorem handPoll_record (s : State) (p q : PackId) (target : Nat) :
    (handPoll p target s).pks.record.get q = switchedRecord s q := by
  have frame (v : State) : OnlyPlatform _ (chargeAtPoll p target v) := (chargeRefresh_frame true _ _).onlyPlatform
  unfold handPoll
  rw [updateRsoc_record, setSwitches_record]
  exact switchedRecord_congr (frame _).record (frame _).srs q

/-! ## A change of presence or state (R23, R44) -/

/-- What CHC takes of a changed record, before it derives its states from it. -/
def chargeHanded (p : PackId) (s : State) : State :=
  let r := s.pks.record.get p
  let c := s.chc.context.get p
  let gone := { absentContext c.stages with
                state := c.state, targetCurrent := c.targetCurrent, targetVoltage := c.targetVoltage }
  { s with
    chc.handed := s.chc.handed.set p r
    chc.context := s.chc.context.set p (if r.state == .absent then gone else c) }

theorem handToCharge_eq (p : PackId) (s : State) : handToCharge p s = chargeRefresh true [] (chargeHanded p s) := rfl

/-- What follows CHC's part of a hand-off, before critical energy is judged. -/
def handedPastCharge (p : PackId) (t : State) : State :=
  let u := setSwitches (handToThermal p t)
  { u with pks.rsoc := rsocOf u.pks.record.a u.pks.record.b }

theorem handRecord_eq (p : PackId) (s : State) :
    handRecord p s = judgeCritical (handedPastCharge p (handToCharge p s)) := rfl

/-- The pack's sensor, its record in CHC, its context and both schedules, as a hand-off of a changed record leaves
them. -/
structure PackHanded (p : PackId) (s t : State) : Prop where
  handed : t.chc.handed.get p = s.pks.record.get p
  settled : ChargeSettled t
  profile : profileOf (t.chc.context.get p) = profileOf ((chargeHanded p s).chc.context.get p)
  schedule : ∀ q, ∃ fast, t.pks.schedule.get q = hasten fast (s.pks.schedule.get q)
  sensor : t.thu.sensors[p.sensor] = packSensor (s.pks.record.get p)

/-- Nothing that the platform then does touches these. -/
theorem PackHanded.steady {moved severe : Prop} {ks : List FaultKind} (h : PackHanded p s t)
    (g : Steady moved severe ks t u) :
    PackHanded p s u where
  handed := by rw [g.platform.handed, h.handed]
  settled := g.settled h.settled
  profile := (g.profile p).trans h.profile
  schedule q := by
    obtain ⟨a, ha⟩ := h.schedule q
    obtain ⟨b, hb⟩ := g.schedule q
    exact ⟨b || a, by rw [hb, ha, hasten_hasten]⟩
  sensor := (g.sensor p).trans h.sensor

/-- From CHC's derivation to the hand-off's end there are only reports. -/
theorem steady_handToCharge (p : PackId) (s : State) :
    Steady False False [] (chargeTaken (chargeHanded p s)) (handToCharge p s) := by
  obtain ⟨ns', e⟩ := chargeRefresh_eq [] (chargeHanded p s)
  rw [handToCharge_eq, e]
  exact steady_raiseAll (steady_refreshChargeLed (.refl _))

theorem handToCharge_record (p : PackId) (s : State) : (handToCharge p s).pks.record = s.pks.record :=
  (steady_handToCharge p s).platform.record

theorem handToCharge_handed (p : PackId) (s : State) :
    (handToCharge p s).chc.handed = s.chc.handed.set p (s.pks.record.get p) :=
  (steady_handToCharge p s).platform.handed

theorem handToCharge_profile (p : PackId) (s : State) :
    profileOf ((handToCharge p s).chc.context.get p) = profileOf ((chargeHanded p s).chc.context.get p) := by
  refine ((steady_handToCharge p s).profile p).trans ?_
  rw [chargeTaken_context]
  rfl

theorem handToCharge_schedule (p q : PackId) (s : State) :
    ∃ fast, (handToCharge p s).pks.schedule.get q = hasten fast (s.pks.schedule.get q) := by
  obtain ⟨fast, hf⟩ := (steady_handToCharge p s).schedule q
  rw [chargeTaken_schedule, hasten_hasten] at hf
  exact ⟨_, hf⟩

theorem handToThermal_sensor (p : PackId) (s : State) :
    (handToThermal p s).thu.sensors[p.sensor] = packSensor (s.pks.record.get p) :=
  Vector.getElem_set_self p.sensor.isLt

theorem packHanded_pastCharge (handed : t.chc.handed = s.chc.handed.set p (s.pks.record.get p))
    (settled : ChargeSettled t)
    (profile : profileOf (t.chc.context.get p) = profileOf ((chargeHanded p s).chc.context.get p))
    (schedule : ∀ q, ∃ fast, t.pks.schedule.get q = hasten fast (s.pks.schedule.get q))
    (record : t.pks.record = s.pks.record) : PackHanded p s (handedPastCharge p t) where
  handed := (congrArg (PerPack.get · p) handed).trans (PerPack.get_set_same _ _ _)
  settled := settled
  profile := profile
  schedule := schedule
  sensor := (handToThermal_sensor p t).trans (by rw [record])

theorem packHanded_handRecord (p : PackId) (s : State) : PackHanded p s (handRecord p s) :=
  (packHanded_pastCharge (handToCharge_handed p s) (chargeSettled_chargeRefresh [] (chargeHanded p s))
    (handToCharge_profile p s) (fun q => handToCharge_schedule p q s) (handToCharge_record p s)).steady
    (severe := False) (ks := []) (steady_judgeCritical (moved := True) trivial (.refl _))

/-- CHC's state of a pack that is absent, or has still to be identified (R41). -/
theorem chargeStateOf_absent {r : PackRecord} (h : r.state = .absent) (c : ChargeContext) (bars : Bars) :
    chargeStateOf r c bars = .absent := by
  simp [chargeStateOf, h]

theorem chargeStateOf_identify {r : PackRecord} (h : r.state = .identify) (c : ChargeContext) (bars : Bars) :
    chargeStateOf r c bars = .idle := by
  simp [chargeStateOf, h]

/-- The context of a pack that was handed on absent is in its ABSENT form, over its profile list (R44). -/
theorem PackHanded.absent (h : PackHanded p s t) (gone : (s.pks.record.get p).state = .absent) :
    (t.chc.context.get p).state = .absent ∧
      profileOf (t.chc.context.get p) = absentContext (s.chc.context.get p).stages := by
  refine ⟨?_, h.profile.trans ?_⟩
  · rw [(h.settled p).1, h.handed, chargeStateOf_absent gone]
  · simp [chargeHanded, gone, profileOf, absentContext]

theorem PackHanded.identify (h : PackHanded p s t) (came : (s.pks.record.get p).state = .identify) :
    (t.chc.context.get p).state = .idle := by
  rw [(h.settled p).1, h.handed, chargeStateOf_identify came]

/-- A wait that is not running is not cut short. -/
theorem hasten_still (fast : Bool) {x : PackSchedule} (h : x.pollLeft = none) : hasten fast x = x := by
  unfold hasten
  split
  · rw [h]
    cases x
    simp_all
  · rfl

end Sys2Proof.Machine
end

section
/-! The statement about the presence of a pack. -/

namespace Sys2Proof.Machine

open Sys2Proof.Safety

variable {s t : State} {p : PackId}

/-! ## Insertion (R23) -/

/-- PKS of an inserted pack, before its record is handed on. -/
def insertedPack (p : PackId) (s : State) : State :=
  raise (.pack p .absent .identify)
    (modSchedule p (fun _ => { idleSchedule with identDue := true })
      (modRecord p (fun r => { absentPack r.populated with present := true, state := .identify }) s))

theorem packInserted_eq (p : PackId) (s : State) : packInserted p s = handRecord p (insertedPack p s) := rfl

theorem insertedPack_record (p : PackId) (s : State) :
    (insertedPack p s).pks.record.get p =
      { absentPack (s.pks.record.get p).populated with present := true, state := .identify } := by
  unfold insertedPack
  rw [raise_frame]
  simp [modRecord, modSchedule]

theorem insertedPack_schedule (p : PackId) (s : State) :
    (insertedPack p s).pks.schedule.get p = { idleSchedule with identDue := true } := by
  unfold insertedPack
  rw [raise_frame]
  simp [modRecord, modSchedule]

theorem stands_packInserted {severe : Prop} {ks : List FaultKind} (h : Stands severe ks s t) :
    Stands severe ks s (packInserted p t) :=
  stands_handRecord (stands_raise (stands_modSchedule (stands_modRecord h)))

/-! ## Removal (R23, R35) -/

/-- PKS and PBC of a removed pack, before its record is handed on. -/
def removedPack (p : PackId) (s : State) : State :=
  let s1 := modSchedule p (fun _ => idleSchedule) (modRecord p (fun r => absentPack r.populated) s)
  removePassthrough p { judged p s1 with pbc := abandonTurn p s1.pbc }

theorem packRemoved_eq (p : PackId) (s : State) :
    packRemoved p s =
      raise (.pack p (s.pks.record.get p).state .absent)
        (endCommLost p (endAlarms p (handRecord p (removedPack p s)))) := rfl

theorem answerPassthrough_link (payload : List Byte) (s : State) :
    answerPassthrough payload s = { s with lkp := (answerPassthrough payload s).lkp } := by
  unfold answerPassthrough deliver
  repeat' split
  all_goals rfl

/-- A removed pack's passthrough touches the slot and the link alone. -/
theorem removePassthrough_frame (p : PackId) (s : State) :
    removePassthrough p s =
      { s with pbc.slot := (removePassthrough p s).pbc.slot, lkp := (removePassthrough p s).lkp } := by
  unfold removePassthrough
  split
  · rfl
  · split
    · rfl
    · split
      · rfl
      · rw [answerPassthrough_link]

/-- The pack's record and schedule are emptied, and its turn is abandoned. -/
theorem removedPack_frame (p : PackId) (s : State) :
    removedPack p s =
      { s with
        pks :=
          { s.pks with
            record := s.pks.record.set p (absentPack (s.pks.record.get p).populated)
            schedule := s.pks.schedule.set p idleSchedule, unjudged := s.pks.unjudged.set p false }
        pbc := { abandonTurn p s.pbc with slot := (removedPack p s).pbc.slot }
        lkp := (removedPack p s).lkp } := by
  unfold removedPack
  rw [removePassthrough_frame]
  rfl

theorem removedPack_record (p : PackId) (s : State) :
    (removedPack p s).pks.record.get p = absentPack (s.pks.record.get p).populated := by
  rw [removedPack_frame]
  exact PerPack.get_set_same _ _ _

theorem removedPack_schedule (p : PackId) (s : State) : (removedPack p s).pks.schedule.get p = idleSchedule := by
  rw [removedPack_frame]
  exact PerPack.get_set_same _ _ _

theorem removedPack_other (p : PackId) (s : State) :
    (removedPack p s).pks.record.get p.other = s.pks.record.get p.other := by
  rw [removedPack_frame]
  exact PerPack.get_set_other _ _ _

/-- No turn of the pack's poller is left. -/
theorem removedPack_turn (p : PackId) (s : State) (w : Turn) (h : (removedPack p s).pbc.turn = some w) :
    w.poller ≠ p.device := by
  rw [removedPack_frame] at h
  have kept := (Option.filter_eq_some_iff.mp h).2
  simpa using kept

theorem removedPack_running (p : PackId) (s : State) :
    (removedPack p s).pbc.running.isSome = s.pbc.running.isSome := by
  rw [removedPack_frame]
  exact Option.isSome_map

/-- What remains of a removal after its hand-off is the platform's. -/
theorem steady_packRemoved (p : PackId) (s : State) :
    Steady True False packKinds (handRecord p (removedPack p s)) (packRemoved p s) := by
  rw [packRemoved_eq]
  exact steady_raise (steady_endCommLost (steady_endAlarms (.refl _)))

/-- A passthrough that waits is answered at once (R35). -/
theorem removedPack_waiting {q : Passthrough} {type : Byte} (hq : s.pbc.slot = some q) (hd : q.device = p.device)
    (waits : q.running = false) (service : s.lkp.service = .passthrough type false) (room : repliesFull s = false) :
    (removedPack p s).pbc.slot = none ∧
      (removedPack p s).lkp =
        { s.lkp with service := .empty, replies := s.lkp.replies ++ [⟨⟨replyType type, [7]⟩, false⟩] } := by
  have replied : removedPack p s = deliver (replyTo type [7])
      { modSchedule p (fun _ => idleSchedule) (modRecord p (fun r => absentPack r.populated) s) with
        pks.unjudged := s.pks.unjudged.set p false, pbc := { abandonTurn p s.pbc with slot := none } } := by
    simp [removedPack, removePassthrough, modRecord, modSchedule, judged, abandonTurn, hq, hd, waits,
      answerPassthrough, service, stNotPresent]
  rw [replied, deliver_room _ _ (by exact room)]
  exact ⟨rfl, rfl⟩

/-- One that runs is marked. -/
theorem removedPack_onBus {q : Passthrough} (hq : s.pbc.slot = some q) (hd : q.device = p.device)
    (runs : q.running = true) :
    (removedPack p s).pbc.slot = some { q with packGone := true } ∧ (removedPack p s).lkp = s.lkp := by
  simp [removedPack, removePassthrough, modRecord, modSchedule, judged, abandonTurn, hq, hd, runs]

/-- And another device's stands. -/
theorem removedPack_elsewhere {q : Passthrough} (hq : s.pbc.slot = some q) (hd : q.device ≠ p.device) :
    (removedPack p s).pbc.slot = some q ∧ (removedPack p s).lkp = s.lkp := by
  simp [removedPack, removePassthrough, modRecord, modSchedule, judged, abandonTurn, hq, hd]

end Sys2Proof.Machine

namespace Sys2Proof.Proofs

open Sys2Proof.Machine Sys2Proof.Safety

variable {s t : State} {p : PackId}

/-- The presence of a populated pack changes while the bus is at work. -/
theorem exec_presence {active : Bool} {op : State → State}
    (populated : (s.pks.record.get p).populated = true) (changed : (s.pks.record.get p).present ≠ active)
    (hop : (if active then packInserted p else packRemoved p) = op)
    (running : (op { s with inputs := withPresence p active s.inputs }).pbc.running.isSome = true)
    (off : (op { s with inputs := withPresence p active s.inputs }).psq.state = .off → s.psq.state = .off) :
    exec (.packPresenceChange p active) s = .next (op { s with inputs := withPresence p active s.inputs }) := by
  have effect : presenceChanges p active s = op { s with inputs := withPresence p active s.inputs } := by
    subst hop
    unfold presenceChanges
    simp only [populated, Bool.not_true, Bool.false_or, beq_iff_eq, changed, if_false]
    split <;> rfl
  refine (congrArg (finish s) effect).trans ?_
  exact congrArg Host.Outcome.next (conclude_working running off)

theorem pack_inserted (running : s.pbc.running.isSome = true) (populated : (s.pks.record.get p).populated = true)
    (absent : (s.pks.record.get p).present = false) :
    ∃ t, exec (.packPresenceChange p true) s = .next t ∧
      t.pks.record.get p =
        { absentPack true with
          present := true, state := .identify, switchOn := true, switchHeld := false, switchWritten := false } ∧
      t.pks.schedule.get p = ⟨true, false, none, none⟩ ∧ (t.chc.context.get p).state = .idle ∧
      (t.chc.context.get p).targetCurrent = 0 ∧ t.srs = s.srs ∧ t.pbc = s.pbc ∧
      t.thu.settings = s.thu.settings ∧ t.chc.policy = s.chc.policy := by
  let s1 : State := { s with inputs := withPresence p true s.inputs }
  have record : (insertedPack p s1).pks.record.get p =
      { absentPack true with present := true, state := .identify } := by
    rw [insertedPack_record, populated]
  have stands : Stands False [] s1 (packInserted p s1) := stands_packInserted (.refl _)
  have handed : PackHanded p (insertedPack p s1) (packInserted p s1) := packHanded_handRecord p _
  have idle := handed.identify (by rw [record])
  refine ⟨packInserted p s1, exec_presence populated (by simp [absent]) rfl ?_ ?_, ?_, ?_, idle,
    ((handed.settled p).2 (by simp [idle])).1, stands.srs, stands.pbc, stands.settings, stands.policy⟩
  · rw [stands.pbc]
    exact running
  · exact stands.off not_false
  · rw [packInserted_eq, handRecord_record, switchedRecord_wantsOn (by rw [record]; decide), record]
    decide
  · obtain ⟨fast, hf⟩ := handed.schedule p
    rw [hf, insertedPack_schedule]
    exact hasten_still fast rfl

theorem pack_removed (running : s.pbc.running.isSome = true) (populated : (s.pks.record.get p).populated = true)
    (present : (s.pks.record.get p).present = true) :
    let s1 : State := { s with inputs := withPresence p false s.inputs }
    let t := packRemoved p s1
    exec (.packPresenceChange p false) s = .next t ∧ t.pks.record.get p = absentPack true ∧
      t.pks.schedule.get p = idleSchedule ∧ (t.chc.context.get p).state = .absent ∧
      profileOf (t.chc.context.get p) = absentContext (s.chc.context.get p).stages ∧
      (t.chc.context.get p).targetCurrent = 0 ∧ (t.chc.context.get p).targetVoltage = 0 ∧
      t.pbc = (removedPack p s1).pbc ∧ t.lkp.service = (removedPack p s1).lkp.service ∧
      t.lkp.replies = (removedPack p s1).lkp.replies ∧ (t.thu.sensors[p.sensor]).valid = false ∧ t.srs = s.srs ∧
      t.chc.policy = s.chc.policy ∧ (t.pks.record.get p.other).voltage = (s.pks.record.get p.other).voltage := by
  intro s1 t
  have record : (removedPack p s1).pks.record.get p = absentPack true := by rw [removedPack_record, populated]
  have rest : Steady True False packKinds (handRecord p (removedPack p s1)) t := steady_packRemoved p s1
  have stands : Stands False packKinds (removedPack p s1) t := (stands_handRecord (.refl _)).steady rest
  have handed : PackHanded p (removedPack p s1) t := (packHanded_handRecord p _).steady rest
  have frame := removedPack_frame p s1
  obtain ⟨absent, profile⟩ := handed.absent (by rw [record]; rfl)
  obtain ⟨noCurrent, noVoltage⟩ := (handed.settled p).2 (by simp [absent])
  have records (q : PackId) : t.pks.record.get q = switchedRecord (removedPack p s1) q := by
    rw [rest.platform.record, handRecord_record]
  refine ⟨exec_presence populated (by simp [present]) rfl ?_ fun off => ?_, ?_, ?_, absent, ?_, noCurrent, noVoltage,
    stands.pbc, stands.link.1, stands.link.2, ?_, ?_, ?_, ?_⟩
  · exact (congrArg (·.running.isSome) stands.pbc).trans ((removedPack_running p s1).trans running)
  · have before := stands.off not_false off
    rw [frame] at before
    exact before
  · rw [records, switchedRecord_absent (by rw [record]; rfl), record]
    decide
  · obtain ⟨fast, hf⟩ := handed.schedule p
    rw [hf, removedPack_schedule]
    exact hasten_still fast rfl
  · rw [profile, frame]
  · rw [handed.sensor, record]
    rfl
  · rw [stands.srs, frame]
  · rw [stands.policy, frame]
  · obtain ⟨on, held, same⟩ := switchedRecord_eq (removedPack p s1) p.other
    rw [records, same, removedPack_other]
    unfold withSwitch
    split <;> rfl

/-- Settles O37: an inserted record and a removed one are handed on, and the removed pack's passthrough is answered as
soon as it can be. -/
theorem presenceBeginsAndEndsAPack : Obligations.PresenceBeginsAndEndsAPack := by
  intro p s running r other
  refine ⟨fun populated absent => pack_inserted running populated absent, fun populated present => ?removed,
    fun x q type result line hx hr hp hq _ gone service room ht hd hn ha => ?outcome,
    fun unwatched active => ?unwatched⟩
  case removed =>
    obtain ⟨ends, record, schedule, absent, profile, current, voltage, pbc, service, replies, sensor, srs, policy,
      otherVoltage⟩ := pack_removed running populated present
    refine ⟨_, ends, record, schedule, absent, (congrArg ChargeContext.stages profile :),
      (congrArg ChargeContext.pointer profile :), current, voltage, (congrArg ChargeContext.completeLatch profile :),
      fun w hw => removedPack_turn p _ w (pbc ▸ hw), ?_, sensor, srs, policy, otherVoltage, fun q type hq =>
        ⟨fun hd waits hs room => ?_, fun hd runs => ?_, fun hd => ?_⟩⟩
    · rw [pbc, removedPack_running]
      exact running
    · obtain ⟨slot, link⟩ := removedPack_waiting (s := { s with inputs := withPresence p false s.inputs }) hq hd waits
        hs room
      rw [pbc, service, replies, link]
      exact ⟨slot, rfl, rfl⟩
    · obtain ⟨slot, link⟩ := removedPack_onBus (s := { s with inputs := withPresence p false s.inputs }) hq hd runs
      rw [pbc, service, replies, link]
      exact ⟨slot, rfl, rfl⟩
    · obtain ⟨slot, link⟩ := removedPack_elsewhere (s := { s with inputs := withPresence p false s.inputs }) hq hd
      rw [pbc, service, replies, link]
      exact ⟨slot, rfl, rfl⟩
  case outcome =>
    have answered (outcome : Option (List Byte)) :
        finish s (endTransaction x outcome (lineLevel line s)) = .next (passthroughEnded line type [7] s) := by
      rw [finish_passthrough outcome hp hq service room ht hd]
      simp [passthroughReply, gone, stNotPresent]
    cases result with
    | notAcked => exact (exec_notAcked_second hx hr (hn rfl)).trans (answered _)
    | acked data => exact (exec_acked hx hr (ha data rfl)).trans (answered _)
  case unwatched =>
    have effect : presenceChanges p active s = { s with inputs := withPresence p active s.inputs } := by
      have unwatched : (s.pks.record.get p).populated = false := unwatched
      simp [presenceChanges, unwatched]
    exact (congrArg (finish s) effect).trans (finish_running running rfl)

end Sys2Proof.Proofs
end

section
/-! What PKS's rules make of a pack's own record (R24, R27 to R29), and how a SEVERE alarm of a pack stays in force. -/

namespace Sys2Proof.Machine

open Sys2Proof.Safety

variable {severe : Prop} {ks : List FaultKind} {s t u : State} {p : PackId} {k : FaultKind}

/-! ## The rules of a pack record (R24, R28, R29) -/

/-- R24's and R29's move to READY. -/
def readiedRecord (r : PackRecord) : PackRecord :=
  if noCauses r.causes && (r.state == .identify || r.state == .faulted) then { r with state := .ready } else r

/-- The move to FAULTED. -/
def faultedRecord (r : PackRecord) : PackRecord :=
  if r.state == .ready || r.state == .identify then { r with state := .faulted } else r

/-- R28's new over-charge cause. -/
def chargedRecord (r : PackRecord) : PackRecord :=
  if overChargeHolds r && !r.causes.overCharged then faultedRecord { r with causes.overCharged := true } else r

/-- R28's new over-temperature cause. -/
def hotRecord (r : PackRecord) : PackRecord :=
  if overTempHolds r && !r.causes.overTemp then faultedRecord { r with causes.overTemp := true } else r

/-- R29's removal of the two causes, each where it is `charged` or `hot`. -/
def droppedRecord (charged hot : Bool) (r : PackRecord) : PackRecord :=
  { r with
    causes.overCharged := r.causes.overCharged && !charged
    causes.overTemp := r.causes.overTemp && !hot }

theorem droppedRecord_none (r : PackRecord) : droppedRecord false false r = r := by
  simp only [droppedRecord, Bool.not_false, Bool.and_true]

/-- What a poll's words, and its clock, give a record: all but the state, the alarm causes and the switch. -/
def wordsOf (r : PackRecord) : PackRecord :=
  { r with
    state := .absent, causes := ⟨r.causes.comm, false, false⟩, switchOn := false, switchHeld := false
    switchWritten := false }

@[simp] theorem wordsOf_readied (r : PackRecord) : wordsOf (readiedRecord r) = wordsOf r := by
  unfold readiedRecord
  split <;> rfl

@[simp] theorem wordsOf_faulted (r : PackRecord) : wordsOf (faultedRecord r) = wordsOf r := by
  unfold faultedRecord
  split <;> rfl

@[simp] theorem wordsOf_charged (r : PackRecord) : wordsOf (chargedRecord r) = wordsOf r := by
  unfold chargedRecord
  split
  · exact wordsOf_faulted _
  · rfl

@[simp] theorem wordsOf_hot (r : PackRecord) : wordsOf (hotRecord r) = wordsOf r := by
  unfold hotRecord
  split
  · exact wordsOf_faulted _
  · rfl

@[simp] theorem wordsOf_dropped (charged hot : Bool) (r : PackRecord) :
    wordsOf (droppedRecord charged hot r) = wordsOf r := rfl

/-- The two conditions are read from the words. -/
theorem overChargeHolds_congr {r v : PackRecord} (h : wordsOf v = wordsOf r) : overChargeHolds v = overChargeHolds r :=
  (congrArg overChargeHolds h : overChargeHolds (wordsOf v) = overChargeHolds (wordsOf r))

theorem overTempHolds_congr {r v : PackRecord} (h : wordsOf v = wordsOf r) : overTempHolds v = overTempHolds r :=
  (congrArg overTempHolds h : overTempHolds (wordsOf v) = overTempHolds (wordsOf r))

/-- A record that has a cause, and is FAULTED with it. -/
theorem faultedRecord_state {r : PackRecord} (h : r.state ≠ .absent) : (faultedRecord r).state = .faulted := by
  unfold faultedRecord
  split
  · rfl
  next other => cases hs : r.state <;> simp_all

theorem faultedRecord_causes (r : PackRecord) : (faultedRecord r).causes = r.causes := by
  unfold faultedRecord
  split <;> rfl

theorem readiedRecord_causes (r : PackRecord) : (readiedRecord r).causes = r.causes := by
  unfold readiedRecord
  split <;> rfl

/-- A record with a cause is not moved to READY. -/
theorem readiedRecord_held {r : PackRecord} (h : noCauses r.causes = false) : readiedRecord r = r := by
  simp [readiedRecord, h]

/-! ## What the operations make of it -/

theorem settleReady_record (p : PackId) (s : State) :
    (settleReady p s).pks.record = s.pks.record.set p (readiedRecord (s.pks.record.get p)) := by
  unfold settleReady readiedRecord
  dsimp only
  split
  · rw [raise_frame]
    rfl
  · exact (PerPack.set_get _ _).symm

theorem settleFaulted_record (p : PackId) (s : State) :
    (settleFaulted p s).pks.record = s.pks.record.set p (faultedRecord (s.pks.record.get p)) := by
  unfold settleFaulted faultedRecord
  dsimp only
  split
  · rw [raise_frame]
    rfl
  · exact (PerPack.set_get _ _).symm

theorem detect_record (k : FaultKind) (detail : Byte) (s : State) : (detect k detail s).pks.record = s.pks.record :=
  (detect_reach k detail s).record

theorem settingEvent_record (i : WakeSource) (s : State) : (settingEvent i s).pks.record = s.pks.record :=
  (settingEvent_reach i s).record

theorem PerPack.set_set {α : Type} (x : PerPack α) (p : PackId) (v w : α) : (x.set p v).set p w = x.set p w := by
  cases p <;> rfl

theorem judgeOverCharge_record (p : PackId) (s : State) :
    (judgeOverCharge p s).pks.record = s.pks.record.set p (chargedRecord (s.pks.record.get p)) := by
  unfold judgeOverCharge chargedRecord
  dsimp only
  split
  · rw [settingEvent_record, settleFaulted_record, detect_record]
    simp only [modRecord, PerPack.get_set_same, PerPack.set_set]
  · exact (PerPack.set_get _ _).symm

theorem judgeOverTemp_record (p : PackId) (s : State) :
    (judgeOverTemp p s).pks.record = s.pks.record.set p (hotRecord (s.pks.record.get p)) := by
  unfold judgeOverTemp hotRecord
  dsimp only
  split
  · rw [settingEvent_record, settleFaulted_record, detect_record]
    simp only [modRecord, PerPack.get_set_same, PerPack.set_set]
  · exact (PerPack.set_get _ _).symm

/-- The ends of R29, as a good poll takes them. -/
def alarmsEnded (p : PackId) (s : State) : State := settleReady p (dropOverTemp p (dropOverCharge p (endAlarms p s)))

/-- A cause is dropped only where its condition has gone. -/
theorem alarmsEnded_record (p : PackId) (s : State) :
    ∃ charged hot : Bool, (charged = true → overChargeHolds (s.pks.record.get p) = false) ∧
      (hot = true → overTempHolds (s.pks.record.get p) = false) ∧
      (alarmsEnded p s).pks.record =
        s.pks.record.set p (readiedRecord (droppedRecord charged hot (s.pks.record.get p))) := by
  have ended : (endAlarms p s).pks.record = s.pks.record :=
    (steady_endAlarms (moved := False) (severe := False) (.refl s)).platform.record
  obtain ⟨charged, hc, first⟩ : ∃ charged : Bool, (charged = true → overChargeHolds (s.pks.record.get p) = false) ∧
      (dropOverCharge p (endAlarms p s)).pks.record =
        s.pks.record.set p (droppedRecord charged false (s.pks.record.get p)) := by
    unfold dropOverCharge
    rw [ended]
    split
    · exact ⟨false, by simp, by rw [ended, droppedRecord_none, PerPack.set_get]⟩
    next gone => exact ⟨true, by simp_all, by simp [modRecord, ended, droppedRecord]⟩
  obtain ⟨hot, hh, second⟩ : ∃ hot : Bool, (hot = true → overTempHolds (s.pks.record.get p) = false) ∧
      (dropOverTemp p (dropOverCharge p (endAlarms p s))).pks.record =
        s.pks.record.set p (droppedRecord charged hot (s.pks.record.get p)) := by
    have same : overTempHolds (droppedRecord charged false (s.pks.record.get p)) =
        overTempHolds (s.pks.record.get p) := rfl
    unfold dropOverTemp
    rw [first, PerPack.get_set_same, same]
    split
    · exact ⟨false, by simp, first⟩
    next gone => exact ⟨true, by simp_all, by simp [modRecord, first, PerPack.set_set, droppedRecord]⟩
  refine ⟨charged, hot, hc, hh, ?_⟩
  unfold alarmsEnded
  rw [settleReady_record, second, PerPack.get_set_same, PerPack.set_set]

theorem repeat_induction {P : State → Prop} {f : State → State} (hf : ∀ t, P t → P (f t)) (n : Nat) {t : State}
    (h : P t) : P (n.repeat f t) := by
  induction n with
  | zero => exact h
  | succ n ih => exact hf _ ih

theorem steady_judgeAlarm {old : AlarmFlags} (h : Steady True severe ks s t) :
    Steady True severe ks s (judgeAlarm p old t) :=
  repeat_induction (P := Steady True severe ks s) (fun _ hu => steady_settingEvent trivial (steady_raise hu)) _ h

/-! ## A SEVERE alarm of a pack (R28, R166) -/

/-- What CHC's, FNC's and IND's parts of a new level leave of it. -/
theorem setLevel_level (l : ContainmentLevel) (s : State) : (setLevel l s).flt.level = l := by
  unfold setLevel
  split
  next same => exact same
  next =>
    have refreshed : (chargeRefresh true [] { s with flt.level := l }).flt.level = l := by rw [chargeRefresh_frame]
    have fan (i : FanId) (t : State) : (remakeFan i t).flt = t.flt := by
      unfold remakeFan
      dsimp only
      split <;> rfl
    simp only [judgeThrottle, remakeDuties, fan, refreshed]

theorem raiseLevel_raised (s : State) : (raiseLevel s).flt.level ≠ .none := by
  unfold raiseLevel
  split
  · rw [setLevel_level]
    decide
  · assumption

/-- A SEVERE kind's own action is more than a notice. -/
theorem contain_raised (h : k.severe = true) (s : State) : (contain k s).flt.level ≠ .none := by
  have acts : actionOf s.flt.mode k ≠ .notify := by
    intro none
    unfold actionOf at none
    split at none
    next => cases k <;> simp_all [FaultKind.severe, FaultKind.severity, FaultKind.fixedAction]
    next above =>
      rw [none] at above
      exact above (Nat.zero_le _)
  unfold contain
  split
  next none => exact absurd none acts
  · exact raiseLevel_raised _
  · rw [setLevel_level]
    decide
  · exact raiseLevel_raised _

/-- Under the mode SHED a kind whose own action is less takes SHED. -/
theorem contain_shed (sev : k.severe = true) (fixed : k.fixedAction ≠ .forceOff) (mode : s.flt.mode = .shed) :
    (contain k s).flt.level = .shed := by
  have action : actionOf s.flt.mode k = .shed := by
    rw [mode]
    cases k <;> simp_all [FaultKind.severe, FaultKind.severity, FaultKind.fixedAction] <;> rfl
  unfold contain
  rw [action]
  exact setLevel_level _ _

theorem judgeTripEnd_psq (s : State) : (judgeTripEnd s).psq = s.psq := by
  unfold judgeTripEnd
  split <;> rfl

theorem thermalLeaveOn_psq (s : State) : (thermalLeaveOn s).psq = s.psq := judgeTripEnd_psq _

/-- THU's part in a change of the platform state leaves PSQ alone. -/
theorem thermalTakesState_psq (left came : Prop) [Decidable left] [Decidable came] (s : State) :
    (if left then thermalLeaveOn s else if came then thermalEnterOn s else s).psq = s.psq := by
  split
  · exact thermalLeaveOn_psq s
  · split <;> rfl

/-- A change of the platform state is to the state named. -/
theorem changeState_state (new : PlatformState) (s : State) : (changeState new s).psq.state = new := by
  unfold changeState
  extract_lets old last t1 t2 t3 t4 t5
  have h3 : Steady False False [] t1 t3 :=
    steady_fansTakeState (steady_updateKeyboard (steady_ite (steady_clearPending (.refl _)) (.refl _)))
  have state : t3.psq.state = new := h3.rest not_false
  clear_value t3
  have h4 : t4.psq = t3.psq := thermalTakesState_psq _ _ _
  clear_value t4
  have h5 : t5.psq = t3.psq := h4
  clear_value t5
  rw [← state, ← h5]
  split <;> rfl

theorem forcedStop_state (cause : StopCause) (s : State) : (forcedStop cause s).psq.state = .off := by
  unfold forcedStop arriveOff
  split
  · assumption
  · refine ((steady_endGrace (steady_raise (.refl _)) : Steady False False [] (emptyKeyQueue _) _).rest
      not_false).trans ?_
    exact changeState_state .off _

/-- FORCE_OFF leaves OFF. -/
theorem contain_forceOff (action : actionOf s.flt.mode k = .forceOff) : (contain k s).psq.state = .off := by
  unfold contain
  rw [action]
  exact ((steady_raiseLevel trivial (.refl _) : Steady False True [] (forcedStop .containment s) _).rest
    not_false).trans (forcedStop_state _ _)

/-- A pack's SEVERE alarm is in force, with containment and its wake status. -/
structure AlarmInForce (k : FaultKind) (p : PackId) (t : State) : Prop where
  status : (t.flt.get k).status = true
  active : (t.flt.get k).active = true
  detail : (t.flt.get k).detail = byteOf p.code
  level : t.flt.level ≠ .none
  wake : (t.lwu.get .packAlarm).status = true

/-- Nothing that leaves the kind alone ends it. -/
theorem AlarmInForce.stands (h : AlarmInForce k p t) (g : Stands severe ks t u)
    (hk : k = .packOverCharged ∨ k = .packOverTemp) (other : k ∉ ks) : AlarmInForce k p u := by
  have same : u.flt.get k = t.flt.get k := by
    obtain rfl | rfl := hk
    · exact g.record (by decide) other (by decide) (by decide)
    · exact g.record (by decide) other (by decide) (by decide)
  refine ⟨same ▸ h.status, same ▸ h.active, same ▸ h.detail, (g.level ⟨k, ?_, other, ?_, h.active⟩ h.level).1,
    g.status _ h.wake⟩
  · obtain rfl | rfl := hk <;> decide
  · obtain rfl | rfl := hk <;> decide

/-- A SEVERE detection, from the record that it makes; in OFF, unless the platform may move. -/
theorem steady_recorded {moved : Prop} (sev : k.severe = true) (rests : ¬moved → s.psq.state = .off) (detail : Byte) :
    Steady moved True [] { s with flt := s.flt.set k (recordedFault k detail s.uptime (s.flt.get k)) }
      (detect k detail s) := by
  rw [detect_severe _ _ _ sev]
  unfold detectWith
  let v : State := { s with flt := s.flt.set k (recordedFault k detail s.uptime (s.flt.get k)) }
  have contained : Steady moved True [] v (contain k v) := by
    by_cases hm : moved
    · exact steady_contain hm trivial (.refl v)
    · exact steady_contain_off (rests hm) trivial (.refl v)
  have shown := steady_refreshChargeLed contained
  exact steady_ite contained (steady_ite shown (steady_raise shown))

/-- It leaves that record, but for an end that THU judges as the platform moves. -/
theorem detect_severe_get {moved : Prop} (sev : k.severe = true) (rests : ¬moved → s.psq.state = .off)
    (lasts : moved → ¬EndsWithOn k) (detail : Byte) :
    (detect k detail s).flt.get k = recordedFault k detail s.uptime (s.flt.get k) := by
  refine ((steady_recorded sev rests detail).record (fun hm => ?_) (by simp) lasts).trans (FaultUnit.get_set_same _ _ _)
  simp [memoryKinds_mild hm] at sev

/-- The level that its action sets stands, whatever is then reported. -/
theorem detect_severe_level (sev : k.severe = true) (detail : Byte) (s : State) :
    (detect k detail s).flt.level =
      (contain k { s with flt := s.flt.set k (recordedFault k detail s.uptime (s.flt.get k)) }).flt.level := by
  rw [detect_severe _ _ _ sev]
  unfold detectWith
  dsimp only
  split
  · rfl
  · split
    · rfl
    · rw [raise_frame]
      rfl

/-- So does the platform state. -/
theorem detect_severe_state (sev : k.severe = true) (detail : Byte) (s : State) :
    (detect k detail s).psq.state =
      (contain k { s with flt := s.flt.set k (recordedFault k detail s.uptime (s.flt.get k)) }).psq.state := by
  rw [detect_severe _ _ _ sev]
  unfold detectWith
  dsimp only
  split
  · rfl
  · split
    · rfl
    · rw [raise_frame]
      rfl

theorem detect_severe_raised (sev : k.severe = true) (detail : Byte) (s : State) :
    (detect k detail s).flt.level ≠ .none := by
  rw [detect_severe_level sev]
  exact contain_raised sev _

theorem alarmInForce_begun (hk : k = .packOverCharged ∨ k = .packOverTemp) (s : State) :
    AlarmInForce k p (settingEvent .packAlarm (settleFaulted p (detect k (byteOf p.code) s))) := by
  let d := detect k (byteOf p.code) s
  have known : k.severe = true ∧ k.lasting = true ∧ k ∉ memoryKinds ∧ ¬EndsWithOn k := by
    obtain rfl | rfl := hk <;> decide
  obtain ⟨sev, lasting, mild, lasts⟩ := known
  have rest : Stands False [] d (settingEvent .packAlarm (settleFaulted p d)) :=
    stands_settingEvent (stands_settleFaulted (.refl _))
  have record : d.flt.get k = recordedFault k (byteOf p.code) s.uptime (s.flt.get k) :=
    detect_severe_get (moved := True) sev (absurd trivial) (fun _ => lasts) _
  have same := rest.record mild (by simp) (fun e => lasts (.inl e)) fun e => lasts (.inr e)
  have active : (d.flt.get k).active = true := by simp [record, recordedFault, lasting]
  refine ⟨?_, same ▸ active, ?_,
    (rest.level ⟨k, sev, by simp, fun _ => lasts, active⟩ (detect_severe_raised sev _ _)).1, settingEvent_status _ _⟩
  · rw [same, record]
    rfl
  · rw [same, record]
    rfl

/-! ## The stages of a good poll (R27 to R29) -/

theorem judgeOverCharge_begins (holds : overChargeHolds (s.pks.record.get p) = true)
    (fresh : (s.pks.record.get p).causes.overCharged = false) :
    AlarmInForce .packOverCharged p (judgeOverCharge p s) := by
  unfold judgeOverCharge
  simp only [holds, fresh, Bool.not_false, Bool.and_self, if_true]
  exact alarmInForce_begun (.inl rfl) _

theorem judgeOverTemp_begins (holds : overTempHolds (s.pks.record.get p) = true)
    (fresh : (s.pks.record.get p).causes.overTemp = false) :
    AlarmInForce .packOverTemp p (judgeOverTemp p s) := by
  unfold judgeOverTemp
  simp only [holds, fresh, Bool.not_false, Bool.and_self, if_true]
  exact alarmInForce_begun (.inr rfl) _

theorem stands_judgeOverTemp (hk : .packOverTemp ∈ ks) (hs : severe) (h : Stands severe ks s t) :
    Stands severe ks s (judgeOverTemp p t) := by
  unfold judgeOverTemp
  exact stands_ite (stands_settingEvent (stands_settleFaulted
    (stands_detect hk (fun _ => hs) (stands_modRecord h)))) h

theorem stands_judgeAlarm {old : AlarmFlags} (h : Stands severe ks s t) : Stands severe ks s (judgeAlarm p old t) :=
  h.steady (steady_judgeAlarm (.refl _))

/-- The ends of a poll touch the kinds whose conditions have gone. -/
theorem stands_alarmsEnded (charged : overChargeHolds (t.pks.record.get p) = true ∨ .packOverCharged ∈ ks)
    (hot : overTempHolds (t.pks.record.get p) = true ∨ .packOverTemp ∈ ks) (h : Stands severe ks s t) :
    Stands severe ks s (alarmsEnded p t) := by
  have dropCharge {v : State} (hv : Stands severe ks s v) : Stands severe ks s (dropOverCharge p v) := by
    unfold dropOverCharge
    exact stands_ite hv (stands_modRecord hv)
  have dropTemp {v : State} (hv : Stands severe ks s v) : Stands severe ks s (dropOverTemp p v) := by
    unfold dropOverTemp
    exact stands_ite hv (stands_modRecord hv)
  have first : Steady True severe ks t (if overChargeHolds (t.pks.record.get p) = true then t
      else endPackFault .packOverCharged overChargeHolds p t) := by
    split
    · exact .refl _
    next gone => exact steady_endPackFault (charged.resolve_left gone) (.refl _)
  have ended : Steady True severe ks t (endAlarms p t) := by
    unfold endAlarms
    dsimp only
    rw [first.platform.record]
    split
    · exact first
    next gone => exact steady_endPackFault (hot.resolve_left gone) first
  exact stands_settleReady (dropTemp (dropCharge (h.steady ended)))

/-- A poll that has been judged is handed on, and the next one is timed. -/
def pollHanded (p : PackId) (target : Nat) (s : State) : State := schedulePoll p (handPoll p target s)

theorem stands_pollHanded {target : Nat} (h : Stands severe ks s t) : Stands severe ks s (pollHanded p target t) := by
  unfold pollHanded schedulePoll
  exact stands_modSchedule (stands_handPoll h)

theorem pollHanded_record (p : PackId) (target : Nat) (s : State) :
    (pollHanded p target s).pks.record.get p = switchedRecord s p := handPoll_record s p p target

end Sys2Proof.Machine
end

section
/-! What a good poll makes of its pack, of the fault table and of the next poll, up to the end of its command. -/

namespace Sys2Proof.Machine

open Sys2Proof.Safety

variable {severe : Prop} {ks : List FaultKind} {s t u : State} {p : PackId} {k : FaultKind}

/-! ## The record after a good poll (R27 to R29) -/

/-- What R28 and R29 make of a record with the words of a poll: `charged` and `hot` say which cause R29 removes. -/
def judgedRecord (charged hot : Bool) (r : PackRecord) : PackRecord :=
  readiedRecord (droppedRecord charged hot (hotRecord (chargedRecord (readiedRecord r))))

theorem wordsOf_judgedRecord (charged hot : Bool) (r : PackRecord) :
    wordsOf (judgedRecord charged hot r) = wordsOf r := by
  simp [judgedRecord]

theorem readiedRecord_state {r : PackRecord} (h : r.state ≠ .absent) : (readiedRecord r).state ≠ .absent := by
  unfold readiedRecord
  split
  · simp
  · exact h

theorem chargedRecord_state {r : PackRecord} (h : r.state ≠ .absent) : (chargedRecord r).state ≠ .absent := by
  unfold chargedRecord
  split
  · simp [faultedRecord_state (r := { r with causes.overCharged := true }) h]
  · exact h

/-- A new over-charge cause stays, and the pack is FAULTED with it. -/
theorem judgedRecord_charged {r : PackRecord} (hot : Bool) (holds : overChargeHolds r = true)
    (fresh : r.causes.overCharged = false) (there : r.state ≠ .absent) :
    (judgedRecord false hot r).causes.overCharged = true ∧ (judgedRecord false hot r).state = .faulted := by
  have taken : (chargedRecord (readiedRecord r)).causes.overCharged = true ∧
      (chargedRecord (readiedRecord r)).state = .faulted := by
    have holds' : overChargeHolds (readiedRecord r) = true :=
      (overChargeHolds_congr (wordsOf_readied r)).trans holds
    simp only [chargedRecord, holds', readiedRecord_causes, fresh, Bool.not_false, Bool.and_self, if_true]
    exact ⟨by rw [faultedRecord_causes], faultedRecord_state (readiedRecord_state there)⟩
  obtain ⟨cause, faulted⟩ := taken
  have kept : (hotRecord (chargedRecord (readiedRecord r))).causes.overCharged = true ∧
      (hotRecord (chargedRecord (readiedRecord r))).state = .faulted := by
    unfold hotRecord
    split
    · exact ⟨by rw [faultedRecord_causes]; exact cause, faultedRecord_state (by simp [faulted])⟩
    · exact ⟨cause, faulted⟩
  obtain ⟨cause, faulted⟩ := kept
  unfold judgedRecord
  rw [readiedRecord_held (by simp [noCauses, droppedRecord, cause])]
  exact ⟨by simp [droppedRecord, cause], faulted⟩

/-- So does a new over-temperature cause. -/
theorem judgedRecord_hot {r : PackRecord} (charged : Bool) (holds : overTempHolds r = true)
    (fresh : r.causes.overTemp = false) (there : r.state ≠ .absent) :
    (judgedRecord charged false r).causes.overTemp = true ∧ (judgedRecord charged false r).state = .faulted := by
  have taken : (hotRecord (chargedRecord (readiedRecord r))).causes.overTemp = true ∧
      (hotRecord (chargedRecord (readiedRecord r))).state = .faulted := by
    have holds' : overTempHolds (chargedRecord (readiedRecord r)) = true :=
      (overTempHolds_congr (r := r) (by simp)).trans holds
    have fresh' : (chargedRecord (readiedRecord r)).causes.overTemp = false := by
      unfold chargedRecord
      split
      · rw [faultedRecord_causes, readiedRecord_causes]
        exact fresh
      · rw [readiedRecord_causes]
        exact fresh
    simp only [hotRecord, holds', fresh', Bool.not_false, Bool.and_self, if_true]
    exact ⟨by rw [faultedRecord_causes], faultedRecord_state (chargedRecord_state (readiedRecord_state there))⟩
  obtain ⟨cause, faulted⟩ := taken
  unfold judgedRecord
  rw [readiedRecord_held (by simp [noCauses, droppedRecord, cause])]
  exact ⟨by simp [droppedRecord, cause], faulted⟩

/-- And a pack without cause or condition moves to READY. -/
theorem judgedRecord_ready {r : PackRecord} (charged hot : Bool) (cool : overChargeHolds r = false)
    (cold : overTempHolds r = false) (none : noCauses r.causes = true)
    (waits : r.state = .identify ∨ r.state = .faulted) : (judgedRecord charged hot r).state = .ready := by
  have ready : readiedRecord r = { r with state := .ready } := by
    obtain h | h := waits <;> simp [readiedRecord, none, h]
  have calm : hotRecord (chargedRecord (readiedRecord r)) = { r with state := .ready } := by
    have cool' : overChargeHolds { r with state := .ready } = false := cool
    have cold' : overTempHolds { r with state := .ready } = false := cold
    simp [ready, chargedRecord, hotRecord, cool', cold']
  unfold judgedRecord
  rw [calm]
  simp [readiedRecord, droppedRecord]

/-! ## A good poll -/

/-- The words of a poll are stored, and COMM with its fault ends (R24, R27). -/
def pollTaken (p : PackId) (ws : List Word16) (s : State) : State :=
  settleReady p (endCommLost p (judged p (modRecord p (polledRecord ws s.uptime) s)))

/-- The alarms of a poll have been judged (R28). -/
def alarmsJudged (p : PackId) (ws : List Word16) (s : State) : State :=
  judgeAlarm p (s.pks.record.get p).alarm (judgeOverTemp p (judgeOverCharge p (pollTaken p ws s)))

theorem goodPoll_eq (p : PackId) (ws : List Word16) (s : State) :
    goodPoll p ws s =
      pollHanded p (s.chc.context.get p).targetCurrent (alarmsEnded p (alarmsJudged p ws s)) := rfl

theorem pollTaken_record (p : PackId) (ws : List Word16) (s : State) :
    (pollTaken p ws s).pks.record.get p = readiedRecord (polledRecord ws s.uptime (s.pks.record.get p)) := by
  have ended (v : State) : (endCommLost p v).pks.record = v.pks.record :=
    (steady_endCommLost (moved := False) (severe := False) (.refl v)).platform.record
  unfold pollTaken
  rw [settleReady_record, ended, PerPack.get_set_same]
  simp [judged, modRecord]

theorem alarmsJudged_record (p : PackId) (ws : List Word16) (s : State) :
    (alarmsJudged p ws s).pks.record.get p =
      hotRecord (chargedRecord (readiedRecord (polledRecord ws s.uptime (s.pks.record.get p)))) := by
  have flags (old : AlarmFlags) (v : State) : (judgeAlarm p old v).pks.record = v.pks.record :=
    (steady_judgeAlarm (severe := False) (ks := []) (.refl v)).platform.record
  unfold alarmsJudged
  rw [flags, judgeOverTemp_record, judgeOverCharge_record, PerPack.get_set_same, PerPack.get_set_same,
    pollTaken_record]

/-- A poll's record is judged, and its switch set. -/
theorem goodPoll_record (p : PackId) (ws : List Word16) (s : State) :
    let r := polledRecord ws s.uptime (s.pks.record.get p)
    ∃ charged hot on held : Bool, (charged = true → overChargeHolds r = false) ∧
      (hot = true → overTempHolds r = false) ∧
      (goodPoll p ws s).pks.record.get p = withSwitch on held (judgedRecord charged hot r) := by
  intro r
  obtain ⟨charged, hot, hc, hh, record⟩ := alarmsEnded_record p (alarmsJudged p ws s)
  obtain ⟨on, held, same⟩ := switchedRecord_eq (alarmsEnded p (alarmsJudged p ws s)) p
  have words : wordsOf (hotRecord (chargedRecord (readiedRecord r))) = wordsOf r := by simp
  rw [alarmsJudged_record] at hc hh record
  refine ⟨charged, hot, on, held, fun h => (overChargeHolds_congr words).symm.trans (hc h),
    fun h => (overTempHolds_congr words).symm.trans (hh h), ?_⟩
  rw [goodPoll_eq, pollHanded_record, same, record, PerPack.get_set_same]
  rfl

theorem stands_goodPollEnd {ws : List Word16} {target : Nat}
    (charged : overChargeHolds (polledRecord ws t.uptime (t.pks.record.get p)) = true ∨ .packOverCharged ∈ ks)
    (hot : overTempHolds (polledRecord ws t.uptime (t.pks.record.get p)) = true ∨ .packOverTemp ∈ ks) :
    Stands severe ks (alarmsJudged p ws t) (pollHanded p target (alarmsEnded p (alarmsJudged p ws t))) := by
  have words : wordsOf ((alarmsJudged p ws t).pks.record.get p) =
      wordsOf (polledRecord ws t.uptime (t.pks.record.get p)) := by
    rw [alarmsJudged_record]
    simp
  refine stands_pollHanded (stands_alarmsEnded ?_ ?_ (.refl _))
  · rw [overChargeHolds_congr words]
    exact charged
  · rw [overTempHolds_congr words]
    exact hot

/-- A new over-charge cause leaves its alarm in force. -/
theorem goodPoll_overCharged {ws : List Word16}
    (holds : overChargeHolds (polledRecord ws s.uptime (s.pks.record.get p)) = true)
    (fresh : (s.pks.record.get p).causes.overCharged = false) :
    AlarmInForce .packOverCharged p (goodPoll p ws s) := by
  have record := pollTaken_record p ws s
  have begun : AlarmInForce .packOverCharged p (judgeOverCharge p (pollTaken p ws s)) := by
    refine judgeOverCharge_begins ?_ ?_
    · rw [record, overChargeHolds_congr (wordsOf_readied _)]
      exact holds
    · rw [record, readiedRecord_causes]
      exact fresh
  have judged : Stands True [.packOverTemp] (judgeOverCharge p (pollTaken p ws s)) (alarmsJudged p ws s) :=
    stands_judgeAlarm (stands_judgeOverTemp (by decide) trivial (.refl _))
  rw [goodPoll_eq]
  exact begun.stands (judged.trans (stands_goodPollEnd (.inl holds) (.inr (by decide)))) (.inl rfl) (by decide)

/-- So does a new over-temperature cause. -/
theorem goodPoll_overTemp {ws : List Word16}
    (holds : overTempHolds (polledRecord ws s.uptime (s.pks.record.get p)) = true)
    (fresh : (s.pks.record.get p).causes.overTemp = false) : AlarmInForce .packOverTemp p (goodPoll p ws s) := by
  have record : (judgeOverCharge p (pollTaken p ws s)).pks.record.get p =
      chargedRecord (readiedRecord (polledRecord ws s.uptime (s.pks.record.get p))) := by
    rw [judgeOverCharge_record, PerPack.get_set_same, pollTaken_record]
  have begun : AlarmInForce .packOverTemp p (judgeOverTemp p (judgeOverCharge p (pollTaken p ws s))) := by
    refine judgeOverTemp_begins ?_ ?_
    · rw [record, overTempHolds_congr (r := polledRecord ws s.uptime (s.pks.record.get p)) (by simp)]
      exact holds
    · rw [record]
      unfold chargedRecord
      split
      · rw [faultedRecord_causes, readiedRecord_causes]
        exact fresh
      · rw [readiedRecord_causes]
        exact fresh
  have judged : Stands True [.packOverCharged] (judgeOverTemp p (judgeOverCharge p (pollTaken p ws s)))
      (alarmsJudged p ws s) := stands_judgeAlarm (.refl _)
  rw [goodPoll_eq]
  exact begun.stands (judged.trans (stands_goodPollEnd (.inr (by decide)) (.inl holds))) (.inr rfl) (by decide)

theorem judgeAlarm_status {old : AlarmFlags} (h : 0 < alarmsRisen old (s.pks.record.get p).alarm) :
    ((judgeAlarm p old s).lwu.get .packAlarm).status = true := by
  unfold judgeAlarm
  obtain ⟨n, hn⟩ := Nat.exists_eq_add_one.mpr h
  rw [hn]
  exact settingEvent_status _ _

/-- A flag that rises sets the wake status PACK_ALARM (R28). -/
theorem goodPoll_wake {ws : List Word16}
    (h : 0 < alarmsRisen (s.pks.record.get p).alarm (polledRecord ws s.uptime (s.pks.record.get p)).alarm) :
    ((goodPoll p ws s).lwu.get .packAlarm).status = true := by
  have record : (judgeOverTemp p (judgeOverCharge p (pollTaken p ws s))).pks.record.get p =
      hotRecord (chargedRecord (readiedRecord (polledRecord ws s.uptime (s.pks.record.get p)))) := by
    rw [judgeOverTemp_record, judgeOverCharge_record, PerPack.get_set_same, PerPack.get_set_same, pollTaken_record]
  have alarm : (hotRecord (chargedRecord (readiedRecord (polledRecord ws s.uptime (s.pks.record.get p))))).alarm =
      (polledRecord ws s.uptime (s.pks.record.get p)).alarm :=
    (congrArg PackRecord.alarm (by simp :
      wordsOf (hotRecord (chargedRecord (readiedRecord (polledRecord ws s.uptime (s.pks.record.get p))))) =
        wordsOf (polledRecord ws s.uptime (s.pks.record.get p))) :)
  have set : ((alarmsJudged p ws s).lwu.get .packAlarm).status = true :=
    judgeAlarm_status (by rw [record, alarm]; exact h)
  have rest : Stands True packKinds (alarmsJudged p ws s) (goodPoll p ws s) :=
    stands_goodPollEnd (.inr (by decide)) (.inr (by decide))
  exact rest.status _ set

/-! ## The next poll (R26) -/

/-- The pack's next poll is one interval of R26 away. -/
def PollTimed (p : PackId) (s : State) : Prop :=
  (s.pks.schedule.get p).pollLeft =
    some (if (s.chc.context.get p).state = .charging ∨ s.psq.state = .on then 1000 else 10000)

theorem pollTimed_schedulePoll (p : PackId) (s : State) : PollTimed p (schedulePoll p s) := by
  have pace : (schedulePoll p s).pks.schedule.get p = { idleSchedule with pollLeft := some (pollInterval s p) } :=
    PerPack.get_set_same _ _ _
  unfold PollTimed
  rw [pace]
  simp [pollInterval, pollFast, isOn, schedulePoll, modSchedule, Config.pollFastMs, Config.pollSlowMs]

theorem chargeSettled_pollHanded (p : PackId) (target : Nat) (s : State) : ChargeSettled (pollHanded p target s) := by
  have past {v : State} (h : ChargeSettled v) : ChargeSettled (handedPastCharge p v) := h
  have timed {v : State} (h : ChargeSettled v) : ChargeSettled (schedulePoll p v) := h
  have judged {v : State} (h : ChargeSettled v) : ChargeSettled (judgeCritical v) :=
    (steady_judgeCritical trivial (moved := True) (severe := False) (ks := []) (.refl _)).settled h
  exact timed (judged (past (chargeSettled_chargeRefresh _ _)))

/-- The offer of a wake at OFF keeps the pace. -/
theorem pollTimed_offerAtOff (settled : ChargeSettled t) (h : PollTimed p t) : PollTimed p (offerAtOff s t) := by
  by_cases off : t.psq.state = .off
  · have paced : Paced t p := ⟨h.trans (by simp [off]), by simp [off]⟩
    obtain ⟨pace, on⟩ := (steady_offered s t).paced not_false settled p paced
    exact pace.trans (by simp [on])
  · rw [offerAtOff_of_off (fun h => absurd h off)]
    exact h

theorem pollTimed_busGrant (h : PollTimed p s) : PollTimed p (busGrant s) := by
  obtain ⟨frame, -⟩ := onlyGrant_busGrant s
  have left : ((busGrant s).pks.schedule.get p).pollLeft = (s.pks.schedule.get p).pollLeft :=
    congrArg Prod.snd (busGrant_waits s p)
  unfold PollTimed
  rw [left, frame]
  exact h

/-! ## The end of the command -/

theorem fault_busGrant (h : k ≠ .busStuck) (s : State) : (busGrant s).flt.get k = s.flt.get k := by
  obtain ⟨-, same | ended⟩ := onlyGrant_busGrant s
  · rw [same]
  · rw [ended]
    exact FaultUnit.get_set_ne _ _ h

theorem level_busGrant (s : State) : (busGrant s).flt.level = s.flt.level := by
  obtain ⟨-, same | ended⟩ := onlyGrant_busGrant s
  · rw [same]
  · rw [ended]
    rfl

theorem lwu_busGrant (s : State) : (busGrant s).lwu = s.lwu := by
  rw [(onlyGrant_busGrant s).1]

theorem conclude_record (s t : State) : (conclude s t).pks.record = t.pks.record := by
  have offered := (steady_offered s t).platform.record
  unfold conclude
  rw [(onlyGrant_busGrant _).1]
  exact offered

theorem alarmInForce_conclude (hk : k = .packOverCharged ∨ k = .packOverTemp) (h : AlarmInForce k p t) :
    AlarmInForce k p (conclude s t) := by
  have offered := h.stands (stands_offerAtOff (severe := False) (ks := []) (before := s) (.refl t)) hk (by simp)
  have fault := fault_busGrant (k := k) (by obtain rfl | rfl := hk <;> decide) (offerAtOff s t)
  unfold conclude
  refine ⟨fault ▸ offered.status, fault ▸ offered.active, fault ▸ offered.detail, ?_, ?_⟩
  · rw [level_busGrant]
    exact offered.level
  · rw [lwu_busGrant]
    exact offered.wake

theorem status_conclude (i : WakeSource) (h : (t.lwu.get i).status = true) :
    ((conclude s t).lwu.get i).status = true := by
  unfold conclude
  rw [lwu_busGrant]
  exact (stands_offerAtOff (severe := False) (ks := []) (before := s) (.refl t)).status i h

end Sys2Proof.Machine
end

section
/-! The statement about polls, identifications and discharge-switch writes. -/

namespace Sys2Proof.Proofs

open Sys2Proof.Machine Sys2Proof.Safety

variable {s t v : State} {p : PackId} {x : Transaction} {turn : Turn} {op : BusOp} {line : Bool}

/-! ## A pack's transaction on the bus (R19, R21) -/

/-- The bus has the outcome of its transaction, and is free. -/
def busFreed (line : Bool) (s : State) : State :=
  { s with inputs.busLineHigh := line, pbc := { s.pbc with running := none } }

theorem endTransaction_pack (h : packOnBus p x op s) (ht : s.pbc.turn = some turn) (result : Option (List Byte)) :
    endTransaction x result (lineLevel line s) = packOutcome p turn op result (busFreed line s) := by
  obtain ⟨-, own, kept, -, device, hop⟩ := h
  cases p <;> simp [endTransaction, own, kept, pollerOutcome, lineLevel, ht, device, hop, PackId.device, busFreed]

theorem exec_packAcked {data : List Byte} (h : packOnBus p x op s) (ht : s.pbc.turn = some turn)
    (hf : fits op data = true) :
    exec (.busAttemptEnd (.acked data) line) s = finish s (packOutcome p turn op (some data) (busFreed line s)) := by
  obtain ⟨running, -, -, attempt, -, rfl⟩ := id h
  rw [exec_acked running attempt hf, endTransaction_pack h ht]

theorem exec_packFailed (h : packOnBus p x op s) (ht : s.pbc.turn = some turn) (second : x.second = true) :
    exec (.busAttemptEnd .notAcked line) s = finish s (packOutcome p turn op none (busFreed line s)) := by
  obtain ⟨running, -, -, attempt, -, -⟩ := id h
  rw [exec_notAcked_second running attempt second, endTransaction_pack h ht]

/-- The state in which the reads of a turn are judged. -/
def turnOver (line : Bool) (s : State) : State := endTurn (busFreed line s)

theorem exec_lastWord {work : TurnWork} {words : List Word16} (h : lastWordOnBus p work x words s) (lo hi : Byte) :
    exec (.busAttemptEnd (.acked [lo, hi]) line) s =
      finish s (readsGood p work (words ++ [BitVec.ofNat 16 (lo.toNat + 256 * hi.toNat)]) (turnOver line s)) := by
  obtain ⟨onBus, ht, -⟩ := h
  exact exec_packAcked onBus ht rfl

theorem exec_lastWordFails {work : TurnWork} {words : List Word16} (h : lastWordOnBus p work x words s)
    (second : x.second = true) :
    exec (.busAttemptEnd .notAcked line) s = finish s (readsFailed p work (turnOver line s)) := by
  obtain ⟨onBus, ht, -⟩ := h
  exact exec_packFailed onBus ht second

/-! ## A good poll -/

theorem temperatureOf_eq (w : Word16) : temperatureOf w = max (-400) (min 1500 ((w.toNat : Int) - 2732)) := by
  unfold temperatureOf clampInt
  split_ifs <;> omega

theorem pollWordsHeld_of_wordsOf {ws : List Word16} {now : Stamp} {r u : PackRecord}
    (h : wordsOf u = wordsOf (polledRecord ws now r)) : pollWordsHeld (wordAt ws) now u := by
  have field {α : Type} (f : PackRecord → α) : f (wordsOf u) = f (wordsOf (polledRecord ws now r)) := congrArg f h
  exact ⟨field (·.voltage), field (·.current), (field (·.temperature)).trans (temperatureOf_eq _), field (·.rsoc),
    field (·.remaining), field (·.full), field (·.alarm), field (·.reqCurrent), field (·.reqVoltage),
    field (·.failRun), field (·.stale), field (·.lastGood), field (·.causes.comm)⟩

theorem wordsOf_withSwitch (on held : Bool) (r : PackRecord) : wordsOf (withSwitch on held r) = wordsOf r := by
  unfold withSwitch
  split <;> rfl

theorem withSwitch_judged (on held : Bool) (r : PackRecord) :
    (withSwitch on held r).causes = r.causes ∧ (withSwitch on held r).state = r.state := by
  unfold withSwitch
  split <;> exact ⟨rfl, rfl⟩

theorem alarmsRisen_pos {old new : AlarmFlags}
    (h : (old.terminateDischarge = false ∧ new.terminateDischarge = true) ∨
      (old.terminateCharge = false ∧ new.terminateCharge = true) ∨ (old.overTemp = false ∧ new.overTemp = true) ∨
      (old.overCharged = false ∧ new.overCharged = true)) : 0 < alarmsRisen old new := by
  refine List.countP_pos_iff.mpr ⟨true, ?_, rfl⟩
  obtain ⟨a, b⟩ | ⟨a, b⟩ | ⟨a, b⟩ | ⟨a, b⟩ := h <;> simp [a, b]

/-- The condition of over-temperature, as the statements write it. -/
theorem overTempHolds_iff (r : PackRecord) :
    overTempHolds r = true ↔ r.alarm.overTemp = true ∨ 600 ≤ r.temperature := by
  simp [overTempHolds]

/-- What a good poll from the state `v` leaves of the pack, at the end of the command. -/
theorem goodPoll_leaves (p : PackId) (ws : List Word16) (s v : State) :
    let t := conclude s (goodPoll p ws v)
    wordsOf (t.pks.record.get p) = wordsOf (polledRecord ws v.uptime (v.pks.record.get p)) ∧
      alarmsTaken p (v.pks.record.get p) t := by
  intro t
  let r := polledRecord ws v.uptime (v.pks.record.get p)
  obtain ⟨charged, hot, on, held, hc, hh, set⟩ := goodPoll_record p ws v
  have record : t.pks.record.get p = withSwitch on held (judgedRecord charged hot r) := by
    rw [conclude_record]
    exact set
  obtain ⟨causes, state⟩ := withSwitch_judged on held (judgedRecord charged hot r)
  rw [← record] at causes state
  have words : wordsOf (t.pks.record.get p) = wordsOf r := by
    rw [record, wordsOf_withSwitch, wordsOf_judgedRecord]
  have chargedHolds : (t.pks.record.get p).alarm.overCharged = overChargeHolds r := overChargeHolds_congr words
  have hotHolds : ((t.pks.record.get p).alarm.overTemp = true ∨ 600 ≤ (t.pks.record.get p).temperature) ↔
      overTempHolds r = true := by
    rw [← overTempHolds_iff, overTempHolds_congr words]
  refine ⟨words, fun holds fresh there => ?overCharge, fun holds fresh there => ?overTemp, fun rises => ?wake,
    fun cool cold freshCharge freshTemp waits => ?ready⟩
  case overCharge =>
    have holds : overChargeHolds r = true := chargedHolds ▸ holds
    obtain rfl : charged = false := Bool.eq_false_iff.mpr fun h => Bool.false_ne_true ((hc h).symm.trans holds)
    obtain ⟨cause, faulted⟩ := judgedRecord_charged (r := r) hot holds fresh there
    have alarm := alarmInForce_conclude (s := s) (.inl rfl) (goodPoll_overCharged holds fresh)
    exact ⟨by rw [causes, cause], alarm.status, alarm.active, alarm.detail, alarm.level, alarm.wake,
      by rw [state, faulted]⟩
  case overTemp =>
    have holds : overTempHolds r = true := hotHolds.mp holds
    obtain rfl : hot = false := Bool.eq_false_iff.mpr fun h => Bool.false_ne_true ((hh h).symm.trans holds)
    obtain ⟨cause, faulted⟩ := judgedRecord_hot (r := r) charged holds fresh there
    have alarm := alarmInForce_conclude (s := s) (.inr rfl) (goodPoll_overTemp holds fresh)
    exact ⟨by rw [causes, cause], alarm.status, alarm.active, alarm.detail, alarm.level, alarm.wake,
      by rw [state, faulted]⟩
  case wake =>
    have flags : (t.pks.record.get p).alarm = r.alarm := (congrArg PackRecord.alarm words :)
    rw [flags] at rises
    exact status_conclude .packAlarm (goodPoll_wake (alarmsRisen_pos rises))
  case ready =>
    have cool : overChargeHolds r = false := chargedHolds ▸ Bool.eq_false_iff.mpr cool
    have cold : overTempHolds r = false := Bool.eq_false_iff.mpr fun h => cold (hotHolds.mpr h)
    have none : noCauses r.causes = true := by simp [noCauses, r, polledRecord, freshCharge, freshTemp]
    rw [state]
    exact judgedRecord_ready charged hot cool cold none waits

/-- A good poll's schedule, at the end of the command. -/
theorem goodPoll_timed (p : PackId) (ws : List Word16) (s v : State) : PollTimed p (conclude s (goodPoll p ws v)) :=
  pollTimed_busGrant (pollTimed_offerAtOff (chargeSettled_pollHanded p _ _) (pollTimed_schedulePoll p _))

/-! ## A failed poll -/

theorem failedPoll_counts (h : (s.pks.record.get p).failRun < 2) :
    failedPoll p s = modRecord p (fun r => { r with failRun := (s.pks.record.get p).failRun + 1 }) s := by
  have run : min 3 ((s.pks.record.get p).failRun + 1) = (s.pks.record.get p).failRun + 1 := by omega
  have third : ¬(s.pks.record.get p).failRun + 1 = 3 := by omega
  unfold failedPoll
  simp only [run, third, false_and, if_false]

/-- The third failed poll: the record as PKS holds it when it detects PACK_COMM_LOST. -/
def commLost (p : PackId) (s : State) : State :=
  judgeAtFailure p (modRecord p (fun r => { r with causes.comm := true, stale := true })
    (modRecord p (fun r => { r with failRun := 3 }) s))

theorem failedPoll_third (h : (s.pks.record.get p).failRun = 2) (hc : (s.pks.record.get p).causes.comm = false) :
    failedPoll p s =
      handRecord p (settleFaulted p (detectMild .packCommLost (byteOf p.code) (commLost p s))) := by
  unfold failedPoll
  simp only [h, hc]
  rfl

theorem commLost_record (p : PackId) (s : State) :
    (commLost p s).pks.record.get p =
      { s.pks.record.get p with failRun := 3, causes.comm := true, stale := true } := by
  unfold commLost judgeAtFailure
  dsimp only
  split
  · split <;> split <;> simp [judged, endFault, modRecord]
  · simp [modRecord]

/-- No other kind's judgement touches PACK_COMM_LOST. -/
theorem commLost_fault (p : PackId) (s : State) :
    (commLost p s).flt.get .packCommLost = s.flt.get .packCommLost := by
  have judged : Stands False [.packOverCharged, .packOverTemp] s (commLost p s) :=
    stands_judgeAtFailure (by decide) (by decide) (stands_modRecord (stands_modRecord (.refl s)))
  exact judged.record (by decide) (by decide) (by decide) (by decide)

theorem failedPoll_third_record (h : (s.pks.record.get p).failRun = 2)
    (hc : (s.pks.record.get p).causes.comm = false) :
    ∃ on held, (failedPoll p s).pks.record.get p =
      withSwitch on held
        (faultedRecord { s.pks.record.get p with failRun := 3, causes.comm := true, stale := true }) := by
  let d := detectMild .packCommLost (byteOf p.code) (commLost p s)
  have frame : d.pks.record = (commLost p s).pks.record := (detectMild_frame _ _ _).onlyPlatform.record
  obtain ⟨on, held, same⟩ := switchedRecord_eq (settleFaulted p d) p
  refine ⟨on, held, ?_⟩
  rw [failedPoll_third h hc, handRecord_record, same, settleFaulted_record, PerPack.get_set_same, frame,
    commLost_record]

theorem failedPoll_third_fault (h : (s.pks.record.get p).failRun = 2)
    (hc : (s.pks.record.get p).causes.comm = false) :
    (failedPoll p s).flt.get .packCommLost =
      recordedFault .packCommLost (byteOf p.code) (commLost p s).uptime (s.flt.get .packCommLost) := by
  have rest : Stands False [] (detectMild .packCommLost (byteOf p.code) (commLost p s)) (failedPoll p s) := by
    rw [failedPoll_third h hc]
    exact stands_handRecord (stands_settleFaulted (.refl _))
  rw [rest.record (by decide) (by decide) (by decide) (by decide), detectMild_get (by decide), commLost_fault]

/-- What follows a failed poll is a wait, which neither the record nor a fault reads. -/
theorem readsFailed_eq (p : PackId) (work : TurnWork) (s : State) :
    ∃ f, readsFailed p work s = modSchedule p f (failedPoll p s) ∧
      (work = .identification → f = fun x => { x with identLeft := some 1000 }) := by
  unfold readsFailed
  split
  · exact ⟨_, rfl, fun _ => rfl⟩
  next other => exact ⟨_, rfl, fun e => absurd e other⟩

/-- Beside the bus, packs alone have changed. -/
def PacksOnly (line : Bool) (s t : State) : Prop :=
  t = { s with
        inputs.busLineHigh := line, pbc := t.pbc, flt := t.flt
        pks := { s.pks with record := t.pks.record, schedule := t.pks.schedule } }

theorem PacksOnly.grant (h : PacksOnly line s v) (g : OnlyGrant v t) : PacksOnly line s t := by
  obtain ⟨grant, -⟩ := g
  have record : t.pks.record = v.pks.record := by rw [grant]
  unfold PacksOnly at *
  rw [h] at grant
  rw [record]
  exact grant

/-- The end of a command that leaves the platform state as it was. -/
theorem conclude_stays (h : t.psq.state = s.psq.state) : conclude s t = busGrant t := by
  unfold conclude
  rw [offerAtOff_same s t h]

theorem finish_failedPoll {work : TurnWork} (h : (s.pks.record.get p).failRun < 2) :
    ∃ t, finish s (readsFailed p work (turnOver line s)) = .next t ∧
      PacksOnly line s t ∧
      t.pks.record = s.pks.record.set p { s.pks.record.get p with failRun := (s.pks.record.get p).failRun + 1 } ∧
      (work = .identification → (t.pks.schedule.get p).identLeft = some 1000) := by
  obtain ⟨f, effect, ident⟩ := readsFailed_eq p work (turnOver line s)
  rw [failedPoll_counts (by exact h)] at effect
  rw [effect]
  refine ⟨_, congrArg Host.Outcome.next (conclude_stays (by rfl)), PacksOnly.grant (by rfl) (onlyGrant_busGrant _),
    ?_, fun e => ?_⟩
  · rw [(onlyGrant_busGrant _).1]
    rfl
  · refine (congrArg Prod.fst (busGrant_waits _ p)).trans ?_
    rw [ident e]
    exact congrArg PackSchedule.identLeft (PerPack.get_set_same _ _ _)

theorem finish_commLost {work : TurnWork} (h : (s.pks.record.get p).failRun = 2)
    (hc : (s.pks.record.get p).causes.comm = false) :
    ∃ t, finish s (readsFailed p work (turnOver line s)) = .next t ∧
      (∃ on held, t.pks.record.get p =
        withSwitch on held
          (faultedRecord { s.pks.record.get p with failRun := 3, causes.comm := true, stale := true })) ∧
      recorded .packCommLost (byteOf p.code) s t := by
  obtain ⟨f, effect, -⟩ := readsFailed_eq p work (turnOver line s)
  refine ⟨_, rfl, ?_, ?_⟩
  · rw [conclude_record, effect]
    exact failedPoll_third_record (s := turnOver line s) h hc
  · have fault := failedPoll_third_fault (s := turnOver line s) h hc
    have offered : Stands False [] (failedPoll p (turnOver line s))
        (offerAtOff s (readsFailed p work (turnOver line s))) := by
      rw [effect]
      exact stands_offerAtOff (stands_modSchedule (.refl _))
    refine recorded_of_get (now := (commLost p (turnOver line s)).uptime) ?_
    unfold conclude
    rw [fault_busGrant (by decide), offered.record (by decide) (by decide) (by decide) (by decide), fault]
    rfl

/-! ## A discharge-switch write (R30) -/

/-- An acknowledgement counts where the word is still the one that the switch wants. -/
theorem switchRecord_eq (w : Word16) (r : PackRecord) :
    (if switchWord r.switchOn = w then { r with switchWritten := true } else r) =
      { r with switchWritten := r.switchWritten || decide (w = if r.switchOn then 1 else 0) } := by
  by_cases h : switchWord r.switchOn = w
  · subst h
    simp [switchWord]
  · have other : ¬w = if r.switchOn then 1 else 0 := fun e => h e.symm
    rw [if_neg h, decide_eq_false other, Bool.or_false]

theorem packsOnly_switchWritten (w : Word16) (good : Bool) :
    PacksOnly line s (switchWritten p w good (busFreed line s)) := by
  unfold switchWritten
  split <;> rfl

theorem finish_switchWrite (w : Word16) (result : Option (List Byte)) :
    ∃ t, finish s (packOutcome p turn (.writeWord 0x2B w) result (busFreed line s)) = .next t ∧
      PacksOnly line s t ∧
      t.pks.record = (switchWritten p w result.isSome (busFreed line s)).pks.record := by
  obtain ⟨v, effect, only, record⟩ : ∃ v, packOutcome p turn (.writeWord 0x2B w) result (busFreed line s) = v ∧
      PacksOnly line s v ∧ v.pks.record = (switchWritten p w result.isSome (busFreed line s)).pks.record := by
    have written := packsOnly_switchWritten (line := line) (s := s) (p := p) w result.isSome
    unfold packOutcome
    dsimp only
    split
    · exact ⟨_, rfl, written.grant ⟨rfl, .inl rfl⟩, rfl⟩
    · exact ⟨_, rfl, written, rfl⟩
  have state : v.psq.state = s.psq.state := by rw [only]
  rw [effect]
  refine ⟨busGrant v, congrArg Host.Outcome.next (conclude_stays state), only.grant (onlyGrant_busGrant v), ?_⟩
  rw [(onlyGrant_busGrant v).1]
  exact record

/-- Settles O38: a good poll is judged word by word and handed on, a failed one counts, and a switch write is taken by
its acknowledgement. -/
theorem pollsUpdateOrFaultThePack : Obligations.PollsUpdateOrFaultThePack := by
  intro p x words line s r word packsOnly
  refine ⟨fun h lo hi => ?poll, fun h lo hi => ?identification, fun work _ h second => ⟨fun run => ?counts,
    fun run comm => ?third⟩, fun w turn h ht => ⟨fun data => ?acked, fun second => ?notAcked⟩⟩
  case poll =>
    let ws := words ++ [BitVec.ofNat 16 (lo.toNat + 256 * hi.toNat)]
    obtain ⟨held, alarms⟩ := goodPoll_leaves p ws s (turnOver line s)
    exact ⟨_, exec_lastWord h lo hi, pollWordsHeld_of_wordsOf held, alarms,
      (congrArg PackRecord.identified held :), (congrArg PackRecord.present held :),
      goodPoll_timed p ws s (turnOver line s)⟩
  case identification =>
    let ws := words ++ [BitVec.ofNat 16 (lo.toNat + 256 * hi.toNat)]
    let v := modRecord p (fun r => { r with
      identified := true, cycleCount := (wordAt ws 0).toNat, designCapacity := (wordAt ws 1).toNat }) (turnOver line s)
    have record : v.pks.record.get p = { s.pks.record.get p with
        identified := true, cycleCount := (wordAt ws 0).toNat, designCapacity := (wordAt ws 1).toNat } :=
      PerPack.get_set_same _ _ _
    obtain ⟨held, alarms⟩ := goodPoll_leaves p (ws.drop 2) s v
    rw [record] at held alarms
    have shifted : wordAt (ws.drop 2) = fun i => word lo hi (i + 2) := by
      funext i
      simp only [wordAt, List.getD_eq_getElem?_getD, List.getElem?_drop, Nat.add_comm 2 i, ws, word]
    exact ⟨_, exec_lastWord h lo hi, shifted ▸ pollWordsHeld_of_wordsOf held, alarms,
      (congrArg PackRecord.identified held :), (congrArg PackRecord.cycleCount held :),
      (congrArg PackRecord.designCapacity held :), (congrArg PackRecord.present held :)⟩
  case counts =>
    obtain ⟨t, ends, only, record, ident⟩ := finish_failedPoll (line := line) (work := work) run
    exact ⟨t, (exec_lastWordFails h second).trans ends, only, record, ident⟩
  case third =>
    obtain ⟨t, ends, ⟨on, held, record⟩, fault⟩ := finish_commLost (line := line) (work := work) run comm
    refine ⟨t, (exec_lastWordFails h second).trans ends, ?_⟩
    let q : PackRecord := { r with failRun := 3, causes.comm := true, stale := true }
    have words : wordsOf (t.pks.record.get p) = wordsOf q := by
      rw [record, wordsOf_withSwitch, wordsOf_faulted]
    obtain ⟨causes, state⟩ := withSwitch_judged on held (faultedRecord q)
    rw [← record] at causes state
    refine ⟨(congrArg PackRecord.failRun words :), causes.trans (faultedRecord_causes q),
      (congrArg PackRecord.stale words :), fault, state.trans ?_, (congrArg PackRecord.voltage words :)⟩
    simp only [faultedRecord, Bool.or_eq_true, beq_iff_eq, q]
    split <;> rfl
  case acked =>
    obtain ⟨t, ends, only, record⟩ := finish_switchWrite (s := s) (p := p) (turn := turn) (line := line) w (some data)
    refine ⟨t, (exec_packAcked h ht rfl).trans ends, only, record.trans ?_⟩
    exact congrArg (s.pks.record.set p) (switchRecord_eq w r)
  case notAcked =>
    obtain ⟨t, ends, only, record⟩ := finish_switchWrite (s := s) (p := p) (turn := turn) (line := line) w none
    exact ⟨t, (exec_packFailed h ht second).trans ends, only, record⟩

end Sys2Proof.Proofs
end

section
/-! The steps of FAULT_CLEAR (R173), one by one: the named records are cleared, packs are freed, kinds that are still
active are detected again, and the level is released. -/

namespace Sys2Proof.Machine

open Sys2Proof.Safety

variable {moved severe : Prop} {ks : List FaultKind} {s t u c : State} {p : PackId} {k : FaultKind} {mask : Nat}

/-! ## Step 1: the named records -/

theorem clearNamed_get (mask : Nat) (s : State) (k : FaultKind) :
    (clearNamed mask s).flt.get k = if named mask k then clearedFault (s.flt.get k) else s.flt.get k := by
  simp only [clearNamed, FaultUnit.get, named, Fin.getElem_fin, Vector.getElem_mapIdx]
  rfl

theorem clearNamed_active (mask : Nat) (s : State) (k : FaultKind) :
    ((clearNamed mask s).flt.get k).active = (s.flt.get k).active := by
  rw [clearNamed_get]
  split <;> rfl

theorem clearNamed_named (h : named mask k = true) (s : State) :
    (clearNamed mask s).flt.get k = clearedFault (s.flt.get k) := by
  rw [clearNamed_get, if_pos h]

/-! ## Step 2: the packs (R29) -/

/-- A record less its discharge switch. -/
def beyondSwitch (r : PackRecord) : PackRecord :=
  { r with switchOn := false, switchHeld := false, switchWritten := false }

theorem beyondSwitch_withSwitch (on held : Bool) (r : PackRecord) :
    beyondSwitch (withSwitch on held r) = beyondSwitch r := by
  unfold withSwitch
  split <;> rfl

/-- A pack's record after a clear that names over-charge (`charged`) or over-temperature (`hot`). -/
def freedRecord (charged hot : Bool) (r : PackRecord) : PackRecord :=
  let d := droppedRecord (charged && !overChargeHolds r) (hot && !overTempHolds r) r
  if d.causes = r.causes then d else readiedRecord d

theorem beyondSwitch_readied (r : PackRecord) : beyondSwitch (readiedRecord r) = readiedRecord (beyondSwitch r) := by
  unfold readiedRecord beyondSwitch
  split <;> rfl

theorem beyondSwitch_freed (charged hot : Bool) (r : PackRecord) :
    beyondSwitch (freedRecord charged hot r) = freedRecord charged hot (beyondSwitch r) := by
  have dropped : beyondSwitch (droppedRecord (charged && !overChargeHolds r) (hot && !overTempHolds r) r) =
      droppedRecord (charged && !overChargeHolds (beyondSwitch r)) (hot && !overTempHolds (beyondSwitch r))
        (beyondSwitch r) := rfl
  unfold freedRecord
  dsimp only
  rw [← dropped, ← beyondSwitch_readied]
  exact apply_ite beyondSwitch _ _ _

/-- The causes that a clear leaves. -/
theorem freedRecord_causes (charged hot : Bool) (r : PackRecord) :
    (freedRecord charged hot r).causes =
      ⟨r.causes.comm, r.causes.overCharged && !(charged && !overChargeHolds r),
        r.causes.overTemp && !(hot && !overTempHolds r)⟩ := by
  unfold freedRecord
  dsimp only
  split
  · rfl
  · exact readiedRecord_causes _

/-- A pack that is FAULTED, and loses its last cause, is READY. -/
theorem freedRecord_state (charged hot : Bool) (r : PackRecord)
    (h : r.state ≠ .identify ∨ r.causes = ⟨false, false, false⟩) :
    (freedRecord charged hot r).state =
      (if (freedRecord charged hot r).causes ≠ r.causes ∧
          (freedRecord charged hot r).causes = ⟨false, false, false⟩ ∧ r.state = .faulted then .ready
        else r.state) := by
  unfold freedRecord
  dsimp only
  generalize hd : droppedRecord (charged && !overChargeHolds r) (hot && !overTempHolds r) r = d
  have state : d.state = r.state := by
    subst hd
    rfl
  by_cases same : d.causes = r.causes
  · rw [if_pos same, if_neg fun moved => moved.1 same]
    exact state
  · have waiting : r.state ≠ .identify := by
      refine h.resolve_right fun none => same ?_
      subst hd
      simp [droppedRecord, none]
    have none : noCauses d.causes = true ↔ d.causes = ⟨false, false, false⟩ := by
      obtain ⟨a, b, c⟩ := d.causes
      cases a <;> cases b <;> cases c <;> decide
    rw [if_neg same, readiedRecord_causes]
    unfold readiedRecord
    by_cases leaves : d.causes = ⟨false, false, false⟩ ∧ r.state = .faulted
    · rw [if_pos (by simp [none.mpr leaves.1, state, leaves.2]), if_pos ⟨same, leaves⟩]
    · rw [if_neg (fun moves => leaves ?_), if_neg fun moved => leaves moved.2]
      · exact state
      · obtain ⟨empty, either⟩ := Bool.and_eq_true_iff.mp moves
        refine ⟨none.mp empty, ?_⟩
        rw [state] at either
        simpa [waiting] using either

theorem modRecord_same {f : PackRecord → PackRecord} (h : f (s.pks.record.get p) = s.pks.record.get p) :
    modRecord p f s = s := by
  simp only [modRecord, h, PerPack.set_get]

theorem modRecord_modRecord (f g : PackRecord → PackRecord) (s : State) :
    modRecord p g (modRecord p f s) = modRecord p (fun r => g (f r)) s := by
  simp only [modRecord, PerPack.get_set_same, PerPack.set_set]

theorem dropOverCharge_clear (charged : Bool)
    (h : charged = true → (s.flt.get .packOverCharged).status = false) :
    (if charged then dropOverCharge p s else s) =
      modRecord p (fun r => droppedRecord (charged && !overChargeHolds r) false r) s := by
  cases charged with
  | false => exact (modRecord_same (droppedRecord_none _)).symm
  | true =>
    unfold dropOverCharge
    rw [h rfl, if_pos rfl, Bool.or_false]
    split
    next holds => exact (modRecord_same (by simp only [holds]; exact droppedRecord_none _)).symm
    next gone =>
      have gone := Bool.eq_false_iff.mpr gone
      simp [modRecord, gone, droppedRecord]

theorem dropOverTemp_clear (hot : Bool) (h : hot = true → (s.flt.get .packOverTemp).status = false) :
    (if hot then dropOverTemp p s else s) =
      modRecord p (fun r => droppedRecord false (hot && !overTempHolds r) r) s := by
  cases hot with
  | false => exact (modRecord_same (droppedRecord_none _)).symm
  | true =>
    unfold dropOverTemp
    rw [h rfl, if_pos rfl, Bool.or_false]
    split
    next holds => exact (modRecord_same (by simp only [holds]; exact droppedRecord_none _)).symm
    next gone =>
      have gone := Bool.eq_false_iff.mpr gone
      simp [modRecord, gone, droppedRecord]

/-- What a clear drops of a pack, before it is handed on. -/
def causesDropped (charged hot : Bool) (p : PackId) (s : State) : State :=
  modRecord p (fun r => droppedRecord (charged && !overChargeHolds r) (hot && !overTempHolds r) r) s

/-- Where the named statuses are clear, the conditions alone decide. -/
theorem clearCauses_eq (charged hot : Bool) (p : PackId) (s : State)
    (hc : charged = true → (s.flt.get .packOverCharged).status = false)
    (hh : hot = true → (s.flt.get .packOverTemp).status = false) :
    clearCauses charged hot p s =
      (let d := causesDropped charged hot p s
       if (d.pks.record.get p).causes = (s.pks.record.get p).causes then d else handRecord p (settleReady p d)) := by
  have dropped : (if hot then dropOverTemp p (if charged then dropOverCharge p s else s)
      else if charged then dropOverCharge p s else s) = causesDropped charged hot p s := by
    rw [dropOverCharge_clear charged hc,
      dropOverTemp_clear (s := modRecord p (fun r => droppedRecord (charged && !overChargeHolds r) false r) s) hot hh,
      modRecord_modRecord]
    unfold causesDropped
    congr 1
    funext r
    have same : overTempHolds (droppedRecord (charged && !overChargeHolds r) false r) = overTempHolds r := rfl
    simp only [same]
    simp [droppedRecord]
  unfold clearCauses
  dsimp only
  rw [dropped]

theorem causesDropped_record (charged hot : Bool) (p : PackId) (s : State) :
    (causesDropped charged hot p s).pks.record.get p =
      droppedRecord (charged && !overChargeHolds (s.pks.record.get p)) (hot && !overTempHolds (s.pks.record.get p))
        (s.pks.record.get p) := PerPack.get_set_same _ _ _

theorem beyondSwitch_switched (s : State) (q : PackId) :
    beyondSwitch (switchedRecord s q) = beyondSwitch (s.pks.record.get q) := by
  obtain ⟨on, held, same⟩ := switchedRecord_eq s q
  rw [same, beyondSwitch_withSwitch]

/-- One pack is freed, and of the other only the switch can change. -/
theorem clearCauses_record (charged hot : Bool) (p q : PackId) (s : State)
    (hc : charged = true → (s.flt.get .packOverCharged).status = false)
    (hh : hot = true → (s.flt.get .packOverTemp).status = false) :
    beyondSwitch ((clearCauses charged hot p s).pks.record.get q) =
      beyondSwitch (if q = p then freedRecord charged hot (s.pks.record.get p) else s.pks.record.get q) := by
  rw [clearCauses_eq charged hot p s hc hh]
  dsimp only
  by_cases own : q = p
  · subst own
    rw [if_pos rfl, causesDropped_record]
    unfold freedRecord
    dsimp only
    split
    · rw [causesDropped_record]
    · rw [handRecord_record, beyondSwitch_switched, settleReady_record, PerPack.get_set_same, causesDropped_record]
  · have other : (causesDropped charged hot p s).pks.record.get q = s.pks.record.get q := PerPack.get_set_ne _ _ own
    rw [if_neg own]
    split
    · rw [other]
    · rw [handRecord_record, beyondSwitch_switched, settleReady_record, PerPack.get_set_ne _ _ own, other]

theorem stands_clearCauses {charged hot : Bool} (h : Stands severe ks s t) :
    Stands severe ks s (clearCauses charged hot p t) := by
  have dropped (c d : Prop) [Decidable c] [Decidable d] :
      Stands severe ks s (if d then dropOverTemp p (if c then dropOverCharge p t else t)
        else if c then dropOverCharge p t else t) := by
    have first : Stands severe ks s (if c then dropOverCharge p t else t) := by
      unfold dropOverCharge
      exact stands_ite (stands_ite h (stands_modRecord h)) h
    unfold dropOverTemp
    exact stands_ite (stands_ite first (stands_modRecord first)) first
  unfold clearCauses
  exact stands_ite (dropped _ _) (stands_handRecord (stands_settleReady (dropped _ _)))

/-- The second step touches packs, and nothing of the fault table but RPM's own kinds and what THU ends with ON. -/
theorem stands_clearPackCauses (mask : Nat) (s : State) : Stands False [] s (clearPackCauses mask s) :=
  stands_clearCauses (stands_clearCauses (.refl s))

/-- Without a name of theirs the packs stand. -/
theorem clearPackCauses_unnamed (charged : named mask .packOverCharged = false)
    (hot : named mask .packOverTemp = false) (s : State) : clearPackCauses mask s = s := by
  simp [clearPackCauses, clearCauses, charged, hot]

/-- Both packs are freed by the same rule. -/
theorem clearPackCauses_record (mask : Nat) (s : State) (p : PackId)
    (hc : named mask .packOverCharged = true → (s.flt.get .packOverCharged).status = false)
    (hh : named mask .packOverTemp = true → (s.flt.get .packOverTemp).status = false) :
    beyondSwitch ((clearPackCauses mask s).pks.record.get p) =
      beyondSwitch (freedRecord (named mask .packOverCharged) (named mask .packOverTemp) (s.pks.record.get p)) := by
  let a := clearCauses (named mask .packOverCharged) (named mask .packOverTemp) .a s
  have first : Stands False [] s a := stands_clearCauses (.refl s)
  have still {k : FaultKind} (mild : k ∉ memoryKinds) (h : (s.flt.get k).status = false) :
      (a.flt.get k).status = false :=
    (congrArg FaultRecord.status (first.fault k mild (by simp)) :).trans h
  have hcA := fun e => still (k := .packOverCharged) (by decide) (hc e)
  have hhA := fun e => still (k := .packOverTemp) (by decide) (hh e)
  have second := clearCauses_record (named mask .packOverCharged) (named mask .packOverTemp) .b p a hcA hhA
  have own := fun q => clearCauses_record (named mask .packOverCharged) (named mask .packOverTemp) .a q s hc hh
  refine second.trans ?_
  cases p with
  | a => exact own .a
  | b =>
    have same : beyondSwitch (a.pks.record.get .b) = beyondSwitch (s.pks.record.get .b) := own .b
    simp only [if_true, beyondSwitch_freed, same]

/-! ## Step 2 in OFF -/

/-- The state of the platform and the thermal trip are as they were. -/
def RestsWithTrip (s t : State) : Prop :=
  t.psq.state = s.psq.state ∧ (t.flt.get .thermalTrip).active = (s.flt.get .thermalTrip).active

theorem Steady.restsWithTrip (h : Steady False severe [] s t) : RestsWithTrip s t :=
  ⟨h.rest not_false, h.active .thermalTrip (by decide) (by simp) False.elim⟩

theorem RestsWithTrip.trans (h : RestsWithTrip s t) (g : RestsWithTrip t u) : RestsWithTrip s u :=
  ⟨g.1.trans h.1, g.2.trans h.2⟩

/-- In OFF a hand-off of a record ends with no trip, and begins no start. -/
theorem handRecord_rests (off : s.psq.state = .off) (p : PackId) : RestsWithTrip s (handRecord p s) := by
  have taken : RestsWithTrip s (handToCharge p s) := (steady_handToCharge p s).restsWithTrip
  have past {t : State} (h : RestsWithTrip s t) : RestsWithTrip s (handedPastCharge p t) := h
  have handed := past taken
  rw [handRecord_eq]
  exact handed.trans
    (steady_judgeCritical_off (moved := False) (severe := False) (handed.1.trans off) (.refl _)).restsWithTrip

theorem settleReady_rests (p : PackId) (s : State) : RestsWithTrip s (settleReady p s) := by
  have raised {n : Notice} {t : State} : RestsWithTrip t (raise n t) :=
    (steady_raise (moved := False) (severe := False) (ks := []) (.refl t)).restsWithTrip
  unfold settleReady
  dsimp only
  split
  · exact raised
  · exact ⟨rfl, rfl⟩

theorem clearCauses_rests {charged hot : Bool} (off : s.psq.state = .off) (p : PackId)
    (hc : charged = true → (s.flt.get .packOverCharged).status = false)
    (hh : hot = true → (s.flt.get .packOverTemp).status = false) :
    RestsWithTrip s (clearCauses charged hot p s) := by
  rw [clearCauses_eq charged hot p s hc hh]
  have dropped : RestsWithTrip s (causesDropped charged hot p s) := ⟨rfl, rfl⟩
  have ready := dropped.trans (settleReady_rests p _)
  dsimp only
  split
  · exact dropped
  · exact ready.trans (handRecord_rests (ready.1.trans off) p)

theorem clearPackCauses_rests (off : s.psq.state = .off)
    (hc : named mask .packOverCharged = true → (s.flt.get .packOverCharged).status = false)
    (hh : named mask .packOverTemp = true → (s.flt.get .packOverTemp).status = false) :
    RestsWithTrip s (clearPackCauses mask s) := by
  have first := clearCauses_rests off .a hc hh
  have stands : Stands False [] s
      (clearCauses (named mask .packOverCharged) (named mask .packOverTemp) .a s) := stands_clearCauses (.refl s)
  have still {k : FaultKind} (mild : k ∉ memoryKinds) (h : (s.flt.get k).status = false) :=
    (congrArg FaultRecord.status (stands.fault k mild (by simp)) :).trans h
  exact first.trans (clearCauses_rests (first.1.trans off) .b (fun e => still (by decide) (hc e))
    fun e => still (by decide) (hh e))

/-! ## Step 3: what is still active -/

/-- All kinds but one. -/
def others (k : FaultKind) : List FaultKind := allFaultKinds.filter (· ≠ k)

theorem mem_others {j : FaultKind} : j ∈ others k ↔ j ≠ k := by
  simp [others]

/-- The kinds that are not SEVERE. -/
def mildKinds : List FaultKind := allFaultKinds.filter fun k => !k.severe

theorem mem_mildKinds : k ∈ mildKinds ↔ k.severe = false := by
  simp [mildKinds]

theorem redetect_eq (mask : Nat) (s : State) (k : FaultKind) (h : named mask k = true)
    (active : (s.flt.get k).active = true) : redetect mask s k = detect k (s.flt.get k).detail s := by
  simp [redetect, h, active]

theorem redetect_same (mask : Nat) (s : State) (k : FaultKind)
    (h : named mask k = true → (s.flt.get k).active = false) : redetect mask s k = s := by
  unfold redetect
  cases hn : named mask k with
  | false => simp
  | true => simp [h hn]

/-- A redetection of a kind in `ks`; a SEVERE one comes in OFF, unless the platform may move. -/
theorem steady_redetect (hk : k ∈ ks ∨ (named mask k = true → (t.flt.get k).active = false))
    (hs : k.severe = true → severe ∧ (¬moved → c.psq.state = .off)) (h : Steady moved severe ks c t) :
    Steady moved severe ks c (redetect mask t k) := by
  unfold redetect
  split
  next found =>
    obtain ⟨name, active⟩ := Bool.and_eq_true_iff.mp found
    have hk : k ∈ ks := hk.resolve_right fun none => by simp [none name] at active
    refine steady_detect_of hk (fun sev v hv same => ?_) h
    by_cases hm : moved
    · exact steady_contain hm (hs sev).1 hv
    · exact steady_contain_off (same.trans ((h.rest hm).trans ((hs sev).2 hm))) (hs sev).1 hv
  next => exact h

/-- A run of them, which leaves out the kinds that are not active. -/
theorem steady_redetects {l : List FaultKind}
    (hl : ∀ j ∈ l, j ∈ ks ∨ j ∉ memoryKinds ∧ (named mask j = true → (c.flt.get j).active = false))
    (hs : ∀ j ∈ l, j ∈ ks → j.severe = true → severe ∧ (¬moved → c.psq.state = .off)) :
    Steady moved severe ks c (l.foldl (redetect mask) c) := by
  refine List.foldlRecOn l (redetect mask) (.refl c) fun t h j hj => ?_
  by_cases hk : j ∈ ks
  · exact steady_redetect (.inl hk) (hs j hj hk) h
  · obtain ⟨mild, inactive⟩ := (hl j hj).resolve_left hk
    have still (name : named mask j = true) : (t.flt.get j).active = false := by
      refine Bool.eq_false_iff.mpr fun active => ?_
      exact Bool.false_ne_true ((inactive name).symm.trans (h.ended j mild hk active))
    rw [redetect_same mask t j still]
    exact h

/-- The kinds before and after a kind, in the order of the fault table. -/
theorem allFaultKinds_around (k : FaultKind) :
    ∃ l₁ l₂, allFaultKinds = l₁ ++ k :: l₂ ∧ k ∉ l₁ ∧ k ∉ l₂ := by
  obtain ⟨l₁, l₂, split⟩ := List.append_of_mem (mem_allFaultKinds k)
  have distinct : allFaultKinds.Nodup := by decide
  rw [split, List.nodup_middle, List.nodup_cons, List.mem_append, not_or] at distinct
  exact ⟨l₁, l₂, split, distinct.1.1, distinct.1.2⟩

/-- The record of a lasting kind that is detected again after a clear. -/
theorem recordedFault_cleared {r x : FaultRecord} {detail : Byte} {now : Stamp} (lasting : k.lasting = true)
    (h : inactive r = inactive (clearedFault x)) :
    let d := recordedFault k detail now r
    d.status = true ∧ d.active = true ∧ d.count = 1 ∧ d.firstStamp = now ∧ d.detail = detail := by
  have status : r.status = false := (congrArg FaultRecord.status h :)
  have count : r.count = 0 := (congrArg FaultRecord.count h :)
  simp [recordedFault, lasting, status, count]

/-! ## Step 5: the release (R167) -/

theorem steady_releaseAtClear (h : Steady moved severe ks s t) : Steady moved severe ks s (releaseAtClear mask t) := by
  unfold releaseAtClear
  split
  · exact h
  next released =>
    have none : severeActive t.flt = false := Bool.eq_false_iff.mpr fun e => released (.inr (.inr e))
    exact steady_setLevel (.inr rfl) (fun held => absurd held (not_heldBy_of_severeActive none)) h

theorem releaseAtClear_released (hm : mask ≠ 0) (status : severeStatus s.flt = false)
    (active : severeActive s.flt = false) : (releaseAtClear mask s).flt.level = .none := by
  simp [releaseAtClear, hm, status, active, setLevel_level]

/-! ## The bus -/

/-- The platform's work makes nothing due on the bus. -/
theorem Steady.sameBus (h : Steady moved severe ks s t) : SameBus s t where
  pbc := h.platform.pbc
  record := h.platform.record
  due p := by
    obtain ⟨fast, same⟩ := h.schedule p
    rw [same]
    unfold hasten
    split <;> rfl

end Sys2Proof.Machine
end

section
/-! The statement about the fault requests. -/

namespace Sys2Proof.Proofs

open Sys2Proof.Machine Sys2Proof.Safety

variable {s t u c : State} {p : PackId} {k : FaultKind} {mask : Nat} {o : Outgoing}

/-! ## The end of the request -/

/-- In OFF already, the end of a command offers nothing. -/
theorem steady_offeredFrom (s t : State) : Steady (s.psq.state ≠ .off) False [] t (offerAtOff s t) := by
  by_cases off : s.psq.state = .off
  · rw [offerAtOff_of_off fun _ => off]
    exact .refl t
  · exact (steady_offered s t).mono (fun _ => off) id fun _ => id

theorem conclude_fault (hm : k ∉ memoryKinds) (free : k ≠ .busStuck) (lasts : s.psq.state ≠ .off → ¬EndsWithOn k) :
    (conclude s (deliver o u)).flt.get k = u.flt.get k := by
  have same : (deliver o u).flt = u.flt := by rw [deliver_frame]
  unfold conclude
  rw [fault_busGrant free, (steady_offeredFrom s (deliver o u)).record hm (by simp) lasts, same]

theorem conclude_level (held : HeldBy (s.psq.state ≠ .off) [] u) (raised : u.flt.level ≠ .none) :
    (conclude s (deliver o u)).flt.level ≠ .none ∧
      (u.flt.level = .shed → (conclude s (deliver o u)).flt.level = .shed) := by
  have same : (deliver o u).flt = u.flt := by rw [deliver_frame]
  have held : HeldBy (s.psq.state ≠ .off) [] (deliver o u) := by
    unfold HeldBy
    rw [same]
    exact held
  unfold conclude
  rw [level_busGrant, ← same]
  exact (steady_offeredFrom s (deliver o u)).level held (same ▸ raised)

theorem conclude_released (h : u.flt.level = .none) : (conclude s (deliver o u)).flt.level = .none := by
  have same : (deliver o u).flt = u.flt := by rw [deliver_frame]
  unfold conclude
  rw [level_busGrant]
  exact (steady_offeredFrom s (deliver o u)).released not_false (same ▸ h)

/-- A SEVERE kind that is active refuses every start from OFF (R148). -/
theorem offerWake_refused (off : t.psq.state = .off) (held : severeActive t.flt = true) :
    (offerWake t).psq = t.psq := by
  have refused : startAllowed t = false := by simp [startAllowed, held]
  unfold offerWake
  rw [off, refused]
  split <;> rfl

theorem conclude_off (off : u.psq.state = .off) (held : severeActive u.flt = true) :
    (conclude s (deliver o u)).psq = u.psq := by
  have same : (deliver o u).flt = u.flt ∧ (deliver o u).psq = u.psq := by
    rw [deliver_frame]
    exact ⟨rfl, rfl⟩
  obtain ⟨flt, psq⟩ := same
  have offered : (offerAtOff s (deliver o u)).psq = (deliver o u).psq := by
    unfold offerAtOff
    split
    · exact offerWake_refused (psq ▸ off) (flt ▸ held)
    · rfl
  unfold conclude
  rw [(onlyGrant_busGrant _).1]
  exact offered.trans psq

/-! ## FAULT_CLEAR -/

theorem le24At_bytes (a b c : Byte) : le24At [a, b, c] 0 = a.toNat + 256 * b.toNat + 65536 * c.toNat := rfl

/-- The state that a FAULT_CLEAR leaves, before its reply. -/
def clearEnd (mask : Nat) (s : State) : State := releaseAtClear mask (refreshChargeLed (clearAndRedetect mask s))

/-- And its reply. -/
def clearReply (mask : Nat) (s : State) : List Byte :=
  stOk :: faultStatuses (clearAndRedetect mask s).flt ++ [byteOf (clearEnd mask s).flt.level.code]

theorem serveFaultClear_eq {a b c : Byte} (hm : a.toNat + 256 * b.toNat + 65536 * c.toNat = mask)
    (h : mask ≤ 1048575) (s : State) : serveFaultClear [a, b, c] s = (clearEnd mask s, clearReply mask s) := by
  subst hm
  unfold serveFaultClear
  rw [le24At_bytes]
  rw [if_neg (by simp), if_neg (by omega)]
  rfl

theorem exec_faultClear {a b c : Byte} (hq : quiet s = true)
    (hm : a.toNat + 256 * b.toNat + 65536 * c.toNat = mask) (h : mask ≤ 1048575) :
    exec (.faultClear [a, b, c]) s =
      .next (conclude s (deliver (replyTo 0x71 (clearReply mask (huntAgain s))) (clearEnd mask (huntAgain s)))) := by
  refine congrArg (finish s) ?_
  rw [request_idle _ _ _ _ (quiet_linkIdle hq), serveFaultClear_eq hm h]

/-- From the redetections to the reply only the level can be released. -/
theorem steady_clearEnd (mask : Nat) (s : State) : Steady False False [] (clearAndRedetect mask s) (clearEnd mask s) :=
  steady_releaseAtClear (steady_refreshChargeLed (.refl _))

/-- The packs of `s` have been freed. -/
def packsFreed (mask : Nat) (s : State) : State := clearPackCauses mask (clearNamed mask s)

theorem clearAndRedetect_eq (mask : Nat) (s : State) :
    clearAndRedetect mask s = allFaultKinds.foldl (redetect mask) (packsFreed mask s) := rfl

theorem stands_packsFreed (mask : Nat) (s : State) : Stands False [] (clearNamed mask s) (packsFreed mask s) :=
  stands_clearPackCauses mask _

/-- The record of a named kind before the redetections. -/
theorem packsFreed_inactive (hm : k ∉ memoryKinds) (name : named mask k = true) (s : State) :
    inactive ((packsFreed mask s).flt.get k) = inactive (clearedFault (s.flt.get k)) := by
  rw [(stands_packsFreed mask s).fault k hm (by simp), clearNamed_named name]

theorem packsFreed_active (hm : k ∉ memoryKinds) (h : ((packsFreed mask s).flt.get k).active = true) :
    (s.flt.get k).active = true :=
  (clearNamed_active mask s k).symm.trans ((stands_packsFreed mask s).ended k hm (by simp) h)

theorem lasting_not_memory (h : k.lasting = true) : k ∉ memoryKinds := by
  intro hm
  simp only [memoryKinds, List.mem_cons, List.not_mem_nil, or_false] at hm
  obtain rfl | rfl | rfl := hm <;> cases h

theorem severe_not_memory (h : k.severe = true) : k ∉ memoryKinds := fun hm => by simp [memoryKinds_mild hm] at h

theorem severe_of_severity (h : k.severity = .severe) : k.severe = true := by
  simp [FaultKind.severe, h]

/-! ## A clear without detections -/

/-- A clear of kinds that are neither active nor a pack's alarm only clears. -/
theorem clearAndRedetect_clean (charged : named mask .packOverCharged = false)
    (hot : named mask .packOverTemp = false) (none : ∀ k, named mask k = true → (s.flt.get k).active = false) :
    clearAndRedetect mask s = clearNamed mask s := by
  rw [clearAndRedetect_eq, packsFreed, clearPackCauses_unnamed charged hot]
  refine List.foldlRecOn (motive := (· = clearNamed mask s)) _ _ rfl fun t h k _ => ?_
  subst h
  exact redetect_same mask _ k fun name => (clearNamed_active mask s k).trans (none k name)

theorem exec_cleanClear {a b c : Byte} (hq : quiet s = true)
    (hm : a.toNat + 256 * b.toNat + 65536 * c.toNat = mask) (h : mask ≤ 1048575)
    (charged : named mask .packOverCharged = false) (hot : named mask .packOverTemp = false)
    (none : ∀ k, named mask k = true → (s.flt.get k).active = false) (level : s.flt.level = .none) :
    exec (.faultClear [a, b, c]) s =
      .next (answered 0x71 (0 :: faultStatuses (clearNamed mask s).flt ++ [0])
        (refreshChargeLed (clearNamed mask s))) := by
  have cleared : clearAndRedetect mask (huntAgain s) = huntAgain (clearNamed mask s) :=
    clearAndRedetect_clean charged hot none
  have ended : clearEnd mask (huntAgain s) = huntAgain (refreshChargeLed (clearNamed mask s)) := by
    unfold clearEnd releaseAtClear
    rw [cleared]
    split
    · rfl
    · exact setLevel_same _ _ level
  have reply : clearReply mask (huntAgain s) = 0 :: faultStatuses (clearNamed mask s).flt ++ [0] := by
    unfold clearReply
    rw [ended, cleared]
    have code : (huntAgain (refreshChargeLed (clearNamed mask s))).flt.level.code = 0 :=
      congrArg ContainmentLevel.code level
    rw [code]
    rfl
  refine finish_request hq ?_ rfl ⟨rfl, rfl, fun _ => rfl⟩ rfl
  rw [serveFaultClear_eq hm h, ended, reply]

/-! ## Kinds that are detected again -/

/-- Where no SEVERE kind is named and active, the redetections are reports. -/
theorem steady_mildRedetects {l : List FaultKind}
    (none : ∀ k, k.severe = true → named mask k = true → (c.flt.get k).active = false) :
    Steady False False mildKinds c (l.foldl (redetect mask) c) := by
  refine steady_redetects (fun j _ => ?_) fun j _ hj sev => ?_
  · cases sev : j.severe with
    | false => exact .inl (mem_mildKinds.mpr sev)
    | true => exact .inr ⟨severe_not_memory sev, none j sev⟩
  · simp [mem_mildKinds.mp hj] at sev

/-- Around one kind, they leave its record alone. -/
theorem steady_mildRedetects_beside {l : List FaultKind} (hk : k ∉ l)
    (none : ∀ k, k.severe = true → named mask k = true → (c.flt.get k).active = false) :
    Steady False False (mildKinds.filter (· ≠ k)) c (l.foldl (redetect mask) c) := by
  refine steady_redetects (fun j hj => ?_) fun j _ hj sev => ?_
  · cases sev : j.severe with
    | false => exact .inl (by simp [mem_mildKinds, sev, ne_of_mem_of_not_mem hj hk])
    | true => exact .inr ⟨severe_not_memory sev, none j sev⟩
  · simp [mem_mildKinds, sev] at hj

/-- A lasting kind that is named and active has been detected once more after its clear. -/
theorem mildRedetected (hc : ∀ k, k.severe = true → named mask k = true → (c.flt.get k).active = false)
    {x : FaultRecord} (lasting : k.lasting = true) (name : named mask k = true) (sev : k.severe = false)
    (active : (c.flt.get k).active = true) (cleared : inactive (c.flt.get k) = inactive (clearedFault x)) :
    let r := (allFaultKinds.foldl (redetect mask) c).flt.get k
    r.status = true ∧ r.active = true ∧ r.count = 1 ∧ r.firstStamp = c.uptime ∧ r.detail = x.detail := by
  obtain ⟨l₁, l₂, split, before, after⟩ := allFaultKinds_around k
  have mild := lasting_not_memory lasting
  have apart : k ∉ mildKinds.filter (· ≠ k) := by simp
  let y := l₁.foldl (redetect mask) c
  let z := detect k (y.flt.get k).detail y
  have first : Steady False False _ c y := steady_mildRedetects_beside before hc
  have same : y.flt.get k = c.flt.get k := first.record mild apart False.elim
  have again : redetect mask y k = z := redetect_eq mask y k name (by rw [same]; exact active)
  have detected : Steady False False [k] y z :=
    steady_detect_of (List.mem_singleton_self k) (fun e => by simp [sev] at e) (.refl y)
  have ended (j : FaultKind) (hj : j.severe = true) (name : named mask j = true) : (z.flt.get j).active = false := by
    have hm := severe_not_memory hj
    have apart : j ∉ [k] ∧ j ∉ mildKinds.filter (· ≠ k) := by
      refine ⟨fun e => ?_, by simp [mem_mildKinds, hj]⟩
      rw [List.mem_singleton.mp e, sev] at hj
      cases hj
    rw [detected.record hm apart.1 False.elim, first.record hm apart.2 False.elim]
    exact hc j hj name
  have rest : Steady False False _ z (l₂.foldl (redetect mask) z) := steady_mildRedetects_beside after ended
  have result : (allFaultKinds.foldl (redetect mask) c).flt.get k =
      recordedFault k (c.flt.get k).detail c.uptime (c.flt.get k) := by
    rw [split, List.foldl_append, List.foldl_cons]
    show ((l₂.foldl (redetect mask) (redetect mask y k)).flt.get k) = _
    rw [again, rest.record mild apart False.elim]
    show (detect k (y.flt.get k).detail y).flt.get k = _
    rw [detect_mild _ _ _ sev, detectMild_get mild, same, first.platform.uptime]
  have detail : (c.flt.get k).detail = x.detail := (congrArg FaultRecord.detail cleared :)
  have made := recordedFault_cleared (detail := (c.flt.get k).detail) (now := c.uptime) lasting cleared
  rw [result, ← detail]
  exact made

/-! ## A SEVERE kind that is detected again (R166) -/

section Severe

variable {moved : Prop} {x : FaultRecord}

/-- Redetections, before or after one of a given kind; in OFF, unless the platform may move. -/
theorem steady_redetects_beside {l : List FaultKind} (rests : ¬moved → c.psq.state = .off) (hk : k ∉ l) :
    Steady moved True (others k) c (l.foldl (redetect mask) c) :=
  steady_redetects (fun _ hj => .inl (mem_others.mpr (ne_of_mem_of_not_mem hj hk))) fun _ _ _ _ => ⟨trivial, rests⟩

/-- A SEVERE kind that is named and active has been recorded afresh, with its containment under the mode in force. -/
theorem severeRedetected (rests : ¬moved → c.psq.state = .off) (sev : k.severe = true) (lasting : k.lasting = true)
    (name : named mask k = true) (active : (c.flt.get k).active = true) (lasts : moved → ¬EndsWithOn k)
    (cleared : inactive (c.flt.get k) = inactive (clearedFault x)) :
    let t := allFaultKinds.foldl (redetect mask) c
    t.flt.get k = recordedFault k x.detail c.uptime (c.flt.get k) ∧ t.flt.level ≠ .none ∧
      (c.flt.mode = .shed → k.fixedAction ≠ .forceOff → t.flt.level = .shed) ∧
      (actionOf c.flt.mode k = .forceOff → t.psq.state = .off) := by
  intro t
  obtain ⟨l₁, l₂, split, before, after⟩ := allFaultKinds_around k
  have mild := severe_not_memory sev
  have apart : k ∉ others k := fun h => mem_others.mp h rfl
  let y := l₁.foldl (redetect mask) c
  let z := detect k (y.flt.get k).detail y
  have first : Steady moved True (others k) c y := steady_redetects_beside rests before
  have same : y.flt.get k = c.flt.get k := first.record mild apart lasts
  have again : redetect mask y k = z := redetect_eq mask y k name (by rw [same]; exact active)
  have yRests (hm : ¬moved) : y.psq.state = .off := (first.rest hm).trans (rests hm)
  have ends : t = l₂.foldl (redetect mask) z := by
    show allFaultKinds.foldl (redetect mask) c = _
    rw [split, List.foldl_append, List.foldl_cons]
    exact congrArg (l₂.foldl (redetect mask)) again
  have detail : (c.flt.get k).detail = x.detail := (congrArg FaultRecord.detail cleared :)
  have record : z.flt.get k = recordedFault k x.detail c.uptime (c.flt.get k) := by
    refine (detect_severe_get sev yRests lasts _).trans ?_
    rw [same, detail, first.platform.uptime]
  have zRests (hm : ¬moved) : z.psq.state = .off :=
    ((steady_recorded (moved := moved) sev yRests _).rest hm).trans (yRests hm)
  have rest : Steady moved True (others k) z t := by
    rw [ends]
    exact steady_redetects_beside zRests after
  have held : HeldBy moved (others k) z := ⟨k, sev, apart, lasts, by rw [record]; simp [recordedFault, lasting]⟩
  obtain ⟨raised, shed⟩ := rest.level held (detect_severe_raised sev _ _)
  refine ⟨(rest.record mild apart lasts).trans record, raised, fun mode fixed => shed ?_, fun action => ?_⟩
  · refine (detect_severe_level sev _ _).trans (contain_shed sev fixed ?_)
    exact first.mode.trans mode
  · have off : z.psq.state = .off := by
      refine (detect_severe_state sev _ _).trans (contain_forceOff ?_)
      have mode : y.flt.mode = c.flt.mode := first.mode
      exact mode ▸ action
    have stays : Steady False True (others k) z t := by
      rw [ends]
      exact steady_redetects_beside (fun _ => off) after
    exact (stays.rest not_false).trans off

end Severe

/-- A SEVERE kind has been detected again at the end of the command, with its containment. -/
theorem severeCleared {a b c' : Byte} (hq : quiet s = true)
    (hm : a.toNat + 256 * b.toNat + 65536 * c'.toNat = mask) (h : mask ≤ 1048575)
    (trip : (s.flt.get .thermalTrip).active = true → s.psq.state = .off) (name : named mask k = true)
    (sev : k.severe = true) (lasting : k.lasting = true) (active : (s.flt.get k).active = true) :
    ∃ t, exec (.faultClear [a, b, c']) s = .next t ∧ (t.flt.get k).status = true ∧ (t.flt.get k).active = true ∧
      (t.flt.get k).count = 1 ∧ (t.flt.get k).firstStamp = s.uptime ∧ (t.flt.get k).detail = (s.flt.get k).detail ∧
      t.flt.level ≠ .none ∧ (s.flt.mode = .shed → k.fixedAction ≠ .forceOff → t.flt.level = .shed) ∧
      (actionOf s.flt.mode k = .forceOff →
        t.psq.state = .off ∧ (s.psq.state ≠ .off → t.psq.lastStop = .containment)) := by
  let v := huntAgain s
  let c := packsFreed mask v
  let e := clearAndRedetect mask v
  let u := clearEnd mask v
  have mild := severe_not_memory sev
  have lasts : s.psq.state ≠ .off → ¬EndsWithOn k := by
    rintro up (rfl | rfl)
    · cases sev
    · exact up (trip active)
  have freed : Stands False [] (clearNamed mask v) c := stands_packsFreed mask v
  have cleared {j : FaultKind} (hj : named mask j = true) : ((clearNamed mask v).flt.get j).status = false := by
    rw [clearNamed_named hj]
    rfl
  have rest (off : s.psq.state = .off) : RestsWithTrip (clearNamed mask v) c :=
    clearPackCauses_rests off cleared cleared
  have rests (n : ¬s.psq.state ≠ .off) : c.psq.state = .off :=
    (rest (not_not.mp n)).1.trans (not_not.mp n)
  have cActive : (c.flt.get k).active = true := by
    refine Eq.trans ?_ ((clearNamed_active mask v k).trans active)
    by_cases off : s.psq.state = .off
    · by_cases isTrip : k = .thermalTrip
      · rw [isTrip]
        exact (rest off).2
      · exact freed.active k mild (by simp) (fun stale => by rw [stale] at sev; cases sev) isTrip
    · exact freed.active k mild (by simp) (fun stale => lasts off (.inl stale)) fun isTrip => lasts off (.inr isTrip)
  obtain ⟨record, raised, shed, forced⟩ := severeRedetected rests sev lasting name cActive lasts
    (packsFreed_inactive mild name v)
  have ended : Steady False False [] e u := steady_clearEnd mask v
  have uRecord : u.flt.get k = recordedFault k (s.flt.get k).detail c.uptime (c.flt.get k) :=
    (ended.record mild (by simp) False.elim).trans record
  obtain ⟨made, madeActive, count, stamp, detail⟩ := recordedFault_cleared (k := k) (detail := (s.flt.get k).detail)
    (now := c.uptime) lasting (packsFreed_inactive mild name v)
  have uActive : (u.flt.get k).active = true := by rw [uRecord]; exact madeActive
  have eActive : (e.flt.get k).active = true := by
    show ((allFaultKinds.foldl (redetect mask) c).flt.get k).active = true
    rw [record]
    exact madeActive
  obtain ⟨uRaised, uShed⟩ := ended.level ⟨k, sev, by simp, False.elim, eActive⟩ raised
  obtain ⟨tRaised, tShed⟩ := conclude_level (s := s) (o := replyTo 0x71 (clearReply mask v))
    ⟨k, sev, by simp, lasts, uActive⟩ uRaised
  refine ⟨_, exec_faultClear hq hm h, ?_⟩
  rw [conclude_fault mild (fun stuck => by rw [stuck] at sev; cases sev) lasts]
  show (u.flt.get k).status = true ∧ (u.flt.get k).active = true ∧ (u.flt.get k).count = 1 ∧
    (u.flt.get k).firstStamp = s.uptime ∧ (u.flt.get k).detail = (s.flt.get k).detail ∧ _
  rw [uRecord]
  refine ⟨made, madeActive, count, stamp.trans freed.uptime, detail, tRaised,
    fun mode fixed => tShed (uShed (shed (freed.mode.trans mode) fixed)), fun action => ?_⟩
  have eOff : e.psq.state = .off := forced (by rw [show c.flt.mode = s.flt.mode from freed.mode]; exact action)
  have uOff : u.psq.state = .off := (ended.rest not_false).trans eOff
  have uSevere : severeActive u.flt = true :=
    List.any_eq_true.mpr ⟨k, mem_allFaultKinds k, by simp [sev, uActive]⟩
  rw [conclude_off uOff uSevere]
  refine ⟨uOff, fun up => ?_⟩
  have run : Steady True True allFaultKinds c e :=
    steady_redetects (fun j _ => .inl (mem_allFaultKinds j)) fun _ _ _ _ => ⟨trivial, absurd trivial⟩
  have stopped : e.psq.lastStop = .containment := run.stop eOff fun cOff => up (freed.off not_false cOff)
  exact ended.lastStop.elim (fun same => same.trans stopped) id

/-! ## Lasting kinds that are not SEVERE -/

/-- Where neither a pack's alarm is named nor a SEVERE kind is active by name, the clear ends with its reply. -/
theorem exec_mildClear {a b c' : Byte} (hq : quiet s = true)
    (hm : a.toNat + 256 * b.toNat + 65536 * c'.toNat = mask) (h : mask ≤ 1048575)
    (charged : named mask .packOverCharged = false) (hot : named mask .packOverTemp = false)
    (none : ∀ k, k.severe = true → named mask k = true → (s.flt.get k).active = false) :
    ∃ t, exec (.faultClear [a, b, c']) s = .next t ∧
      ∀ k, named mask k = true → (s.flt.get k).active = true → k.lasting = true →
        (t.flt.get k).status = true ∧ (t.flt.get k).active = true ∧ (t.flt.get k).count = 1 ∧
          (t.flt.get k).firstStamp = s.uptime ∧ (t.flt.get k).detail = (s.flt.get k).detail := by
  let c := clearNamed mask (huntAgain s)
  let e := allFaultKinds.foldl (redetect mask) c
  let u := clearEnd mask (huntAgain s)
  let o := replyTo 0x71 (clearReply mask (huntAgain s))
  have redetected : clearAndRedetect mask (huntAgain s) = e := by
    rw [clearAndRedetect_eq, packsFreed, clearPackCauses_unnamed charged hot]
  have noSevere (k : FaultKind) (sev : k.severe = true) (name : named mask k = true) :
      (c.flt.get k).active = false := (clearNamed_active mask _ k).trans (none k sev name)
  have run : Steady False False mildKinds c e := steady_mildRedetects noSevere
  have ended : Steady False False [] e u := by
    rw [← redetected]
    exact steady_clearEnd mask _
  have cleared : SameBus s c := ⟨rfl, rfl, fun _ => rfl⟩
  have bus : SameBus s (deliver o u) := ((cleared.trans run.sameBus).trans ended.sameBus).trans (sameBus_deliver o u)
  have state : (deliver o u).psq.state = s.psq.state := by
    rw [deliver_frame]
    exact (ended.rest not_false).trans (run.rest not_false)
  refine ⟨deliver o u, (exec_faultClear hq hm h).trans ?_, fun k name active lasting => ?_⟩
  · exact congrArg Host.Outcome.next (bus.conclude (quiet_busSettled hq) state)
  · have sev : k.severe = false := by
      refine Bool.eq_false_iff.mpr fun sev => ?_
      exact Bool.false_ne_true ((none k sev name).symm.trans active)
    have same : (deliver o u).flt.get k = e.flt.get k := by
      rw [deliver_frame]
      exact ended.record (lasting_not_memory lasting) (by simp) False.elim
    rw [same]
    exact mildRedetected noSevere lasting name sev ((clearNamed_active mask _ k).trans active)
      (congrArg inactive (clearNamed_named name _))

/-! ## The packs (R29) -/

/-- Whatever is detected again, only what is active is. -/
theorem steady_redetects_inactive (hm : k ∉ memoryKinds) (h : (c.flt.get k).active = false) :
    Steady True True (others k) c (allFaultKinds.foldl (redetect mask) c) := by
  refine steady_redetects (fun j _ => ?_) fun _ _ _ _ => ⟨trivial, absurd trivial⟩
  by_cases own : j = k
  · subst own
    exact .inr ⟨hm, fun _ => h⟩
  · exact .inl (mem_others.mpr own)

theorem clearEnd_record (mask : Nat) (s : State) :
    (clearEnd mask s).pks.record = (packsFreed mask s).pks.record := by
  have run : Steady True True allFaultKinds (packsFreed mask s) (clearAndRedetect mask s) :=
    steady_redetects (fun j _ => .inl (mem_allFaultKinds j)) fun _ _ _ _ => ⟨trivial, absurd trivial⟩
  exact (steady_clearEnd mask s).platform.record.trans run.platform.record

/-- The packs at the end of a clear. -/
theorem packs_cleared (mask : Nat) (s : State) (p : PackId) :
    beyondSwitch ((conclude s (deliver o (clearEnd mask (huntAgain s)))).pks.record.get p) =
      beyondSwitch (freedRecord (named mask .packOverCharged) (named mask .packOverTemp) (s.pks.record.get p)) := by
  have kept : (deliver o (clearEnd mask (huntAgain s))).pks = (clearEnd mask (huntAgain s)).pks := by
    rw [deliver_frame]
  have cleared {k : FaultKind} (hk : named mask k = true) :
      ((clearNamed mask (huntAgain s)).flt.get k).status = false := by
    rw [clearNamed_named hk]
    rfl
  rw [conclude_record, kept, clearEnd_record]
  exact clearPackCauses_record mask (clearNamed mask (huntAgain s)) p cleared cleared

/-- The causes that a clear leaves, as the statement writes them. -/
theorem causesLeft_eq (charged hot : Bool) (r : PackRecord) :
    (freedRecord charged hot r).causes =
      ⟨r.causes.comm, r.causes.overCharged && decide (charged = true → r.alarm.overCharged = true),
        r.causes.overTemp && decide (hot = true → r.alarm.overTemp = true ∨ 600 ≤ r.temperature)⟩ := by
  have stays (n h : Bool) : (!(n && !h)) = decide (n = true → h = true) := by cases n <;> cases h <;> rfl
  have warm : (hot = true → r.alarm.overTemp = true ∨ 600 ≤ r.temperature) ↔
      (hot = true → overTempHolds r = true) := by rw [overTempHolds_iff]
  rw [freedRecord_causes, stays, stays, decide_eq_decide.mpr warm]
  rfl

/-- A pack's own kind that is named and not active stays cleared. -/
theorem packKind_cleared (hk : k = .packOverCharged ∨ k = .packOverTemp) (name : named mask k = true)
    (none : (s.flt.get k).active = false) :
    (conclude s (deliver o (clearEnd mask (huntAgain s)))).flt.get k = clearedFault (s.flt.get k) := by
  have known : k ∉ memoryKinds ∧ k ≠ .busStuck ∧ k ≠ .supplyStale ∧ k ≠ .thermalTrip := by
    obtain rfl | rfl := hk <;> decide
  obtain ⟨mild, free, stale, trip⟩ := known
  have lasts {moved : Prop} (_ : moved) : ¬EndsWithOn k := fun e => e.elim stale trip
  have freed := (stands_packsFreed mask (huntAgain s)).record mild (by simp) stale trip
  rw [clearNamed_named name] at freed
  have run : Steady True True (others k) (packsFreed mask (huntAgain s)) (clearAndRedetect mask (huntAgain s)) :=
    steady_redetects_inactive mild (by rw [freed]; exact none)
  rw [conclude_fault mild free lasts, (steady_clearEnd mask _).record mild (by simp) lasts,
    run.record mild (fun h => mem_others.mp h rfl) lasts, freed]
  rfl

/-! ## The release (R167) -/

theorem severeStatus_none (h : ∀ k, k.severe = true → (s.flt.get k).status = false) : severeStatus s.flt = false := by
  refine List.any_eq_false.mpr fun k _ => ?_
  cases sev : k.severe with
  | false => simp
  | true => simp [h k sev]

theorem severeActive_none (h : ∀ k, k.severe = true → (s.flt.get k).active = false) : severeActive s.flt = false := by
  refine List.any_eq_false.mpr fun k _ => ?_
  cases sev : k.severe with
  | false => simp
  | true => simp [h k sev]

/-- With no SEVERE kind active, and all that are set named, the level is released. -/
theorem clearEnd_released (hm : mask ≠ 0)
    (none : ∀ k, k.severe = true → (s.flt.get k).active = false ∧ ((s.flt.get k).status = true → named mask k = true)) :
    (clearEnd mask s).flt.level = .none := by
  let c := packsFreed mask s
  have freed : Stands False [] (clearNamed mask s) c := stands_packsFreed mask s
  have inactive (k : FaultKind) (sev : k.severe = true) : (c.flt.get k).active = false := by
    refine Bool.eq_false_iff.mpr fun active => ?_
    exact Bool.false_ne_true ((none k sev).1.symm.trans (packsFreed_active (severe_not_memory sev) active))
  have cleared (k : FaultKind) (sev : k.severe = true) : (c.flt.get k).status = false := by
    refine (congrArg FaultRecord.status (freed.fault k (severe_not_memory sev) (by simp)) :).trans ?_
    rw [clearNamed_get]
    split
    · rfl
    next unnamed => exact Bool.eq_false_iff.mpr (mt (none k sev).2 unnamed)
  have run : Steady False False mildKinds c (clearAndRedetect mask s) :=
    steady_mildRedetects fun k sev _ => inactive k sev
  have same (k : FaultKind) (sev : k.severe = true) : (clearAndRedetect mask s).flt.get k = c.flt.get k :=
    run.record (severe_not_memory sev) (by simp [mem_mildKinds, sev]) False.elim
  refine releaseAtClear_released hm (severeStatus_none fun k sev => ?_) (severeActive_none fun k sev => ?_)
  · exact (congrArg FaultRecord.status (same k sev)).trans (cleared k sev)
  · exact (congrArg FaultRecord.active (same k sev)).trans (inactive k sev)

/-! ## FAULT_MASK_SET and CONTAINMENT_SET -/

theorem flagNat_bits (n mask : Nat) : flagNat ((List.range n).map mask.testBit) = mask % 2 ^ n := by
  induction n generalizing mask with
  | zero => simp [flagNat, Nat.mod_one]
  | succ n ih =>
    have rest : (List.range n).map (mask.testBit ∘ Nat.succ) = (List.range n).map (mask / 2).testBit := by
      refine List.map_congr_left fun i _ => ?_
      simp [Nat.testBit_succ]
    have low : (mask.testBit 0).toNat = mask % 2 := by
      rw [Nat.testBit_zero]
      obtain h | h := Nat.mod_two_eq_zero_or_one mask <;> simp [h]
    rw [List.range_succ_eq_map, List.map_cons, List.map_map, flagNat, rest, ih, low, Nat.pow_succ', Nat.mod_mul]

/-- The three bytes of a mask name its bits. -/
theorem mask24_bits {a b c : Byte} (hm : a.toNat + 256 * b.toNat + 65536 * c.toNat = mask) (h : mask ≤ 1048575) :
    mask24 ((List.range 20).map mask.testBit) = [a, b, c] := by
  have bits : flagNat ((List.range 20).map mask.testBit) = mask := by
    rw [flagNat_bits, Nat.mod_eq_of_lt (by omega)]
  unfold mask24 stampBytes
  rw [bits]
  have ha := a.isLt
  have hb := b.isLt
  have hc := c.isLt
  simp only [List.take_succ_cons, List.take_zero, List.cons.injEq, and_true]
  refine ⟨?_, ?_, ?_⟩ <;> apply BitVec.eq_of_toNat_eq <;>
    simp [BitVec.extractLsb'_toNat, Nat.shiftRight_eq_div_pow] <;> omega

/-- The fault table with its masks set. -/
def masksSet (mask : Nat) (s : State) : State :=
  { s with flt.record := s.flt.record.mapIdx fun i r => { r with masked := bitOf mask i } }

theorem masksSet_get (mask : Nat) (s : State) (k : FaultKind) :
    (masksSet mask s).flt.get k = { s.flt.get k with masked := named mask k } := by
  simp only [masksSet, FaultUnit.get, named, Fin.getElem_fin, Vector.getElem_mapIdx]

theorem faultMasks_masksSet (mask : Nat) (s : State) :
    faultMasks (masksSet mask s).flt = mask24 ((List.range 20).map mask.testBit) := by
  unfold faultMasks faultFlags
  congr 1
  refine List.ext_getElem (by simp [masksSet]) fun i h1 h2 => ?_
  simp [masksSet, bitOf]

theorem exec_faultMaskSet {a b c : Byte} (hq : quiet s = true)
    (hm : a.toNat + 256 * b.toNat + 65536 * c.toNat = mask) (h : mask ≤ 1048575) :
    exec (.faultMaskSet [a, b, c]) s = .next (answered 0x72 [0, a, b, c] (masksSet mask s)) := by
  have reply : faultMasks (masksSet mask (huntAgain s)).flt = [a, b, c] :=
    (faultMasks_masksSet mask _).trans (mask24_bits hm h)
  refine finish_request hq ?_ rfl ⟨rfl, rfl, fun _ => rfl⟩ rfl
  unfold serveFaultMaskSet
  rw [le24At_bytes, hm, if_neg (by simp), if_neg (by simp), if_neg (by omega)]
  show (masksSet mask (huntAgain s), stOk :: faultMasks (masksSet mask (huntAgain s)).flt) = _
  rw [reply]
  rfl

theorem containmentOf_above {n : Nat} (h : 3 < n) : containmentOf n = none := by
  match n, h with
  | n + 4, _ => rfl

/-- Settles O59: each request ends as its steps leave it, one clause of R173 to R175 after the other. -/
theorem faultRequestsClearAndSet : Obligations.FaultRequestsClearAndSet := by
  intro a b c mode s hq mask names
  have hm : a.toNat + 256 * b.toNat + 65536 * c.toNat = mask := rfl
  have named_eq (k : FaultKind) : named mask k = names k := rfl
  refine ⟨fun above => ⟨?_, ?_⟩, fun h noPack => ⟨fun none level => ?clean, fun none => ?lasting⟩,
    fun h _ _ trip k name sev lasting active => ?severe, fun h p => ?packs, fun h pos none => ?release,
    fun h => ?masks, fun above => ?badMode, fun inRange => ?mode⟩
  · refine finish_read hq ?_
    unfold serveFaultClear
    rw [le24At_bytes, if_neg (by simp), if_pos above]
    rfl
  · refine finish_read hq ?_
    unfold serveFaultMaskSet
    rw [le24At_bytes, if_neg (by simp), if_neg (by simp), if_pos above]
    rfl
  case clean =>
    have unnamed (k : FaultKind) (hk : k = .packOverTemp ∨ k = .packOverCharged) : named mask k = false :=
      Bool.eq_false_iff.mpr fun name => hk.elim (noPack k name).1 (noPack k name).2
    refine ⟨_, exec_cleanClear hq hm h (unnamed _ (.inr rfl)) (unnamed _ (.inl rfl)) none level, fun k => ?_, rfl,
      rfl, rfl, rfl⟩
    exact clearNamed_get mask s k
  case lasting =>
    have unnamed (k : FaultKind) (hk : k = .packOverTemp ∨ k = .packOverCharged) : named mask k = false :=
      Bool.eq_false_iff.mpr fun name => hk.elim (noPack k name).1 (noPack k name).2
    refine exec_mildClear hq hm h (unnamed _ (.inr rfl)) (unnamed _ (.inl rfl)) fun k sev name => ?_
    exact none k (by simpa [FaultKind.severe] using sev) name
  case severe =>
    obtain ⟨t, ends, status, stays, count, stamp, detail, raised, shed, forced⟩ :=
      severeCleared hq hm h trip name (severe_of_severity sev) lasting active
    refine ⟨t, ends, status, count, stamp, detail, fun _ => stays, raised, fun mode other => shed mode ?_,
      fun force => forced ?_⟩
    · cases k <;> simp_all [FaultKind.lasting, FaultKind.fixedAction]
    · obtain mode | rfl := force
      · rw [mode]
        cases k <;> rfl
      · cases s.flt.mode <;> rfl
  case packs =>
    have view := packs_cleared (o := replyTo 0x71 (clearReply mask (huntAgain s))) mask s p
    have causes := (congrArg PackRecord.causes view :).trans (causesLeft_eq _ _ _)
    refine ⟨_, exec_faultClear hq hm h, causes, fun either => ?_, fun k hk name none => ?_⟩
    · refine (congrArg PackRecord.state view :).trans ((freedRecord_state _ _ _ either).trans ?_)
      rw [causesLeft_eq]
      rfl
    · rw [packKind_cleared hk name none]
      exact ⟨rfl, none, rfl⟩
  case release =>
    refine ⟨_, exec_faultClear hq hm h, conclude_released (clearEnd_released (by omega) fun k sev => ?_)⟩
    exact none k (by simpa [FaultKind.severe] using sev)
  case masks =>
    exact ⟨_, exec_faultMaskSet hq hm h, rfl, masksSet_get mask s, rfl, rfl, rfl⟩
  case badMode =>
    refine finish_read hq ?_
    unfold serveContainmentSet
    rw [if_neg (by simp), if_neg (by simp), show byteAt [mode] 0 = mode.toNat from rfl, containmentOf_above above]
    rfl
  case mode =>
    obtain rfl | rfl | rfl | rfl : mode = 0 ∨ mode = 1 ∨ mode = 2 ∨ mode = 3 := by bv_omega
    all_goals exact finish_request hq rfl rfl ⟨rfl, rfl, fun _ => rfl⟩ rfl

end Sys2Proof.Proofs
end

section
/-! CHC's invariants: the charge states are those of R41, a target current flows only under R57's second law, and the
budget record is the computation of its present inputs (R53). `Charged x s` says that the claim `x` holds of a state.
Every operation that changes what a claim reads ends in CHC's refresh, which makes all three claims again from any state
(`charged_refreshed`); each lemma `charged_<operation>` carries a claim across one operation. -/

namespace Sys2Proof.Machine

open Sys2Proof.Safety

/-! ## The claims -/

/-- What the statements say of CHC, one item for each rule. -/
inductive ChargeClaim where
  /-- Charge states and pause causes are derived (R41, R42). -/
  | states
  /-- A target current flows only under R57's second law. -/
  | flow
  /-- The budget record is current and the channels drive its targets (R53, R58). -/
  | budget
  deriving DecidableEq

/-- The voltage and current of the active source's contract, 0 without one (R53, log 54). -/
def activeContract (x : Selector) : Nat × Nat :=
  match x.active with
  | none => (0, 0)
  | some i => ((x.get i).voltage, (x.get i).current)

/-- What the claims read of a context: all but the count of the stage in force. -/
def uncounted (c : ChargeContext) : ChargeContext := { c with elapsed := 0, elapsedPart := 0 }

/-- A source record that carries this contract and nothing else. -/
def contractOnly (k : Nat × Nat) : SourceRecord := { absentSource false false with voltage := k.1, current := k.2 }

/-- SRS with nothing but what it hands to CHC: every source record carries the active source's contract. -/
def chargeSelector (x : Selector) : Selector :=
  { State.reset.srs with
    barrel := contractOnly (activeContract x), port1 := contractOnly (activeContract x),
    port2 := contractOnly (activeContract x), active := x.active, switching := x.switching, margin := x.margin,
    pSys := x.pSys }

/-- The part of a state that the claims read: all else is as in the reset state. -/
def chargeView (s : State) : State :=
  { State.reset with
    inputs := { resetInputs with channelFaultA := s.inputs.channelFaultA, channelFaultB := s.inputs.channelFaultB }
    srs := chargeSelector s.srs
    chc :=
      { State.reset.chc with
        context := ⟨uncounted s.chc.context.a, uncounted s.chc.context.b⟩
        policy := { defaultPolicy with order := s.chc.policy.order }
        budget := s.chc.budget, handed := s.chc.handed }
    thu := { State.reset.thu with derate := s.thu.derate }
    flt := { State.reset.flt with level := s.flt.level } }

/-- Charge state and pause causes of a pack are those of R41. -/
def statesOk (s : State) (p : PackId) : Prop :=
  let c := s.chc.context.get p
  c.state = chargeStateOf (s.chc.handed.get p) c (barsOf s p) ∧
    c.causes = if c.state = .paused then barsOf s p else noBars

/-- A target current flows only while the pack is CHARGING in a stage that charges, from a steady active source, under
no containment, and within the limits of R57. -/
def flowOk (s : State) (p : PackId) : Prop :=
  let c := s.chc.context.get p
  c.targetCurrent = 0 ∨
    (c.state = .charging ∧ stageCharges c = true ∧ s.srs.active.isSome = true ∧ s.srs.switching = false ∧
      s.flt.level = .none) ∧
      c.targetCurrent % 25 = 0 ∧ c.targetCurrent ≤ 4000 ∧ c.targetCurrent ≤ stageCurrent c

/-- The claim, of a state. -/
def ChargeClaim.HoldsIn (s : State) : ChargeClaim → Prop
  | .states => ∀ p, statesOk s p
  | .flow => ∀ p, flowOk s p
  | .budget => budgetOk s = true

/-- The claim holds of what it reads of a state. -/
def Charged (x : ChargeClaim) (s : State) : Prop := x.HoldsIn (chargeView s)

variable {x : ChargeClaim} {s t u : State}

/-! ## The statement's terms -/

theorem chargeOk_iff (s : State) (p : PackId) : chargeOk s p = true ↔ statesOk s p ∧ flowOk s p := by
  simp only [chargeOk, statesOk, flowOk, Bool.and_eq_true, Bool.or_eq_true, beq_iff_eq, Bool.not_eq_true',
    decide_eq_true_eq, and_assoc]

theorem computeBudget_chargeView (s : State) :
    { computeBudget (chargeView s) with stamp := s.chc.budget.stamp } =
      { computeBudget s with stamp := s.chc.budget.stamp } := by
  cases h : s.srs.active with
  | none => simp only [computeBudget, chargeView, chargeSelector, h, pInMax]; rfl
  | some i =>
    have contract : activeContract s.srs = ((s.srs.get i).voltage, (s.srs.get i).current) := by
      simp only [activeContract, h]
    cases i <;> simp only [computeBudget, chargeView, chargeSelector, h, pInMax, contract] <;> rfl

theorem charged_states_iff : Charged .states s ↔ ∀ p, statesOk s p :=
  forall_congr' fun p => by cases p <;> rfl

theorem charged_flow_iff : Charged .flow s ↔ ∀ p, flowOk s p :=
  forall_congr' fun p => by cases p <;> rfl

theorem charged_budget_iff : Charged .budget s ↔ budgetOk s = true := by
  show budgetOk (chargeView s) = true ↔ _
  simp only [budgetOk, Bool.and_eq_true, beq_iff_eq]
  refine and_congr ?_ Iff.rfl
  have record := computeBudget_chargeView s
  exact ⟨fun h => h.trans record, fun h => h.trans record.symm⟩

theorem charged_iff : Charged x s ↔ x.HoldsIn s := by
  cases x with
  | states => exact charged_states_iff
  | flow => exact charged_flow_iff
  | budget => exact charged_budget_iff

/-! ## Rules for all claims -/

theorem charged_ite {c : Prop} [Decidable c] (h : Charged x s) (g : Charged x t) : Charged x (if c then s else t) := by
  split
  · exact h
  · exact g

theorem charged_fst_ite {α : Type} {c : Prop} [Decidable c] {y z : State × α} (h : Charged x y.1)
    (g : Charged x z.1) : Charged x (if c then y else z).1 := by
  split
  · exact h
  · exact g

theorem charged_foldl {α : Type} {f : State → α → State} (xs : List α)
    (hf : ∀ {u y}, Charged x u → Charged x (f u y)) (h : Charged x t) : Charged x (xs.foldl f t) := by
  induction xs generalizing t with
  | nil => exact h
  | cons y ys ih => exact ih (hf h)

/-! ## Reports and detections that are not SEVERE -/

/-- No claim is about reports. -/
theorem OnlyReports.charged (g : OnlyReports t u) (h : Charged x t) : Charged x u := by
  rw [g]
  exact h

theorem charged_raise {n : Notice} (h : Charged x s) : Charged x (raise n s) := (raise_frame n s).charged h

theorem charged_raiseAll {ns : List Notice} (h : Charged x s) : Charged x (raiseAll ns s) :=
  (raiseAll_frame ns s).charged h

theorem charged_detectMild {k : FaultKind} {detail : Byte} (h : Charged x s) : Charged x (detectMild k detail s) :=
  (detectMild_frame k detail s).charged h

theorem charged_takeReports {ds : Reports} (h : Charged x s) : Charged x (takeReports ds s) :=
  (takeReports_frame ds s).charged h

theorem charged_endFault {k : FaultKind} (h : Charged x s) : Charged x (endFault k s) := h

theorem charged_refreshChargeLed (h : Charged x s) : Charged x (refreshChargeLed s) := h

/-! ## CHC's refresh (R41, R53 to R57) -/

/-- I_X is the stage current at most, in steps of 25 mA up to 4000 mA (R57). -/
theorem targetOf_bounds (iReq allotted v : Nat) :
    targetOf iReq allotted v % 25 = 0 ∧ targetOf iReq allotted v ≤ 4000 ∧ targetOf iReq allotted v ≤ iReq := by
  unfold targetOf
  have part : min iReq (allotted * 1000 / v) ≤ iReq := Nat.min_le_left _ _
  omega

theorem bars_of_any {b : Bars} (h : b.any = false) :
    b.noSource = false ∧ b.switching = false ∧ b.containment = false := by
  simp only [Bars.any, Bool.or_eq_false_iff] at h
  tauto

/-- A pack is CHARGING only where no bar holds (R41, R42). -/
theorem noBar_of_charging {r : PackRecord} {c : ChargeContext} {bars : Bars}
    (h : chargeStateOf r c bars = .charging) : bars.any = false := by
  unfold chargeStateOf at h
  split_ifs at h with h1 h2 h3 h4 h5 h6 h7
  exact Bool.eq_false_iff.mpr h7

/-- The bars give what R57's second law asks of the source and of containment. -/
theorem steady_of_noBar {p : PackId} (h : (barsOf s p).any = false) :
    s.srs.active.isSome = true ∧ s.srs.switching = false ∧ s.flt.level = .none := by
  obtain ⟨source, switching, containment⟩ := bars_of_any h
  simp only [barsOf, Option.isNone_eq_false_iff, bne_eq_false_iff_eq] at source switching containment
  exact ⟨source, switching, containment⟩

/-- The targets that a budget record gives a context are within the limits of R57. -/
theorem flow_of_packBudget {c : ChargeContext} {r : PackRecord} {share allotted : Nat}
    (h : (packBudget c r share allotted).targetCurrent ≠ 0) :
    c.state = .charging ∧ stageCharges c = true ∧ (packBudget c r share allotted).targetCurrent % 25 = 0 ∧
      (packBudget c r share allotted).targetCurrent ≤ 4000 ∧
      (packBudget c r share allotted).targetCurrent ≤ stageCurrent c := by
  by_cases e : packEligible c = true
  · have eligible := e
    simp only [packEligible, Bool.and_eq_true, beq_iff_eq] at eligible
    obtain ⟨⟨charging, charges⟩, -⟩ := eligible
    simp only [packBudget, e, if_true]
    exact ⟨charging, charges, targetOf_bounds _ _ _⟩
  · simp [packBudget, e] at h

/-- The shares and finals of R56 in a state. -/
def sharedOut (s : State) : Nat × Nat × Nat × Nat :=
  splitBudget s.chc.policy.order (packEligible s.chc.context.a) (packEligible s.chc.context.b)
    (if packEligible s.chc.context.a then needOf (stageCurrent s.chc.context.a) (vX s.chc.handed.a) else 0)
    (if packEligible s.chc.context.b then needOf (stageCurrent s.chc.context.b) (vX s.chc.handed.b) else 0)
    (computeBudget s).pBudget

theorem computeBudget_a (s : State) :
    (computeBudget s).packs.a =
      packBudget s.chc.context.a s.chc.handed.a (sharedOut s).1 (sharedOut s).2.1 := rfl

theorem computeBudget_b (s : State) :
    (computeBudget s).packs.b =
      packBudget s.chc.context.b s.chc.handed.b (sharedOut s).2.2.1 (sharedOut s).2.2.2 := rfl

/-- The targets of a recompute are within the limits of R57. -/
theorem flow_of_computeBudget {p : PackId} (h : ((computeBudget s).packs.get p).targetCurrent ≠ 0) :
    (s.chc.context.get p).state = .charging ∧ stageCharges (s.chc.context.get p) = true ∧
      ((computeBudget s).packs.get p).targetCurrent % 25 = 0 ∧
      ((computeBudget s).packs.get p).targetCurrent ≤ 4000 ∧
      ((computeBudget s).packs.get p).targetCurrent ≤ stageCurrent (s.chc.context.get p) := by
  cases p with
  | a => exact flow_of_packBudget h
  | b => exact flow_of_packBudget h

/-- What a refresh makes of CHC meets every claim, whatever was before. -/
theorem charged_chargeTaken : Charged x (chargeTaken s) := by
  rw [charged_iff]
  cases x with
  | states =>
    refine fun p => ⟨(chargeSettled_chargeTaken s p).1, ?_⟩
    have causes (st : ChargeState) : (if st == .paused then barsOf s p else noBars) =
      if st = .paused then barsOf s p else noBars := by simp
    cases p <;> exact causes _
  | flow =>
    intro p
    have states := (chargeSettled_chargeTaken s p).1
    by_cases flows : ((chargeTaken s).chc.context.get p).targetCurrent = 0
    · exact .inl flows
    · have driven : ((chargeTaken s).chc.context.get p).targetCurrent =
          ((computeBudget (chargeTaken s)).packs.get p).targetCurrent := by cases p <;> rfl
      rw [driven] at flows
      obtain ⟨charging, charges, limits⟩ := flow_of_computeBudget flows
      rw [← driven] at limits
      exact .inr ⟨⟨charging, charges, steady_of_noBar (noBar_of_charging (states.symm.trans charging))⟩, limits⟩
  | budget =>
    show budgetOk _ = true
    simp only [budgetOk, Bool.and_eq_true, beq_iff_eq, List.all_cons, List.all_nil]
    exact ⟨rfl, ⟨rfl, rfl⟩, ⟨rfl, rfl⟩, trivial⟩

/-- A refresh that is one of R53's makes every claim again, from any state. -/
theorem charged_refreshed {ns : List Notice} : Charged x (chargeRefresh true ns s) := by
  obtain ⟨ns', e⟩ := chargeRefresh_eq ns s
  rw [e]
  exact charged_raiseAll (charged_refreshChargeLed charged_chargeTaken)

/-- Where no charge state and no pause cause changes, the contexts stand. -/
theorem derivedContext_same {p : PackId} (hs : (s.chc.context.get p).state = (derivedContext s p).state)
    (hc : (s.chc.context.get p).causes = (derivedContext s p).causes) : derivedContext s p = s.chc.context.get p := by
  unfold derivedContext at hs hc ⊢
  dsimp only at hs hc ⊢
  rw [← hs] at hc ⊢
  rw [← hc]

/-- Any other refresh recomputes the budget, or leaves the contexts as they were, with their states derived. -/
theorem chargeRefresh_cases (ns : List Notice) (s : State) :
    (∃ ns', chargeRefresh false ns s = raiseAll ns' (refreshChargeLed (chargeTaken s))) ∨
      (∃ ns', chargeRefresh false ns s = raiseAll ns' (refreshChargeLed (hastenPolls s))) ∧
        ∀ p, derivedContext s p = s.chc.context.get p := by
  by_cases changed : contextsChanged s.chc.context ⟨derivedContext s .a, derivedContext s .b⟩ = true
  · obtain ⟨ns', forced⟩ := chargeRefresh_eq ns s
    have same : chargeRefresh false ns s = chargeRefresh true ns s := by
      unfold chargeRefresh
      simp only [changed, Bool.or_true]
    exact .inl ⟨ns', same.trans forced⟩
  · simp only [contextsChanged, Bool.or_eq_true, bne_iff_ne, not_or, Decidable.not_not] at changed
    obtain ⟨⟨⟨stateA, stateB⟩, causesA⟩, causesB⟩ := changed
    have a : derivedContext s .a = s.chc.context.a := derivedContext_same stateA causesA
    have b : derivedContext s .b = s.chc.context.b := derivedContext_same stateB causesB
    refine .inr ⟨?_, fun p => by cases p; exacts [a, b]⟩
    unfold chargeRefresh
    simp only [a, b, contextsChanged, bne_self_eq_false, Bool.or_self, Bool.false_eq_true, if_false]
    exact ⟨_, rfl⟩

/-- A refresh of either kind carries every claim, and makes the charge states again. -/
theorem charged_chargeRefresh {ns : List Notice} (h : x ≠ .states → Charged x s) :
    Charged x (chargeRefresh false ns s) := by
  rcases chargeRefresh_cases ns s with ⟨ns', e⟩ | ⟨⟨ns', e⟩, same⟩
  · rw [e]
    exact charged_raiseAll (charged_refreshChargeLed charged_chargeTaken)
  · rw [e]
    have stands : Charged x s := by
      cases x with
      | states =>
        refine charged_states_iff.mpr fun p => ?_
        have causes (st : ChargeState) : (if st == .paused then barsOf s p else noBars) =
          if st = .paused then barsOf s p else noBars := by simp
        unfold statesOk
        rw [← same p]
        exact ⟨rfl, causes _⟩
      | flow => exact h (by decide)
      | budget => exact h (by decide)
    exact charged_raiseAll (charged_refreshChargeLed stands)

end Sys2Proof.Machine
end

section
/-! CHC's claims under containment and the platform's changes of state. -/

namespace Sys2Proof.Machine

open Sys2Proof.Safety

variable {x : ChargeClaim} {s t u : State}

/-! ## Fans (R77 to R84) -/

theorem charged_remakeFan {i : FanId} (h : Charged x t) : Charged x (remakeFan i t) := by
  unfold remakeFan
  exact charged_ite h h

theorem charged_remakeDuties (h : Charged x t) : Charged x (remakeDuties t) := charged_remakeFan (charged_remakeFan h)

theorem charged_setOverride {i : FanId} {mode : OverrideMode} {duty : Nat} {left : Option Nat} (h : Charged x t) :
    Charged x (setOverride i mode duty left t) := by
  have set (c : FanController) : Charged x { t with fnc := c } := h
  exact charged_raiseAll (charged_remakeFan (set _))

theorem charged_cancelOverride {i : FanId} (h : Charged x t) : Charged x (cancelOverride i t) := by
  unfold cancelOverride
  exact charged_ite h (charged_setOverride h)

theorem charged_fansTakeState {leaving : Bool} (h : Charged x t) : Charged x (fansTakeState leaving t) := by
  unfold fansTakeState
  exact charged_remakeDuties (charged_ite (charged_cancelOverride (charged_cancelOverride h)) h)

/-! ## Containment and THROTTLE (R167, R168) -/

theorem charged_setLevel {l : ContainmentLevel} (h : Charged x t) : Charged x (setLevel l t) := by
  unfold setLevel
  exact charged_ite h (charged_remakeDuties charged_refreshed)

theorem charged_raiseLevel (h : Charged x t) : Charged x (raiseLevel t) := by
  unfold raiseLevel
  exact charged_ite (charged_setLevel h) h

theorem charged_releaseAtStart (h : Charged x t) : Charged x (releaseAtStart t) := by
  unfold releaseAtStart
  exact charged_ite h (charged_setLevel h)

/-! ## The keyboard as the platform drives it (R92, R102) -/

/-- A new scanner, whatever it is: named, so that its key table is not computed where one is put in place. -/
theorem charged_withScanner {k : Scanner} (h : Charged x t) : Charged x { t with kbs := k } := h

theorem charged_offerKey {e : KeyEvent} (h : Charged x t) : Charged x (offerKey e t) := by
  unfold offerKey
  exact charged_ite h h

theorem charged_handRelease {synthetic : Bool} {p : Position} {code : Byte} {layer : Bool} (h : Charged x t) :
    Charged x (handRelease synthetic p code layer t) := by
  unfold handRelease typeRelease queueEvent
  exact charged_ite (charged_ite (charged_offerKey h) (charged_offerKey h)) h

theorem charged_setScanMode {m : ScanMode} (h : Charged x t) : Charged x (setScanMode m t) := by
  unfold setScanMode
  exact charged_ite h h

theorem charged_syntheticRelease {p : Position} (h : Charged x t) : Charged x (syntheticRelease t p) := by
  unfold syntheticRelease
  exact charged_handRelease (charged_withScanner h)

theorem charged_beginSuppression {m : ScanMode} (h : Charged x t) : Charged x (beginSuppression m t) := by
  have released := charged_foldl (f := syntheticRelease) (reportedSet (setScanMode m t).kbs) charged_syntheticRelease
    (charged_setScanMode (m := m) h)
  exact released

theorem charged_endSuppression {m : ScanMode} (h : Charged x t) : Charged x (endSuppression m t) := by
  have running := charged_setScanMode (m := m) h
  exact running

theorem charged_updateKeyboard (h : Charged x t) : Charged x (updateKeyboard t) := by
  unfold updateKeyboard
  exact charged_ite (charged_beginSuppression (charged_withScanner h))
    (charged_ite (charged_endSuppression (charged_withScanner h)) (charged_setScanMode (charged_withScanner h)))

/-! ## Wakes and the platform state (R134 to R160) -/

theorem charged_clearPending (h : Charged x t) : Charged x (clearPending t) := by
  unfold clearPending
  refine charged_foldl _ (fun hu => ?_) h
  unfold resetHeld
  exact charged_ite hu hu

theorem charged_judgeTripEnd (h : Charged x t) : Charged x (judgeTripEnd t) := by
  unfold judgeTripEnd
  have ended : Charged x { t with thu.trip := false } := h
  exact charged_ite (charged_endFault ended) h

theorem charged_thermalLeaveOn (h : Charged x t) : Charged x (thermalLeaveOn t) := by
  unfold thermalLeaveOn
  have left : Charged x (setSensor 5 (leaveOnSensor t.thu.sensors[5])
      (setSensor 4 (leaveOnSensor t.thu.sensors[4]) t)) := h
  exact charged_judgeTripEnd (charged_endFault left)

theorem charged_changeState {new : PlatformState} (h : Charged x t) : Charged x (changeState new t) := by
  unfold changeState
  extract_lets old last t1 t2 t3 t4 t5
  have h1 : Charged x t1 := h
  have h2 : Charged x t2 := charged_ite (charged_clearPending h1) h1
  have h3 : Charged x t3 := charged_fansTakeState (charged_updateKeyboard h2)
  have h4 : Charged x t4 := charged_ite (charged_thermalLeaveOn h3) (charged_ite h3 h3)
  have h5 : Charged x t5 := h4
  exact charged_ite h5 h5

theorem charged_beginGrace (h : Charged x t) : Charged x (beginGrace t) := by
  unfold beginGrace
  exact charged_raise (n := .critical 0 false _ _) h

theorem charged_endGrace {event : Nat} {off : Bool} (h : Charged x t) : Charged x (endGrace event off t) := by
  unfold endGrace
  split
  · exact h
  · have ended : Charged x { t with psq.grace := none } := h
    exact charged_refreshChargeLed (charged_raise ended)

theorem charged_enterMpgWait (h : Charged x t) : Charged x (enterMpgWait t) := by
  unfold enterMpgWait
  exact charged_ite h h

theorem charged_recordWake (h : Charged x t) : Charged x (recordWake t) := by
  have recorded (w : WakeUnit) : Charged x { t with lwu := w } := h
  rw [recordWake_frame]
  exact recorded _

theorem charged_takeStart (h : Charged x t) : Charged x (takeStart t) := by
  unfold takeStart
  extract_lets t0 wake t1 t2 t3
  have h0 : Charged x t0 := charged_recordWake h
  clear_value t0
  have h1 : Charged x t1 := h0
  have h2 : Charged x t2 := charged_releaseAtStart (charged_clearPending (charged_changeState h1))
  have h3 : Charged x t3 := charged_ite (charged_beginGrace <| h2) h2
  exact charged_ite (charged_enterMpgWait h3) h3

theorem charged_takeResume (h : Charged x t) : Charged x (takeResume t) := by
  unfold takeResume
  exact charged_enterMpgWait (charged_clearPending (charged_changeState (charged_recordWake h)))

theorem charged_refuseStart (h : Charged x t) : Charged x (refuseStart t) := h

theorem charged_offerWake (h : Charged x t) : Charged x (offerWake t) := by
  unfold offerWake
  refine charged_ite h ?_
  split
  · exact charged_takeResume h
  · exact charged_ite (charged_takeStart h) (charged_refuseStart h)
  · exact h

theorem charged_settingEvent {i : WakeSource} (h : Charged x t) : Charged x (settingEvent i t) := by
  have marked : Charged x (markSource i t) := h
  exact charged_ite (charged_offerWake marked) marked

theorem charged_judgeCritical (h : Charged x t) : Charged x (judgeCritical t) := by
  unfold judgeCritical startGrace
  have judged (b : Bool) : Charged x { t with psq.critical := b } := h
  have begun := charged_beginGrace <| judged true
  exact charged_ite h (charged_ite (charged_ite (charged_ite (charged_offerWake begun) begun) (judged true))
    (charged_endGrace (judged false)))

theorem charged_arriveOff (h : Charged x t) : Charged x (arriveOff t) := by
  unfold arriveOff
  have stepped : Charged x { t with psq.step := .none, psq.stepLeft := 0, psq.stopKind := .none } := h
  exact charged_endGrace (charged_raise (charged_changeState stepped))

theorem charged_forcedStop {cause : StopCause} (h : Charged x t) : Charged x (forcedStop cause t) := by
  unfold forcedStop
  have stopping : Charged x
      { t with psq.lastStop := cause, psq.stopKind := .forced, psq.step := .none, psq.stepLeft := 0 } := h
  exact charged_ite h (charged_arriveOff (charged_ite stopping (charged_changeState stopping)))

theorem charged_arriveStandby (h : Charged x t) : Charged x (arriveStandby t) := by
  unfold arriveStandby
  have dropped : Charged x { dropMain t with psq.step := .none, psq.stepLeft := 0 } := h
  exact charged_offerWake (charged_raise (charged_changeState dropped))

/-! ## SEVERE detections and the trip (R73, R164, R166) -/

theorem charged_contain {k : FaultKind} (h : Charged x t) : Charged x (contain k t) := by
  unfold contain
  split
  · exact h
  · exact charged_raiseLevel h
  · exact charged_setLevel h
  · exact charged_raiseLevel (charged_forcedStop h)

theorem charged_detect {k : FaultKind} {detail : Byte} (h : Charged x t) : Charged x (detect k detail t) := by
  unfold detect detectWith
  have recorded : Charged x { t with flt := t.flt.set k (recordedFault k detail t.uptime (t.flt.get k)) } := h
  have shown := charged_refreshChargeLed (charged_contain (k := k) recorded)
  exact charged_ite (charged_ite (charged_contain recorded) (charged_ite shown (charged_raise shown)))
    (charged_detectMild h)

theorem charged_judgeTrip (h : Charged x t) : Charged x (judgeTrip t) := by
  unfold judgeTrip
  have tripped : Charged x { t with thu.trip := true } := h
  exact charged_ite (charged_raise (charged_detect tripped)) (charged_judgeTripEnd h)

theorem charged_judgeWakeCondition (h : Charged x t) : Charged x (judgeWakeCondition t) := by
  unfold judgeWakeCondition
  have judged : Charged x { t with thu.wakeCondition := wakeHolds t.thu } := h
  exact charged_ite h (charged_ite (charged_settingEvent judged) judged)

theorem charged_arriveOn (h : Charged x t) : Charged x (arriveOn t) := by
  unfold arriveOn
  have released : Charged x { t with psq.prst := false, psq.step := .none, psq.stepLeft := 0 } := h
  exact charged_judgeTrip (charged_raise (charged_raise (charged_changeState released)))

theorem charged_railFail {detail : Byte} (h : Charged x t) : Charged x (railFail detail t) :=
  charged_detect (charged_forcedStop h)

end Sys2Proof.Machine
end

section
/-! CHC's claims under the operations of the blocks, in the order of the model's files. -/

namespace Sys2Proof.Machine

open Sys2Proof.Safety

variable {x : ChargeClaim} {s t u : State}

/-! ## Stages (R43 to R52) -/

theorem charged_chargeAtPoll {p : PackId} {target : Nat} : Charged x (chargeAtPoll p target t) := charged_refreshed

theorem charged_handToCharge {p : PackId} : Charged x (handToCharge p t) := charged_refreshed

theorem charged_judgePolicy {recharge : Bool} : Charged x (judgePolicy recharge t) := charged_refreshed

theorem charged_restEnded {p : PackId} (h : Charged x t) : Charged x (restEnded p t) := by
  unfold restEnded
  exact charged_ite charged_refreshed h

theorem charged_limitExpired {p : PackId} (h : Charged x t) : Charged x (limitExpired p t) := by
  unfold limitExpired
  exact charged_ite (charged_ite (charged_detectMild charged_refreshed) charged_refreshed) h

/-! ## Fans (R77 to R84) -/

theorem charged_evaluateFan {i : FanId} (h : Charged x t) : Charged x (evaluateFan i t) := by
  unfold evaluateFan
  exact charged_ite (charged_remakeFan h) h

theorem charged_endBoost {i : FanId} (h : Charged x t) : Charged x (endBoost i t) := by
  unfold endBoost
  exact charged_ite (charged_setOverride h) h

theorem charged_startBoost {i : FanId} (h : Charged x t) : Charged x (startBoost i t) := by
  unfold startBoost
  exact charged_ite (charged_setOverride h) h

theorem charged_toggleBoost (h : Charged x t) : Charged x (toggleBoost t).1 := by
  unfold toggleBoost
  split
  · exact charged_endBoost (charged_endBoost h)
  · exact charged_startBoost (charged_startBoost h)

theorem charged_applyDerate (h : Charged x t) : Charged x (applyDerate t) := by
  unfold applyDerate
  exact charged_ite h (charged_raise charged_refreshed)

/-! ## Keys (R94 to R124) -/

theorem charged_queueEvent {kind : KeyKind} {code : Byte} {fn synthetic : Bool} {p : Position} {stamp : Stamp}
    (h : Charged x t) : Charged x (queueEvent kind code fn synthetic p stamp t) :=
  charged_offerKey h

theorem charged_typePress {p : Position} {code : Byte} {layer : Bool} (h : Charged x t) :
    Charged x (typePress p code layer t) := by
  unfold typePress
  exact charged_ite h h

theorem charged_typeExpired (h : Charged x t) : Charged x (typeExpired t) := by
  unfold typeExpired
  exact charged_ite h (charged_queueEvent h)

theorem charged_toggleLimit : Charged x (toggleLimit t) := charged_judgePolicy

theorem charged_runAction {code : Byte} {p : Position} {layer : Bool} (h : Charged x t) :
    Charged x (runAction code p layer t) := by
  unfold runAction
  split
  · exact charged_raise h
  · exact charged_raise (charged_toggleBoost h)
  · exact charged_raise charged_toggleLimit
  · exact charged_raise h
  · exact h

theorem charged_handPress {p : Position} {code : Byte} {layer : Bool} {stamp : Stamp} (h : Charged x t) :
    Charged x (handPress p code layer stamp t) := by
  unfold handPress
  exact charged_ite (charged_typePress (charged_queueEvent h)) (charged_ite (charged_runAction h) h)

theorem charged_completePress {p : Position} (h : Charged x t) : Charged x (completePress p t) := by
  unfold completePress
  exact charged_ite h (charged_ite (charged_queueEvent h) (charged_handPress h))

/-- One position of a pass, whatever its state (R94, R99, R100, R104). -/
theorem charged_evaluatePosition {mode : ScanMode} {wakes : Nat} {p : Position} (h : Charged x t) :
    Charged x (evaluatePosition mode (t, wakes) p).1 := by
  unfold evaluatePosition
  dsimp only
  split
  case h_1 | h_2 =>
    exact charged_fst_ite
      (charged_fst_ite (charged_fst_ite (charged_completePress h) h) h) h
  case h_3 | h_4 => exact charged_fst_ite h (charged_fst_ite (charged_handRelease h) h)
  case h_5 | h_6 => exact charged_fst_ite h (charged_fst_ite h h)

theorem charged_foldl_evaluatePosition {mode : ScanMode} {wakes : Nat} (ps : List Position) (h : Charged x t) :
    Charged x (ps.foldl (evaluatePosition mode) (t, wakes)).1 := by
  induction ps generalizing t wakes with
  | nil => exact h
  | cons p ps ih => exact ih (charged_evaluatePosition h)

theorem charged_evaluatePass {raw : Samples} (h : Charged x t) : Charged x (evaluatePass raw t).1 := by
  unfold evaluatePass
  exact charged_foldl_evaluatePosition _ h

theorem charged_keyboardWakes {n : Nat} (h : Charged x t) : Charged x (keyboardWakes n t) := by
  induction n generalizing t with
  | zero => exact h
  | succ n ih => exact ih (charged_settingEvent h)

theorem charged_passEnds {raw : Samples} (h : Charged x t) : Charged x (passEnds raw t) := by
  unfold passEnds
  have h1 : Charged x { t with inputs.matrix := raw } := h
  exact charged_ite (charged_keyboardWakes (charged_evaluatePass h1)) h1

theorem charged_passStarts (h : Charged x t) : Charged x (passStarts t) := by
  unfold passStarts
  exact charged_ite h h

/-! ## Sensors (R69 to R75) -/

theorem charged_convertSensor {i : Fin 8} {v : Int} (h : Charged x t) : Charged x (convertSensor i v t) := by
  unfold convertSensor
  exact charged_ite (charged_detectMild h) h

theorem charged_convertBoard {cpu charger skin ambient : Int} (h : Charged x t) :
    Charged x (convertBoard cpu charger skin ambient t) := by
  unfold convertBoard
  extract_lets t1
  have h1 : Charged x t1 :=
    charged_convertSensor (charged_convertSensor (charged_convertSensor (charged_convertSensor h)))
  exact charged_ite h1 (charged_endFault h1)

theorem charged_judgeSupplyStale (h : Charged x t) : Charged x (judgeSupplyStale t) := by
  unfold judgeSupplyStale
  exact charged_ite h (charged_endFault h)

theorem charged_goStale {i : Fin 8} (h : Charged x t) : Charged x (goStale i t) := by
  unfold goStale
  exact charged_judgeSupplyStale (charged_detectMild (charged_raise h))

theorem charged_judgeDerate {before : ThermalUnit} (h : Charged x t) : Charged x (judgeDerate before t) := by
  unfold judgeDerate
  exact charged_ite h (charged_applyDerate h)

theorem charged_boardConverted {cpu charger skin ambient : Int} (h : Charged x t) :
    Charged x (boardConverted cpu charger skin ambient t) := by
  unfold boardConverted
  exact charged_judgeDerate
    (charged_judgeWakeCondition (charged_judgeTrip (charged_convertBoard h)))

theorem charged_freshnessReached {i : Fin 8} (h : Charged x t) : Charged x (freshnessReached i t) := by
  unfold freshnessReached
  exact charged_ite (charged_judgeTrip (charged_goStale h)) h

theorem charged_supplyField {i : Fin 8} {v : Int} (h : Charged x t) : Charged x (supplyField i v t) := by
  unfold supplyField applySupply
  exact charged_ite h (charged_judgeSupplyStale h)

theorem charged_supplyUnderSettings {i : Fin 8} (h : Charged x t) : Charged x (supplyUnderSettings i t) := by
  unfold supplyUnderSettings
  exact charged_ite h (charged_ite (charged_goStale h) h)

theorem charged_takeThermal {settings : ThermalSettings} {table : Vector DerateEntry 4} (h : Charged x t) :
    Charged x (takeThermal settings table t) := by
  unfold takeThermal
  exact charged_remakeDuties (charged_applyDerate (charged_judgeWakeCondition (charged_judgeTrip
    (charged_supplyUnderSettings (charged_supplyUnderSettings h)))))

/-! ## Fan events (R77, R81 to R83) -/

theorem charged_evaluateFans (h : Charged x t) : Charged x (evaluateFans t) := by
  unfold evaluateFans
  exact charged_evaluateFan (charged_evaluateFan h)

theorem charged_judgeStallEnd (h : Charged x t) : Charged x (judgeStallEnd t) := by
  unfold judgeStallEnd
  exact charged_ite h (charged_endFault h)

theorem charged_healthChanged {i : FanId} {failed : Bool} (h : Charged x t) :
    Charged x (healthChanged i failed t) := by
  unfold healthChanged
  exact charged_remakeFan (charged_applyDerate
    (charged_ite (charged_raise (charged_detectMild h)) (charged_raise (charged_judgeStallEnd h))))

theorem charged_tachEnded {i : FanId} {pulses : Nat} (h : Charged x t) : Charged x (tachEnded i pulses t) := by
  unfold tachEnded
  exact charged_ite (charged_ite (charged_judgeStallEnd h) (charged_healthChanged h)) h

theorem charged_overrideExpired {i : FanId} (h : Charged x t) : Charged x (overrideExpired i t) := by
  unfold overrideExpired
  exact charged_ite (charged_cancelOverride h) h

/-! ## The platform (R129 to R161) -/

theorem charged_offerAtOff {before : State} (h : Charged x t) : Charged x (offerAtOff before t) := by
  unfold offerAtOff
  exact charged_ite (charged_offerWake h) h

theorem charged_takeExtSettings {i : WakeSource} {old new : ExtSettings} {high : Bool} (h : Charged x t) :
    Charged x (takeExtSettings i old new high t) := by
  unfold takeExtSettings
  exact charged_ite (charged_settingEvent h) h

theorem charged_takeWakeConfig {standby off ext : Nat} (h : Charged x t) :
    Charged x (takeWakeConfig standby off ext t) := by
  unfold takeWakeConfig
  exact charged_ite (charged_offerWake (charged_takeExtSettings (charged_takeExtSettings h)))
    (charged_takeExtSettings (charged_takeExtSettings h))

theorem charged_eventIfHeld {i : WakeSource} (h : Charged x t) : Charged x (eventIfHeld t i) := by
  unfold eventIfHeld
  exact charged_ite (charged_settingEvent h) h

theorem charged_clearSource {i : WakeSource} (h : Charged x t) : Charged x (clearSource t i) := h

theorem charged_takeWakeStatus {mask : Nat} (h : Charged x t) : Charged x (takeWakeStatus mask t) := by
  unfold takeWakeStatus
  exact charged_foldl _ charged_eventIfHeld (charged_foldl _ charged_clearSource h)

theorem charged_wakeTimerRunsOut (h : Charged x t) : Charged x (wakeTimerRunsOut t) := by
  unfold wakeTimerRunsOut
  exact charged_settingEvent h

theorem charged_wakeTimerExpired (h : Charged x t) : Charged x (wakeTimerExpired t) := by
  unfold wakeTimerExpired
  exact charged_ite (charged_wakeTimerRunsOut h) h

theorem charged_lidInput {closed : Bool} (h : Charged x t) : Charged x (lidInput closed t) := by
  unfold lidInput
  exact charged_ite h h

theorem charged_postureChanged {old : Posture} (h : Charged x t) : Charged x (postureChanged old t) := by
  unfold postureChanged
  exact charged_ite h (charged_updateKeyboard (charged_raise h))

theorem charged_lidChanged {closed : Bool} (h : Charged x t) : Charged x (lidChanged closed t) := by
  unfold lidChanged
  exact charged_postureChanged (charged_ite (charged_raise h) (charged_settingEvent (charged_raise h)))

theorem charged_lidSettled (h : Charged x t) : Charged x (lidSettled t) := by
  unfold lidSettled
  exact charged_ite h (charged_ite h (charged_lidChanged h))

theorem charged_hingeInput {i : HingeId} {active : Bool} (h : Charged x t) :
    Charged x (hingeInput i active t) := by
  cases i with
  | h1 => exact charged_ite h h
  | h2 => exact charged_ite h h

theorem charged_hingeDecoded {oldPair : Option Posture} (h : Charged x t) :
    Charged x (hingeDecoded oldPair t) := by
  unfold hingeDecoded
  exact charged_postureChanged
    (charged_ite (charged_detectMild h) (charged_ite (charged_endFault h) h))

theorem charged_hingeSettled {i : HingeId} (h : Charged x t) : Charged x (hingeSettled i t) := by
  cases i with
  | h1 => exact charged_ite h (charged_hingeDecoded h)
  | h2 => exact charged_ite h (charged_hingeDecoded h)

theorem charged_extInput {i : ExtId} {high : Bool} (h : Charged x t) : Charged x (extInput i high t) := by
  cases i with
  | ext0 => exact charged_ite h (charged_ite (charged_settingEvent h) h)
  | ext1 => exact charged_ite h (charged_ite (charged_settingEvent h) h)

theorem charged_takeTransition {request : Nat} (h : Charged x t) : Charged x (takeTransition request t) := by
  unfold takeTransition
  exact charged_ite (charged_changeState h) (charged_changeState h)

theorem charged_overrideTaken (h : Charged x t) : Charged x (overrideTaken t) := by
  unfold overrideTaken
  exact charged_ite h (charged_detectMild (charged_forcedStop h))

theorem charged_takeSeqSettings {y : SeqSettings} (h : Charged x t) : Charged x (takeSeqSettings y t) := by
  unfold takeSeqSettings
  exact charged_judgeCritical (charged_ite (charged_overrideTaken h) h)

theorem charged_spgRises (h : Charged x t) : Charged x (spgRises t) := by
  unfold spgRises
  exact charged_ite (charged_enterMpgWait h) h

theorem charged_mpgRises (h : Charged x t) : Charged x (mpgRises t) := by
  unfold mpgRises
  exact charged_ite h h

theorem charged_stepWaitExpired (h : Charged x t) : Charged x (stepWaitExpired t) := by
  unfold stepWaitExpired
  split
  case h_4 => exact h
  all_goals exact charged_railFail h

theorem charged_powerGoodFalls {i : GoodId} (h : Charged x t) : Charged x (powerGoodFalls i t) := by
  cases i with
  | spg => exact charged_ite (charged_railFail h) h
  | mpg => exact charged_ite (charged_railFail h) h

theorem charged_resetHoldExpired (h : Charged x t) : Charged x (resetHoldExpired t) := by
  unfold resetHoldExpired
  exact charged_ite (charged_arriveOn h) h

theorem charged_standbyDelayExpired (h : Charged x t) : Charged x (standbyDelayExpired t) := by
  unfold standbyDelayExpired
  exact charged_ite (charged_arriveStandby h) h

theorem charged_offDelayExpired (h : Charged x t) : Charged x (offDelayExpired t) := by
  unfold offDelayExpired
  have h1 : Charged x (dropAll t) := h
  exact charged_ite (charged_arriveOff h1) h

theorem charged_buttonInput {pressed : Bool} (h : Charged x t) : Charged x (buttonInput pressed t) := by
  unfold buttonInput
  exact charged_ite h h

theorem charged_buttonReleased (h : Charged x t) : Charged x (buttonReleased t) := by
  unfold buttonReleased
  exact charged_ite (charged_raise h) h

theorem charged_buttonSettled (h : Charged x t) : Charged x (buttonSettled t) := by
  unfold buttonSettled buttonPressed
  exact charged_ite h
    (charged_ite h (charged_ite (charged_settingEvent h) (charged_buttonReleased h)))

theorem charged_overrideTimeReached (h : Charged x t) : Charged x (overrideTimeReached t) := by
  unfold overrideTimeReached
  exact charged_ite (charged_overrideTaken h) h

theorem charged_graceExpired (h : Charged x t) : Charged x (graceExpired t) := by
  unfold graceExpired
  split
  · exact h
  · have counted : Charged x { t with psq.grace := some 0 } := h
    exact charged_detectMild (charged_forcedStop (charged_endGrace counted))

theorem charged_restartHoldEnded (h : Charged x t) : Charged x (restartHoldEnded t) := by
  unfold restartHoldEnded
  exact charged_ite h (charged_judgeCritical h)

/-! ## The link (R178 to R184) -/

theorem charged_countError {detail : Byte} (h : Charged x t) : Charged x (countError detail t) := by
  unfold countError
  exact charged_ite h (charged_ite (charged_detectMild h) h)

theorem charged_countErrors {detail : Byte} {n : Nat} (h : Charged x t) :
    Charged x (countErrors detail n t) := by
  induction n generalizing t with
  | zero => exact h
  | succ n ih => exact ih (charged_countError h)

theorem charged_deliver {o : Outgoing} (h : Charged x t) : Charged x (deliver o t) := by
  unfold deliver
  exact charged_ite h h

theorem charged_answerPassthrough {payload : List Byte} (h : Charged x t) :
    Charged x (answerPassthrough payload t) := by
  unfold answerPassthrough
  split
  · exact charged_ite h (charged_deliver h)
  · exact h

theorem charged_disposeFrame {f : Frame} (h : Charged x t) : Charged x (disposeFrame f t) := by
  unfold disposeFrame
  exact charged_ite h h

theorem charged_receive {type : Byte} {payload : List Byte} {serve : State → State}
    (hs : ∀ {u}, Charged x u → Charged x (serve u)) (h : Charged x t) :
    Charged x (receive type payload serve t) := by
  unfold receive
  exact charged_ite (charged_countErrors h) (charged_ite (hs h) (charged_disposeFrame h))

theorem charged_request {type : Byte} {payload : List Byte} {serve : List Byte → State → State × List Byte}
    (hs : ∀ {p u}, Charged x u → Charged x (serve p u).1) (h : Charged x t) :
    Charged x (request type serve payload t) := by
  unfold request
  exact charged_receive (fun hu => charged_deliver (hs hu)) h

theorem charged_faultyFrame {detail : Byte} {bytes : Nat} {f : Frame} (h : Charged x t) :
    Charged x (faultyFrame detail bytes f t) := by
  unfold faultyFrame
  exact charged_ite (charged_countErrors h) (charged_disposeFrame (charged_countError h))

theorem charged_takeByte {b : Byte} (h : Charged x t) : Charged x (takeByte t b) := by
  unfold takeByte
  split
  · exact charged_ite h (charged_countError h)
  · exact h
  · exact charged_ite (charged_faultyFrame h) h
  · exact h
  · exact h
  · exact charged_countError h

theorem charged_gapRunsOut (h : Charged x t) : Charged x (gapRunsOut t) := by
  unfold gapRunsOut
  exact charged_ite (charged_countError h) h

theorem charged_gapTimesOut {taken : List Byte} (h : Charged x t) : Charged x (gapTimesOut taken t) := by
  unfold gapTimesOut
  exact charged_gapRunsOut (charged_foldl _ charged_takeByte h)

theorem charged_takeRoom (h : Charged x t) : Charged x (takeRoom t) := by
  unfold takeRoom
  split
  · exact charged_deliver h
  · split
    · exact charged_disposeFrame h
    · exact h

theorem charged_framingErrors (h : Charged x t) : Charged x (framingErrors t) := by
  unfold framingErrors
  exact charged_countError (charged_ite h h)

theorem charged_byteOverruns (h : Charged x t) : Charged x (byteOverruns t) := by
  unfold byteOverruns
  exact charged_ite (charged_countError h) h

/-! ## Packs (R23 to R37) -/

theorem charged_updateRsoc (h : Charged x t) : Charged x (updateRsoc t) := charged_judgeCritical h

theorem charged_endPackFault {k : FaultKind} {holds : PackRecord → Bool} {p : PackId} (h : Charged x t) :
    Charged x (endPackFault k holds p t) := by
  unfold endPackFault
  exact charged_ite h (charged_endFault h)

theorem charged_endCommLost {p : PackId} (h : Charged x t) : Charged x (endCommLost p t) := by
  unfold endCommLost
  exact charged_ite h (charged_endPackFault h)

theorem charged_setSwitches (h : Charged x t) : Charged x (setSwitches t) := h

theorem charged_handToThermal {p : PackId} (h : Charged x t) : Charged x (handToThermal p t) := h

/-- A record that is handed on makes every claim again, whatever was before. -/
theorem charged_handRecord {p : PackId} : Charged x (handRecord p t) := by
  unfold handRecord
  exact charged_updateRsoc (charged_setSwitches (charged_handToThermal charged_handToCharge))

theorem charged_handPoll {p : PackId} {target : Nat} : Charged x (handPoll p target t) := by
  unfold handPoll
  exact charged_updateRsoc (charged_setSwitches (charged_handToThermal charged_chargeAtPoll))

theorem charged_modSchedule {p : PackId} {f : PackSchedule → PackSchedule} (h : Charged x t) :
    Charged x (modSchedule p f t) := h

theorem charged_schedulePoll {p : PackId} (h : Charged x t) : Charged x (schedulePoll p t) := charged_modSchedule h

theorem charged_modRecord {p : PackId} {f : PackRecord → PackRecord} (h : Charged x t) :
    Charged x (modRecord p f t) := h

theorem charged_dropOverCharge {p : PackId} (h : Charged x t) : Charged x (dropOverCharge p t) := by
  unfold dropOverCharge
  exact charged_ite h (charged_modRecord h)

theorem charged_dropOverTemp {p : PackId} (h : Charged x t) : Charged x (dropOverTemp p t) := by
  unfold dropOverTemp
  exact charged_ite h (charged_modRecord h)

theorem charged_endAlarms {p : PackId} (h : Charged x t) : Charged x (endAlarms p t) := by
  unfold endAlarms
  have ended := charged_ite (c := overChargeHolds (t.pks.record.get p) = true) h
    (charged_endPackFault (k := .packOverCharged) (holds := overChargeHolds) (p := p) h)
  exact charged_ite ended (charged_endPackFault ended)

theorem charged_clearCauses {charged hot : Bool} {p : PackId} (h : Charged x t) :
    Charged x (clearCauses charged hot p t) := by
  unfold clearCauses
  extract_lets before t1 t2
  have h1 : Charged x t1 := charged_ite (charged_dropOverCharge h) h
  have h2 : Charged x t2 := charged_ite (charged_dropOverTemp h1) h1
  exact charged_ite h2 charged_handRecord

theorem charged_goodPoll {p : PackId} {ws : List Word16} : Charged x (goodPoll p ws t) := by
  unfold goodPoll
  exact charged_schedulePoll charged_handPoll

theorem charged_goodIdentification {p : PackId} {ws : List Word16} : Charged x (goodIdentification p ws t) :=
  charged_goodPoll

theorem charged_failedPoll {p : PackId} (h : Charged x t) : Charged x (failedPoll p t) := by
  unfold failedPoll
  exact charged_ite charged_handRecord (charged_modRecord h)

theorem charged_packInserted {p : PackId} : Charged x (packInserted p t) := charged_handRecord

theorem charged_packRemoved {p : PackId} : Charged x (packRemoved p t) := by
  unfold packRemoved
  exact charged_raise (charged_endCommLost (charged_endAlarms charged_handRecord))

theorem charged_presenceChanges {p : PackId} {active : Bool} (h : Charged x t) :
    Charged x (presenceChanges p active t) := by
  unfold presenceChanges
  have told (i : Inputs) (ha : i.channelFaultA = t.inputs.channelFaultA)
      (hb : i.channelFaultB = t.inputs.channelFaultB) : Charged x { t with inputs := i } := by
    unfold Charged chargeView
    rw [ha, hb]
    exact h
  exact charged_ite (told _ (by cases p <;> rfl) (by cases p <;> rfl))
    (charged_ite charged_packInserted charged_packRemoved)

theorem charged_identificationFalls {p : PackId} (h : Charged x t) :
    Charged x (identificationFalls p t) := by
  unfold identificationFalls
  exact charged_ite (charged_modSchedule h) h

theorem charged_pollFalls {p : PackId} (h : Charged x t) : Charged x (pollFalls p t) := by
  unfold pollFalls
  exact charged_ite (charged_modSchedule h) h

/-- The fault input of a channel is read by the charge states alone (R42). -/
theorem Charged.withInputs (h : Charged x t) (hx : x ≠ .states) (i : Inputs) : Charged x { t with inputs := i } := by
  rw [charged_iff] at h ⊢
  cases x with
  | states => exact absurd rfl hx
  | flow => exact h
  | budget => exact h

theorem charged_channelFails {p : PackId} (h : x ≠ .states → Charged x t) : Charged x (channelFails p t) := by
  unfold channelFails
  have detected (hx : x ≠ .states) (c : PerPack Bool) : Charged x { t with chc.channelDetected := c } := h hx
  exact charged_ite (charged_chargeRefresh fun hx => charged_detect (detected hx _)) (charged_chargeRefresh h)

theorem charged_channelRecovers {p : PackId} (h : x ≠ .states → Charged x t) : Charged x (channelRecovers p t) := by
  unfold channelRecovers
  have ended (hx : x ≠ .states) (c : PerPack Bool) : Charged x { t with chc.channelDetected := c } := h hx
  exact charged_chargeRefresh fun hx => charged_ite (ended hx _) (charged_endFault (ended hx _))

theorem charged_channelFaultChanges {p : PackId} {active : Bool} (h : Charged x t) :
    Charged x (channelFaultChanges p active t) := by
  unfold channelFaultChanges
  exact charged_ite h (charged_ite (charged_channelFails fun hx => h.withInputs hx _)
    (charged_channelRecovers fun hx => h.withInputs hx _))

/-! ## Sources (R4 to R15) -/

theorem charged_judgeThrottle (h : Charged x t) : Charged x (judgeThrottle t) := h

theorem charged_endOverload (h : Charged x t) : Charged x (endOverload t) := by
  unfold endOverload
  have ended : Charged x { t with srs.overload := false, srs.overloadRun := 0 } := h
  exact charged_judgeThrottle (charged_endFault (charged_raise ended))

theorem charged_beginOverload (h : Charged x t) : Charged x (beginOverload t) := by
  unfold beginOverload
  have begun : Charged x { t with srs.overload := true, srs.overloadRun := 0 } := h
  exact charged_judgeThrottle (charged_detectMild (charged_raise begun))

theorem charged_judgeOverload (h : Charged x t) : Charged x (judgeOverload t) := by
  unfold judgeOverload
  exact charged_ite h (charged_ite h
    (charged_ite h (charged_ite (charged_endOverload h) (charged_beginOverload h))))

theorem charged_handSource : Charged x (handSource t) := by
  unfold handSource
  exact charged_judgeCritical (charged_setSwitches charged_refreshed)

/-- A change of the active source makes every claim again, from any state (R11). -/
theorem charged_changeActive {new : Option SourceId} : Charged x (changeActive new t) := by
  unfold changeActive
  extract_lets old changed t1 t2 t3
  have h3 : Charged x t3 := charged_handSource
  clear_value t3
  exact charged_ite (charged_endOverload h3) h3

theorem charged_selectSource (h : Charged x t) : Charged x (selectSource t) := by
  unfold selectSource
  exact charged_ite h charged_changeActive

/-- A record changes without a new contract of the active source. -/
theorem charged_setSource {i : SourceId} {r : SourceRecord}
    (kept : t.srs.active = some i → contractMoved (t.srs.get i) r = false) (h : Charged x t) :
    Charged x (setSource i r t) := by
  have contract : activeContract (t.srs.set i r) = activeContract t.srs := by
    have active : (t.srs.set i r).active = t.srs.active := by cases i <;> rfl
    unfold activeContract
    rw [active]
    cases e : t.srs.active with
    | none => rfl
    | some j =>
      by_cases same : j = i
      · subst same
        have moved := kept e
        simp only [contractMoved, Bool.or_eq_false_iff, bne_eq_false_iff_eq] at moved
        simp [moved]
      · simp [Selector.get_set_ne _ _ same]
  have view : chargeView (setSource i r t) = chargeView t := by
    have selector : chargeSelector (t.srs.set i r) = chargeSelector t.srs := by
      unfold chargeSelector
      rw [contract]
      cases i <;> rfl
    unfold chargeView
    rw [← selector]
    rfl
  unfold Charged
  rwa [view]

theorem charged_judgeInvalid {i : SourceId} {old new : SourceRecord} (h : Charged x t) :
    Charged x (judgeInvalid i old new t) :=
  (judgeInvalid_frame i old new t).charged h

/-- A new contract of a source that stays the active one is a change of R53's, and so is a change of the active
source. -/
theorem charged_updateSource {i : SourceId} {new : SourceRecord} (h : Charged x t) :
    Charged x (updateSource i new t) := by
  unfold updateSource
  extract_lets old t1 t2
  have srs : t1.srs = t.srs.set i new := by
    have frame := judgeInvalid_frame i old new (setSource i new t)
    rw [OnlyReports] at frame
    exact congrArg State.srs frame
  split
  next => exact charged_refreshed
  next stays =>
    by_cases changes : asksSelection old new = true ∧ outcome t1.srs ≠ t1.srs.active
    · have e : t2 = changeActive (outcome t1.srs) t1 := by simp only [t2, selectSource, changes, if_true, if_false]
      rw [e]
      exact charged_changeActive
    · have e : t2 = t1 := by
        simp only [t2, selectSource]
        grind
      have active : t2.srs.active = t.srs.active := by
        rw [e, srs]
        cases i <;> rfl
      rw [e]
      refine charged_judgeInvalid (charged_setSource (fun ha => ?_) h)
      rw [active] at stays
      simpa [ha] using stays

theorem charged_contractDelivered {p : PortId} {block : List Byte} (h : Charged x t) :
    Charged x (contractDelivered p block t) := by
  unfold contractDelivered
  exact charged_updateSource h

theorem charged_sourceSettled {i : SourceId} (h : Charged x t) : Charged x (sourceSettled i t) := by
  unfold sourceSettled
  have settled : Charged x (setSource i { t.srs.get i with settle := Config.settleMs, settled := true } t) :=
    charged_setSource (fun _ => by simp [contractMoved]) h
  exact charged_ite (charged_ite (charged_selectSource settled) settled) h

theorem charged_switchingExpired (h : Charged x t) : Charged x (switchingExpired t) := by
  unfold switchingExpired
  exact charged_ite h (charged_ite (charged_selectSource charged_refreshed) h)

theorem charged_requestRead {p : PortId} (h : Charged x t) : Charged x (requestRead p t) := h

theorem charged_portIntervalEnds {p : PortId} (h : Charged x t) : Charged x (portIntervalEnds p t) := by
  unfold portIntervalEnds
  exact charged_ite (charged_requestRead h) h

theorem charged_barrelDetect {active : Bool} {reading : AdapterReading} (h : Charged x t) :
    Charged x (barrelDetect active reading t) := by
  unfold barrelDetect
  exact charged_ite h (charged_ite h (charged_updateSource h))

theorem charged_adapterChanges {reading : AdapterReading} (h : Charged x t) :
    Charged x (adapterChanges reading t) := by
  unfold adapterChanges
  exact charged_ite (charged_updateSource h) h

theorem charged_pSysSampled {reading : Nat} : Charged x (pSysSampled reading t) := by
  unfold pSysSampled
  exact charged_judgeOverload charged_refreshed

/-! ## The pack bus (R19 to R35) -/

theorem charged_lineFound (h : Charged x t) : Charged x (lineFound t) := by
  have found : Charged x { t with pbc.recoveryFails := 0 } := h
  exact charged_endFault found

theorem charged_lineLevel {high : Bool} (h : Charged x t) : Charged x (lineLevel high t) := h

theorem charged_startAttempt {y : Transaction} (h : Charged x t) : Charged x (startAttempt y t) := by
  unfold startAttempt
  exact charged_ite (charged_lineFound h) h

theorem charged_startTransaction {device : BusDevice} {passthrough : Bool} {op : BusOp} (h : Charged x t) :
    Charged x (startTransaction device passthrough op t) := by
  unfold startTransaction
  exact charged_startAttempt h

theorem charged_beginTurn {poller : BusDevice} {work : TurnWork} {ops : List BusOp} (h : Charged x t) :
    Charged x (beginTurn poller work ops t) := by
  cases ops with
  | nil => exact h
  | cons op rest => exact charged_startTransaction h

theorem charged_beginPackTurn {p : PackId} (h : Charged x t) : Charged x (beginPackTurn p t) := by
  unfold beginPackTurn
  exact charged_beginTurn (charged_modSchedule h)

theorem charged_beginPortTurn {p : PortId} (h : Charged x t) : Charged x (beginPortTurn p t) := by
  unfold beginPortTurn
  exact charged_beginTurn h

theorem charged_beginPollerTurn {d : BusDevice} (h : Charged x t) : Charged x (beginPollerTurn d t) := by
  cases d with
  | packA | packB => exact charged_beginPackTurn h
  | port1 | port2 => exact charged_beginPortTurn h

theorem charged_grantPoller (h : Charged x t) : Charged x (grantPoller t) := by
  unfold grantPoller
  split
  · exact charged_beginPollerTurn h
  · exact h

theorem charged_grantTurn (h : Charged x t) : Charged x (grantTurn t) := by
  unfold grantTurn
  split
  · split
    · exact charged_startTransaction h
    · exact charged_grantPoller h
  · exact charged_grantPoller h

theorem charged_busGrant (h : Charged x t) : Charged x (busGrant t) := by
  unfold busGrant
  refine charged_ite h ?_
  split
  · exact charged_ite (charged_grantTurn h) (charged_startTransaction h)
  · exact charged_grantTurn h

theorem charged_endTurn (h : Charged x t) : Charged x (endTurn t) := h

theorem charged_switchWritten {p : PackId} {w : Word16} {good : Bool} (h : Charged x t) :
    Charged x (switchWritten p w good t) := by
  unfold switchWritten
  exact charged_ite (charged_modRecord h) h

theorem charged_readsGood {p : PackId} {work : TurnWork} {ws : List Word16} : Charged x (readsGood p work ws t) := by
  unfold readsGood
  split
  · exact charged_goodIdentification
  · exact charged_goodPoll

theorem charged_readsFailed {p : PackId} {work : TurnWork} (h : Charged x t) :
    Charged x (readsFailed p work t) := by
  unfold readsFailed
  split
  · exact charged_modSchedule (charged_failedPoll h)
  · exact charged_schedulePoll (charged_failedPoll h)

theorem charged_packOutcome {p : PackId} {y : Turn} {op : BusOp} {result : Option (List Byte)}
    (h : Charged x t) : Charged x (packOutcome p y op result t) := by
  unfold packOutcome
  split
  · exact charged_ite (charged_endTurn (charged_switchWritten h)) (charged_switchWritten h)
  · split
    · exact charged_readsFailed (charged_endTurn h)
    · exact charged_ite charged_readsGood h

theorem charged_portOutcome {p : PortId} {result : Option (List Byte)} (h : Charged x t) :
    Charged x (portOutcome p result t) := by
  cases result with
  | none => exact charged_endTurn h
  | some block => exact charged_contractDelivered (charged_endTurn h)

theorem charged_pollerOutcome {d : BusDevice} {op : BusOp} {result : Option (List Byte)} (h : Charged x t) :
    Charged x (pollerOutcome d op result t) := by
  unfold pollerOutcome
  split
  · exact h
  · cases d with
    | packA | packB => exact charged_packOutcome h
    | port1 | port2 => exact charged_portOutcome h

theorem charged_passthroughOutcome {result : Option (List Byte)} (h : Charged x t) :
    Charged x (passthroughOutcome result t) := by
  unfold passthroughOutcome
  split
  · exact h
  · exact charged_answerPassthrough h

theorem charged_endTransaction {y : Transaction} {result : Option (List Byte)} (h : Charged x t) :
    Charged x (endTransaction y result t) := by
  unfold endTransaction
  exact charged_ite (charged_passthroughOutcome h) (charged_ite h (charged_pollerOutcome h))

theorem charged_attemptFails {y : Transaction} (h : Charged x t) : Charged x (attemptFails y t) := by
  unfold attemptFails
  exact charged_ite (charged_endTransaction h) (charged_startAttempt h)

theorem charged_attemptEnded {result : AttemptResult} (h : Charged x t) :
    Charged x (attemptEnded result t) := by
  unfold attemptEnded
  split
  · exact h
  · refine charged_ite h ?_
    cases result with
    | notAcked => exact charged_attemptFails h
    | acked data => exact charged_ite (charged_endTransaction h) (charged_attemptFails h)

theorem charged_recoveryFailed {y : Transaction} (h : Charged x t) : Charged x (recoveryFailed y t) := by
  unfold recoveryFailed
  exact charged_attemptFails (charged_ite (charged_detectMild h) h)

theorem charged_recoveryEnded {lineHigh : Bool} (h : Charged x t) : Charged x (recoveryEnded lineHigh t) := by
  unfold recoveryEnded
  split
  · exact h
  · exact charged_ite h (charged_ite (charged_lineFound h) (charged_recoveryFailed h))

theorem charged_busAttemptEnds {result : AttemptResult} {lineHigh : Bool} (h : Charged x t) :
    Charged x (busAttemptEnds result lineHigh t) := by
  unfold busAttemptEnds
  exact charged_attemptEnded (charged_lineLevel h)

theorem charged_attemptTimesOut {lineHigh : Bool} (h : Charged x t) :
    Charged x (attemptTimesOut lineHigh t) := by
  unfold attemptTimesOut
  exact charged_attemptEnded (charged_lineLevel h)

theorem charged_busRecovers {lineHigh : Bool} (h : Charged x t) : Charged x (busRecovers lineHigh t) := by
  unfold busRecovers
  exact charged_recoveryEnded (charged_lineLevel h)

/-! ## Indicators and fault clearing (R167 to R173) -/

theorem charged_chargePhaseEnds (h : Charged x t) : Charged x (chargePhaseEnds t) := by
  unfold chargePhaseEnds
  exact charged_ite (charged_ite h h) h

theorem charged_phaseEnds {led : LedId} (h : Charged x t) : Charged x (phaseEnds led t) := by
  cases led with
  | power => exact charged_ite h h
  | charge => exact charged_ite (charged_chargePhaseEnds h) h

theorem charged_setLed {power invert : Bool} {override : Option Show} (h : Charged x t) :
    Charged x (setLed power override invert t) := by
  unfold setLed
  exact charged_ite h h

theorem charged_redetect {mask : Nat} {k : FaultKind} (h : Charged x t) : Charged x (redetect mask t k) := by
  unfold redetect
  exact charged_ite (charged_detect h) h

theorem charged_clearPackCauses {mask : Nat} (h : Charged x t) : Charged x (clearPackCauses mask t) := by
  unfold clearPackCauses
  exact charged_clearCauses (charged_clearCauses h)

theorem charged_clearAndRedetect {mask : Nat} (h : Charged x t) : Charged x (clearAndRedetect mask t) := by
  unfold clearAndRedetect
  have cleared (r : Vector FaultRecord 20) : Charged x { t with flt.record := r } := h
  exact charged_foldl _ charged_redetect (charged_clearPackCauses (cleared _))

theorem charged_releaseAtClear {mask : Nat} (h : Charged x t) : Charged x (releaseAtClear mask t) := by
  unfold releaseAtClear
  exact charged_ite h (charged_setLevel h)

end Sys2Proof.Machine
end

section
/-! CHC's claims under the requests, the restart, the expiries of a tick and so every command and step. -/

namespace Sys2Proof.Machine

open Sys2Proof.Safety

variable {x : ChargeClaim} {s t u : State}

/-! ## Requests: the state after a request has been served -/

theorem charged_servePing {p : List Byte} (h : Charged x t) : Charged x (servePing p t).1 := by
  unfold servePing
  exact charged_fst_ite h h

theorem charged_serveLinkStart {p : List Byte} (h : Charged x t) : Charged x (serveLinkStart p t).1 := by
  unfold serveLinkStart
  exact charged_fst_ite h h

theorem charged_serveStatusGet {p : List Byte} (h : Charged x t) : Charged x (serveStatusGet p t).1 := by
  unfold serveStatusGet
  exact charged_fst_ite h h

theorem charged_serveRestart {p : List Byte} (h : Charged x t) : Charged x (serveRestart p t) := by
  unfold serveRestart
  exact charged_ite (charged_deliver h) (charged_deliver h)

theorem charged_serveUnknown {p : List Byte} (h : Charged x t) : Charged x (serveUnknown p t).1 := h

theorem charged_layOut {key notice : Area} {level limit : Nat} (h : Charged x t) :
    Charged x (layOut key notice level limit t) := by
  unfold layOut
  exact charged_ite (charged_detectMild h) h

theorem charged_serveLinkSetup {p : List Byte} (h : Charged x t) : Charged x (serveLinkSetup p t).1 := by
  unfold serveLinkSetup
  exact charged_fst_ite h (charged_fst_ite h (charged_fst_ite h (charged_layOut h)))

theorem charged_readWords {queue : Byte} {words : List WordCheck} (h : Charged x t) :
    Charged x (readWords queue words t).1 := by
  have read (r : ReportMemory) : Charged x { t with rpm := r } := h
  exact charged_takeReports (read _)

theorem charged_readKeys {fuel want : Nat} (h : Charged x t) : Charged x (readKeys fuel want t).1 := by
  induction fuel generalizing want t with
  | zero => exact h
  | succ fuel ih =>
    cases want with
    | zero => exact h
    | succ want =>
      unfold readKeys
      split
      · exact h
      · exact charged_fst_ite (ih (charged_readWords h)) (ih (charged_readWords h))

theorem charged_readNotices {fuel want : Nat} (h : Charged x t) :
    Charged x (readNotices fuel want t).1 := by
  induction fuel generalizing want t with
  | zero => exact h
  | succ fuel ih =>
    cases want with
    | zero => exact h
    | succ want =>
      unfold readNotices
      split
      · exact h
      · exact charged_fst_ite (ih (charged_readWords h)) (ih (charged_readWords h))

theorem charged_serveQueueRead {p : List Byte} (h : Charged x t) : Charged x (serveQueueRead p t).1 := by
  unfold serveQueueRead readKeyQueue readNoticeQueue
  exact charged_fst_ite h
    (charged_fst_ite h (charged_fst_ite (charged_readKeys h) (charged_readNotices h)))

theorem charged_serveAttnLevelSet {p : List Byte} (h : Charged x t) :
    Charged x (serveAttnLevelSet p t).1 := by
  unfold serveAttnLevelSet
  exact charged_fst_ite h (charged_fst_ite h h)

theorem charged_serveSourcePolicy {p : List Byte} (h : Charged x t) :
    Charged x (serveSourcePolicy p t).1 := by
  unfold serveSourcePolicy
  exact charged_fst_ite h (charged_fst_ite h
    (charged_fst_ite h (charged_selectSource charged_refreshed)))

theorem charged_serveSourceStatusGet {p : List Byte} (h : Charged x t) :
    Charged x (serveSourceStatusGet p t).1 := by
  unfold serveSourceStatusGet
  exact charged_fst_ite h h

theorem charged_servePackStatusGet {p : List Byte} (h : Charged x t) :
    Charged x (servePackStatusGet p t).1 := by
  unfold servePackStatusGet
  refine charged_fst_ite h (charged_fst_ite h (charged_fst_ite h (charged_fst_ite h ?_)))
  split
  · exact h
  · exact h

theorem charged_servePackSnapshot {p : List Byte} (h : Charged x t) :
    Charged x (servePackSnapshot p t).1 := by
  unfold servePackSnapshot
  exact charged_fst_ite h h

theorem charged_servePassthrough {type : Byte} {device : Option BusDevice} {op : Option BusOp} {adjusted : Bool}
    (h : Charged x t) : Charged x (servePassthrough type device op adjusted t) := by
  unfold servePassthrough
  split
  · exact charged_ite h (charged_deliver h)
  · exact charged_deliver h

theorem charged_servePackRead {p : List Byte} (h : Charged x t) : Charged x (servePackRead p t) := by
  unfold servePackRead
  exact charged_ite (charged_deliver h) (charged_servePassthrough h)

theorem charged_servePackWrite {p : List Byte} (h : Charged x t) : Charged x (servePackWrite p t) := by
  unfold servePackWrite
  exact charged_ite (charged_deliver h) (charged_servePassthrough h)

theorem charged_putContext {p : PackId} {c : ChargeContext} : Charged x (putContext p c t) := charged_refreshed

theorem charged_serveProfileLoad {p : List Byte} (h : Charged x t) : Charged x (serveProfileLoad p t).1 := by
  unfold serveProfileLoad
  refine charged_fst_ite h ?_
  split
  · exact h
  · exact h
  · exact charged_putContext

theorem charged_serveProfileExtend {p : List Byte} (h : Charged x t) :
    Charged x (serveProfileExtend p t).1 := by
  unfold serveProfileExtend
  refine charged_fst_ite h ?_
  split
  · exact h
  · exact h
  · exact charged_fst_ite h charged_putContext

theorem charged_serveProfileGet {p : List Byte} (h : Charged x t) : Charged x (serveProfileGet p t).1 := by
  unfold serveProfileGet
  refine charged_fst_ite h ?_
  split
  · exact h
  · exact charged_fst_ite h h

theorem charged_serveProfileAbort {p : List Byte} (h : Charged x t) :
    Charged x (serveProfileAbort p t).1 := by
  unfold serveProfileAbort
  refine charged_fst_ite h ?_
  split
  · exact h
  · exact charged_putContext

theorem charged_serveChargePolicy {p : List Byte} (h : Charged x t) :
    Charged x (serveChargePolicy p t).1 := by
  unfold serveChargePolicy
  refine charged_fst_ite h (charged_fst_ite h ?_)
  split
  · exact h
  · exact charged_judgePolicy

theorem charged_serveBudgetGet {p : List Byte} (h : Charged x t) : Charged x (serveBudgetGet p t).1 := by
  unfold serveBudgetGet
  refine charged_fst_ite h (charged_fst_ite h (charged_fst_ite h ?_))
  split
  · exact h
  · exact h

theorem charged_serveTempSupply {p : List Byte} (h : Charged x t) : Charged x (serveTempSupply p t).1 := by
  unfold serveTempSupply
  exact charged_fst_ite h (charged_judgeTrip (charged_supplyField (charged_supplyField h)))

theorem charged_serveThermalConfig {p : List Byte} (h : Charged x t) :
    Charged x (serveThermalConfig p t).1 := by
  unfold serveThermalConfig
  exact charged_fst_ite h (charged_fst_ite h (charged_fst_ite h (charged_takeThermal h)))

theorem charged_takeCurve {i : FanId} {curve : List CurvePoint} {hysteresis : Nat} {mask : Byte}
    (h : Charged x t) : Charged x (takeCurve i curve hysteresis mask t) := by
  unfold takeCurve
  exact charged_remakeFan h

theorem charged_serveFanCurveSet {p : List Byte} (h : Charged x t) : Charged x (serveFanCurveSet p t).1 := by
  unfold serveFanCurveSet
  exact charged_fst_ite h (charged_fst_ite h (charged_fst_ite h (charged_fst_ite h
    (charged_fst_ite h (charged_takeCurve h)))))

theorem charged_serveFanOverride {p : List Byte} (h : Charged x t) : Charged x (serveFanOverride p t).1 := by
  unfold serveFanOverride
  exact charged_fst_ite h (charged_fst_ite h (charged_fst_ite h (charged_fst_ite h
    (charged_foldl _ charged_setOverride h))))

theorem charged_serveThermalStatusGet {p : List Byte} (h : Charged x t) :
    Charged x (serveThermalStatusGet p t).1 := by
  unfold serveThermalStatusGet
  exact charged_fst_ite h h

theorem charged_takeKeySettings {y : KeySettings} (h : Charged x t) : Charged x (takeKeySettings y t) := by
  unfold takeKeySettings
  exact charged_ite h h

theorem charged_serveKeyConfig {p : List Byte} (h : Charged x t) : Charged x (serveKeyConfig p t).1 := by
  unfold serveKeyConfig
  exact charged_fst_ite h (charged_fst_ite h (charged_fst_ite h (charged_fst_ite h
    (charged_takeKeySettings h))))

theorem charged_serveKeyStateGet {p : List Byte} (h : Charged x t) : Charged x (serveKeyStateGet p t).1 := by
  unfold serveKeyStateGet
  exact charged_fst_ite h h

theorem charged_serveKeymapSet {p : List Byte} (h : Charged x t) : Charged x (serveKeymapSet p t).1 := by
  unfold serveKeymapSet
  exact charged_fst_ite h (charged_fst_ite h (charged_fst_ite h h))

theorem charged_serveKeymapGet {p : List Byte} (h : Charged x t) : Charged x (serveKeymapGet p t).1 := by
  unfold serveKeymapGet
  exact charged_fst_ite h (charged_fst_ite h h)

theorem charged_serveBacklightSet {p : List Byte} (h : Charged x t) :
    Charged x (serveBacklightSet p t).1 := by
  unfold serveBacklightSet
  exact charged_fst_ite h (charged_fst_ite h h)

theorem charged_serveWakeConfig {p : List Byte} (h : Charged x t) : Charged x (serveWakeConfig p t).1 := by
  unfold serveWakeConfig
  exact charged_fst_ite h (charged_fst_ite h (charged_fst_ite h (charged_takeWakeConfig h)))

theorem charged_serveWakeStatus {p : List Byte} (h : Charged x t) : Charged x (serveWakeStatus p t).1 := by
  unfold serveWakeStatus
  exact charged_fst_ite h (charged_fst_ite h (charged_takeWakeStatus h))

theorem charged_serveWakeTimerSet {p : List Byte} (h : Charged x t) :
    Charged x (serveWakeTimerSet p t).1 := by
  unfold serveWakeTimerSet
  exact charged_fst_ite h h

theorem charged_serveTransition {p : List Byte} (h : Charged x t) : Charged x (serveTransition p t).1 := by
  unfold serveTransition
  exact charged_fst_ite h (charged_fst_ite h (charged_takeTransition h))

theorem charged_servePlatformSettings {p : List Byte} (h : Charged x t) :
    Charged x (servePlatformSettings p t).1 := by
  unfold servePlatformSettings
  exact charged_fst_ite h (charged_fst_ite (charged_serveTransition h)
    (charged_fst_ite h (charged_takeSeqSettings h)))

theorem charged_serveFaultGet {p : List Byte} (h : Charged x t) : Charged x (serveFaultGet p t).1 := by
  unfold serveFaultGet
  exact charged_fst_ite h (charged_fst_ite h (charged_fst_ite h h))

theorem charged_serveFaultClear {p : List Byte} (h : Charged x t) : Charged x (serveFaultClear p t).1 := by
  unfold serveFaultClear
  exact charged_fst_ite h (charged_fst_ite h
    (charged_releaseAtClear (charged_refreshChargeLed (charged_clearAndRedetect h))))

theorem charged_serveFaultMaskSet {p : List Byte} (h : Charged x t) : Charged x (serveFaultMaskSet p t).1 := by
  unfold serveFaultMaskSet
  exact charged_fst_ite h (charged_fst_ite h (charged_fst_ite h h))

theorem charged_serveContainmentSet {p : List Byte} (h : Charged x t) :
    Charged x (serveContainmentSet p t).1 := by
  unfold serveContainmentSet
  refine charged_fst_ite h (charged_fst_ite h ?_)
  split
  · exact h
  · exact h

theorem charged_serveIndicatorSet {p : List Byte} (h : Charged x t) :
    Charged x (serveIndicatorSet p t).1 := by
  unfold serveIndicatorSet
  exact charged_fst_ite h (charged_fst_ite h (charged_setLed h))

/-! ## Bring-up and the controller restart (R188) -/

/-- The bring-up makes every claim, from any first values (R67). -/
theorem charged_bringCharge : Charged x (bringCharge t) := by
  have taken := charged_chargeTaken (x := x) (s := { t with chc.handed := t.pks.record })
  exact taken

theorem charged_bringFan {i : FanId} (h : Charged x t) : Charged x (bringFan i t) := by
  unfold bringFan
  exact charged_ite (charged_remakeFan h) h

theorem charged_bringConditions (h : Charged x t) : Charged x (bringConditions t) := by
  unfold bringConditions
  exact charged_judgeWakeCondition
    (charged_judgeTrip (charged_endFault (charged_ite h (charged_endFault h))))

theorem charged_bringUp : Charged x (bringUp t) := by
  unfold bringUp
  extract_lets t1 t2 t3
  have h2 : Charged x t2 := charged_bringCharge
  have h3 : Charged x t3 := charged_bringFan (charged_bringFan h2)
  exact charged_bringConditions (charged_refreshChargeLed h3)

theorem charged_controllerRestart : Charged x (controllerRestart t) := charged_bringUp

theorem charged_powerOn (straps : Straps) (inputs : Inputs) (pending : List Instr) :
    Charged x (powerOn straps inputs pending) :=
  charged_busGrant charged_bringUp

theorem charged_replySent (h : Charged x t) : Charged x (replySent t) := by
  unfold replySent
  split
  · exact h
  · exact charged_ite charged_controllerRestart (charged_takeRoom h)

theorem charged_lineBreaks (h : Charged x t) : Charged x (lineBreaks t) := by
  unfold lineBreaks
  exact charged_ite charged_controllerRestart h

/-! ## The expiries of an idle millisecond (log 1, log 36) -/

theorem charged_whenDue {due : State → Bool} {act : State → State}
    (ha : ∀ {u}, Charged x u → Charged x (act u)) (h : Charged x t) : Charged x (whenDue due act t) := by
  unfold whenDue
  exact charged_ite (charged_offerAtOff (ha h)) h

theorem charged_sourceExpiries (h : Charged x t) : Charged x (sourceExpiries t) := by
  unfold sourceExpiries
  exact charged_foldl _ (charged_whenDue charged_portIntervalEnds)
    (charged_whenDue charged_switchingExpired
      (charged_foldl _ (charged_whenDue charged_sourceSettled) h))

theorem charged_packExpiries (h : Charged x t) : Charged x (packExpiries t) := by
  unfold packExpiries
  exact charged_foldl _
    (fun hu => charged_whenDue charged_pollFalls (charged_whenDue charged_identificationFalls hu))
    (charged_whenDue charged_attemptTimesOut h)

theorem charged_chargeExpiries (h : Charged x t) : Charged x (chargeExpiries t) := by
  unfold chargeExpiries
  exact charged_foldl _
    (fun hu => charged_whenDue charged_limitExpired (charged_whenDue charged_restEnded hu)) h

theorem charged_thermalExpiries (h : Charged x t) : Charged x (thermalExpiries t) := by
  unfold thermalExpiries
  exact charged_foldl _
    (fun hu => charged_whenDue charged_overrideExpired (charged_whenDue id hu))
    (charged_whenDue charged_evaluateFans
      (charged_foldl _ (charged_whenDue charged_freshnessReached) h))

theorem charged_keyExpiries (h : Charged x t) : Charged x (keyExpiries t) := by
  unfold keyExpiries
  exact charged_whenDue charged_typeExpired (charged_whenDue charged_passStarts h)

theorem charged_inputExpiries (h : Charged x t) : Charged x (inputExpiries t) := by
  unfold inputExpiries
  extract_lets t1 t2 t3 t4 t5
  have h1 : Charged x t1 := charged_whenDue charged_lidSettled h
  have h2 : Charged x t2 := charged_whenDue charged_hingeSettled h1
  have h3 : Charged x t3 := charged_whenDue charged_hingeSettled h2
  have h4 : Charged x t4 := charged_whenDue charged_buttonSettled h3
  have h5 : Charged x t5 := charged_whenDue charged_wakeTimerRunsOut h4
  exact charged_whenDue charged_overrideTimeReached h5

theorem charged_sequencerExpiries (h : Charged x t) : Charged x (sequencerExpiries t) := by
  unfold sequencerExpiries
  extract_lets t1 t2 t3 t4
  have h1 : Charged x t1 := charged_whenDue charged_stepWaitExpired h
  have h2 : Charged x t2 := charged_whenDue charged_resetHoldExpired h1
  have h3 : Charged x t3 := charged_whenDue charged_standbyDelayExpired h2
  have h4 : Charged x t4 := charged_whenDue charged_offDelayExpired h3
  exact charged_whenDue charged_restartHoldEnded (charged_whenDue charged_graceExpired h4)

theorem charged_lineExpiries (h : Charged x t) : Charged x (lineExpiries t) := by
  unfold lineExpiries
  exact charged_whenDue charged_gapRunsOut
    (charged_whenDue charged_phaseEnds (charged_whenDue charged_phaseEnds h))

theorem charged_expiries (h : Charged x t) : Charged x (expiries t) := by
  unfold expiries
  exact charged_lineExpiries (charged_sequencerExpiries (charged_inputExpiries (charged_keyExpiries
    (charged_thermalExpiries (charged_chargeExpiries (charged_packExpiries (charged_sourceExpiries h)))))))

theorem uncounted_countElapsed (c : ChargeContext) : uncounted (countElapsed c) = uncounted c := by
  unfold countElapsed
  split
  · rfl
  · split <;> rfl

theorem countSettle_contract (r : SourceRecord) :
    (countSettle r).voltage = r.voltage ∧ (countSettle r).current = r.current := by
  unfold countSettle
  split <;> exact ⟨rfl, rfl⟩

theorem chargeSelector_countSelector (x : Selector) : chargeSelector (countSelector x) = chargeSelector x := by
  have contract : activeContract (countSelector x) = activeContract x := by
    have active : (countSelector x).active = x.active := rfl
    unfold activeContract
    rw [active]
    cases x.active with
    | none => rfl
    | some i => cases i <;> simp [countSelector, Selector.get, countSettle_contract]
  unfold chargeSelector
  rw [contract]
  rfl

/-- The counts move nothing that the claims read. -/
theorem chargeView_advance (s : State) : chargeView (advance s) = chargeView s := by
  simp only [chargeView, advance, uncounted_countElapsed, chargeSelector_countSelector]
  rfl

theorem charged_tick (h : Charged x t) : Charged x (tick t) := by
  unfold tick
  have counted : Charged x (advance t) := by
    unfold Charged
    rwa [chargeView_advance]
  exact charged_busGrant (charged_expiries counted)

/-! ## Commands -/

/-- A meaning whose next state meets the claim. -/
def EndsCharged (x : ChargeClaim) (o : Host.Outcome State Fault Refusal) : Prop := ∀ t, o = .next t → Charged x t

/-- What every command leaves for its end carries every claim (R21, R138). -/
theorem endsCharged_finish (h : Charged x t) : EndsCharged x (finish s t) := by
  intro u hu
  injection hu with hu
  subst hu
  exact charged_busGrant (charged_offerAtOff h)

theorem endsCharged_request {type : Byte} {payload : List Byte} {serve : List Byte → State → State × List Byte}
    (h : Charged x s) (hs : ∀ {p u}, Charged x u → Charged x (serve p u).1) :
    EndsCharged x (finish s (request type serve payload s)) :=
  endsCharged_finish (charged_request hs h)

/-- Every command carries every claim: one arm for each row of the table. -/
theorem exec_endsCharged (c : Instr) (h : Charged x s) : EndsCharged x (exec c s) := by
  cases c with
  | powerOnReset straps inputs =>
    intro t ht
    injection ht with ht
    subst ht
    exact charged_powerOn straps inputs s.pending
  | ping p => exact endsCharged_request h charged_servePing
  | linkStart p => exact endsCharged_request h charged_serveLinkStart
  | statusGet p => exact endsCharged_request h charged_serveStatusGet
  | controllerRestart p => exact endsCharged_finish (charged_receive charged_serveRestart h)
  | linkSetup p => exact endsCharged_request h charged_serveLinkSetup
  | queueRead p => exact endsCharged_request h charged_serveQueueRead
  | attnLevelSet p => exact endsCharged_request h charged_serveAttnLevelSet
  | sourcePolicy p => exact endsCharged_request h charged_serveSourcePolicy
  | sourceStatusGet p => exact endsCharged_request h charged_serveSourceStatusGet
  | packStatusGet p => exact endsCharged_request h charged_servePackStatusGet
  | packSnapshot p => exact endsCharged_request h charged_servePackSnapshot
  | packRead p => exact endsCharged_finish (charged_receive charged_servePackRead h)
  | packWrite p => exact endsCharged_finish (charged_receive charged_servePackWrite h)
  | profileLoad p => exact endsCharged_request h charged_serveProfileLoad
  | profileExtend p => exact endsCharged_request h charged_serveProfileExtend
  | profileGet p => exact endsCharged_request h charged_serveProfileGet
  | profileAbort p => exact endsCharged_request h charged_serveProfileAbort
  | chargePolicy p => exact endsCharged_request h charged_serveChargePolicy
  | budgetGet p => exact endsCharged_request h charged_serveBudgetGet
  | tempSupply p => exact endsCharged_request h charged_serveTempSupply
  | thermalConfig p => exact endsCharged_request h charged_serveThermalConfig
  | fanCurveSet p => exact endsCharged_request h charged_serveFanCurveSet
  | fanOverride p => exact endsCharged_request h charged_serveFanOverride
  | thermalStatusGet p => exact endsCharged_request h charged_serveThermalStatusGet
  | keyConfig p => exact endsCharged_request h charged_serveKeyConfig
  | keyStateGet p => exact endsCharged_request h charged_serveKeyStateGet
  | keymapSet p => exact endsCharged_request h charged_serveKeymapSet
  | keymapGet p => exact endsCharged_request h charged_serveKeymapGet
  | backlightSet p => exact endsCharged_request h charged_serveBacklightSet
  | wakeConfig p => exact endsCharged_request h charged_serveWakeConfig
  | wakeStatus p => exact endsCharged_request h charged_serveWakeStatus
  | wakeTimerSet p => exact endsCharged_request h charged_serveWakeTimerSet
  | platformRequestTransition value => exact endsCharged_request h charged_serveTransition
  | platformRequestSettings p => exact endsCharged_request h charged_servePlatformSettings
  | faultGet p => exact endsCharged_request h charged_serveFaultGet
  | faultClear p => exact endsCharged_request h charged_serveFaultClear
  | faultMaskSet p => exact endsCharged_request h charged_serveFaultMaskSet
  | containmentSet p => exact endsCharged_request h charged_serveContainmentSet
  | indicatorSet p => exact endsCharged_request h charged_serveIndicatorSet
  | unknownType type p => exact endsCharged_request h charged_serveUnknown
  | framingError => exact endsCharged_finish (charged_framingErrors h)
  | byteOverrun => exact endsCharged_finish (charged_byteOverruns h)
  | skippedByte value => exact endsCharged_finish (charged_countError h)
  | gapTimeout taken => exact endsCharged_finish (charged_gapTimesOut h)
  | lengthFault type length => exact endsCharged_finish (charged_faultyFrame h)
  | checkFault type p check => exact endsCharged_finish (charged_faultyFrame h)
  | replySent => exact endsCharged_finish (charged_replySent h)
  | lineBreak => exact endsCharged_finish (charged_lineBreaks h)
  | barrelDetectChange active reading => exact endsCharged_finish (charged_barrelDetect h)
  | adapterIdentificationChange reading => exact endsCharged_finish (charged_adapterChanges h)
  | portAlert port => exact endsCharged_finish (charged_requestRead h)
  | portReadInterval port => exact endsCharged_finish (charged_portIntervalEnds h)
  | settleTimeReached source => exact endsCharged_finish (charged_sourceSettled h)
  | switchingExpiry => exact endsCharged_finish (charged_switchingExpired h)
  | pSysSample reading => exact endsCharged_finish charged_pSysSampled
  | busAttemptEnd result lineHigh => exact endsCharged_finish (charged_busAttemptEnds h)
  | attemptTimeout lineHigh => exact endsCharged_finish (charged_attemptTimesOut h)
  | busRecoveryEnd lineHigh => exact endsCharged_finish (charged_busRecovers h)
  | packPresenceChange pack active => exact endsCharged_finish (charged_presenceChanges h)
  | identificationDue pack => exact endsCharged_finish (charged_identificationFalls h)
  | pollDue pack => exact endsCharged_finish (charged_pollFalls h)
  | channelFaultInputChange pack active => exact endsCharged_finish (charged_channelFaultChanges h)
  | restEnd pack => exact endsCharged_finish (charged_restEnded h)
  | stageLimitExpiry pack => exact endsCharged_finish (charged_limitExpired h)
  | boardConversion cpu charger skin ambient => exact endsCharged_finish (charged_boardConverted h)
  | freshnessTimeReached sensor => exact endsCharged_finish (charged_freshnessReached h)
  | fanEvaluation => exact endsCharged_finish (charged_evaluateFans h)
  | spinUpEnd fan => exact endsCharged_finish h
  | tachWindowEnd fan pulses => exact endsCharged_finish (charged_tachEnded h)
  | overrideExpiry fan => exact endsCharged_finish (charged_overrideExpired h)
  | scanPassStart => exact endsCharged_finish (charged_passStarts h)
  | scanPassEnd samples => exact endsCharged_finish (charged_passEnds h)
  | typematicExpiry => exact endsCharged_finish (charged_typeExpired h)
  | lidInputChange closed => exact endsCharged_finish (charged_lidInput h)
  | lidSettleExpiry => exact endsCharged_finish (charged_lidSettled h)
  | hingeInputChange hinge active => exact endsCharged_finish (charged_hingeInput h)
  | hingeSettleExpiry hinge => exact endsCharged_finish (charged_hingeSettled h)
  | extInputChange input high => exact endsCharged_finish (charged_extInput h)
  | wakeTimerExpiry => exact endsCharged_finish (charged_wakeTimerExpired h)
  | buttonInputChange pressed => exact endsCharged_finish (charged_buttonInput h)
  | buttonSettleExpiry => exact endsCharged_finish (charged_buttonSettled h)
  | overrideTimeReached => exact endsCharged_finish (charged_overrideTimeReached h)
  | spgRise => exact endsCharged_finish (charged_spgRises h)
  | mpgRise => exact endsCharged_finish (charged_mpgRises h)
  | stepWaitExpiry => exact endsCharged_finish (charged_stepWaitExpired h)
  | powerGoodLoss input => exact endsCharged_finish (charged_powerGoodFalls h)
  | resetHoldExpiry => exact endsCharged_finish (charged_resetHoldExpired h)
  | standbyDelayExpiry => exact endsCharged_finish (charged_standbyDelayExpired h)
  | offDelayExpiry => exact endsCharged_finish (charged_offDelayExpired h)
  | graceExpiry => exact endsCharged_finish (charged_graceExpired h)
  | restartHoldEnd => exact endsCharged_finish (charged_restartHoldEnded h)
  | ledPhaseEnd led => exact endsCharged_finish (charged_phaseEnds h)

/-- And so does every step. -/
theorem charged_step (h : Charged x s) (hs : step s = .next t) : Charged x t := by
  cases hp : s.pending with
  | nil =>
    rw [step_idle hp] at hs
    injection hs with hs
    subst hs
    exact charged_tick h
  | cons c rest =>
    rw [step_command hp] at hs
    have taken : Charged x { s with pending := rest } := h
    exact exec_endsCharged c taken t hs

end Sys2Proof.Machine
end

section
/-! The statements about CHC's invariants. -/

namespace Sys2Proof.Proofs

open Sys2Proof.Machine Sys2Proof.Safety

/-- Settles O10: charge states and flowing targets are two claims that every step carries. -/
theorem chargeTargetsFlowOnlyWhileCharging : Obligations.ChargeTargetsFlowOnlyWhileCharging := by
  intro s t before hs p
  have states : Charged .states s := charged_iff.mpr fun q => ((chargeOk_iff s q).mp (before q)).1
  have flow : Charged .flow s := charged_iff.mpr fun q => ((chargeOk_iff s q).mp (before q)).2
  exact (chargeOk_iff t p).mpr
    ⟨charged_iff.mp (charged_step states hs) p, charged_iff.mp (charged_step flow hs) p⟩

/-- Settles O13: the budget record is a claim that every step carries. -/
theorem budgetStaysTheComputationOfItsInputs : Obligations.BudgetStaysTheComputationOfItsInputs :=
  fun _ _ before hs => charged_iff.mp (charged_step (x := .budget) (charged_iff.mpr before) hs)

end Sys2Proof.Proofs
end

section
/-! The laws of the budget computation (R54 to R57). -/

namespace Sys2Proof.Machine

open Sys2Proof.Safety

/-! ## Shares and finals (R56) -/

/-- What the two finals add up to: the whole budget where a pack is eligible. -/
theorem splitBudget_sum (order : ChargeOrder) (ea eb : Bool) (needA needB budget : Nat) :
    let f := splitBudget order ea eb needA needB budget
    f.2.1 + f.2.2.2 = if ea || eb then budget else 0 := by
  cases ea <;> cases eb
  case true.true => cases order <;> simp only [splitBudget, Bool.or_self, if_true] <;> omega
  all_goals simp [splitBudget]

/-- Where both needs fit in the budget each final covers its need. -/
theorem splitBudget_covers (order : ChargeOrder) {ea eb : Bool} {needA needB budget : Nat}
    (fit : needA + needB ≤ budget) :
    let f := splitBudget order ea eb needA needB budget
    (ea = true → needA ≤ f.2.1) ∧ (eb = true → needB ≤ f.2.2.2) := by
  cases ea <;> cases eb
  case false.false => exact ⟨nofun, nofun⟩
  case false.true => exact ⟨nofun, fun _ => (Nat.le_add_left _ _).trans fit⟩
  case true.false => exact ⟨fun _ => (Nat.le_add_right _ _).trans fit, nofun⟩
  case true.true =>
    refine ⟨fun _ => ?_, fun _ => ?_⟩ <;> cases order <;> simp only [splitBudget] <;> omega

/-! ## Targets (R57) -/

theorem vX_pos (r : PackRecord) : 0 < vX r := by
  unfold vX clampNat
  split_ifs <;> omega

/-- A target takes no more power than its final gives. -/
theorem targetOf_power (iReq allotted v : Nat) : targetOf iReq allotted v * v ≤ allotted * 1000 := by
  have least : targetOf iReq allotted v ≤ allotted * 1000 / v := by
    unfold targetOf
    have part : min iReq (allotted * 1000 / v) ≤ allotted * 1000 / v := Nat.min_le_right _ _
    omega
  exact (Nat.mul_le_mul_right v least).trans (Nat.div_mul_le_self _ _)

/-- A final that covers the need does not bound the target. -/
theorem targetOf_covered {iReq allotted v : Nat} (pos : 0 < v) (covered : needOf iReq v ≤ allotted) :
    targetOf iReq allotted v = min 4000 (iReq / 25 * 25) := by
  have enough : iReq ≤ allotted * 1000 / v := by
    rw [Nat.le_div_iff_mul_le pos]
    unfold needOf at covered
    omega
  rw [targetOf, Nat.min_eq_left enough]

/-! ## The record -/

variable {s : State}

theorem packBudget_power (c : ChargeContext) (r : PackRecord) (share allotted : Nat) :
    (packBudget c r share allotted).targetCurrent * (packBudget c r share allotted).vX ≤ allotted * 1000 := by
  unfold packBudget
  dsimp only
  split
  · exact targetOf_power _ _ _
  · omega

theorem packBudget_need (c : ChargeContext) (r : PackRecord) (share allotted : Nat) :
    (packBudget c r share allotted).need = if packEligible c then needOf (stageCurrent c) (vX r) else 0 := by
  unfold packBudget
  dsimp only
  split <;> rfl

theorem packBudget_covered {c : ChargeContext} {r : PackRecord} {share allotted : Nat} (e : packEligible c = true)
    (covered : (packBudget c r share allotted).need ≤ allotted) :
    (packBudget c r share allotted).targetCurrent =
      min 4000 ((packBudget c r share allotted).iReq / 25 * 25) := by
  simp only [packBudget, e, if_true] at covered ⊢
  exact targetOf_covered (vX_pos r) covered

theorem packBudget_empty (c : ChargeContext) (r : PackRecord) (share : Nat) :
    (packBudget c r share 0).targetCurrent = 0 := by
  simp [packBudget, targetOf]

theorem sharedOut_sum (s : State) :
    (sharedOut s).2.1 + (sharedOut s).2.2.2 =
      if packEligible s.chc.context.a || packEligible s.chc.context.b then (computeBudget s).pBudget else 0 :=
  splitBudget_sum _ _ _ _ _ _

/-- Without a steady source, and at a derate factor of 0, there is nothing to share out (R54, R55). -/
theorem pBudget_none (h : s.srs.active = none ∨ s.srs.switching = true ∨ s.thu.derate = 0) :
    (computeBudget s).pBudget = 0 := by
  show (pInMax s.srs - s.srs.pSys) * 9 / 10 * s.thu.derate / 100 = 0
  rcases h with off | switching | derate
  · simp [pInMax, off]
  · have none : pInMax s.srs = 0 := by
      unfold pInMax
      split
      · rfl
      · rw [switching, if_pos rfl]
    simp [none]
  · simp [derate]

/-- Each stage of R54 takes from the one before it. -/
theorem budget_stages (s : State) :
    let b := computeBudget s
    (s.thu.derate ≤ 100 → b.pBudget ≤ b.pChg) ∧ b.pChg ≤ b.pAvail ∧ b.pAvail ≤ b.pInMax := by
  refine ⟨fun le => ?_, ?_, Nat.sub_le _ _⟩
  · exact Nat.div_le_of_le_mul ((Nat.mul_le_mul_left _ le).trans_eq (Nat.mul_comm _ _))
  · show (pInMax s.srs - s.srs.pSys) * 9 / 10 ≤ pInMax s.srs - s.srs.pSys
    omega

end Sys2Proof.Machine

namespace Sys2Proof.Proofs

open Sys2Proof.Machine Sys2Proof.Safety

/-- Settles O43, law by law: the finals of R56, then the targets that R57 makes of them. -/
theorem budgetIsSharedOutAndNeverExceeded : Obligations.BudgetIsSharedOutAndNeverExceeded := by
  intro s b x y
  have hx : x = packBudget s.chc.context.a s.chc.handed.a (sharedOut s).1 (sharedOut s).2.1 := computeBudget_a s
  have hy : y = packBudget s.chc.context.b s.chc.handed.b (sharedOut s).2.2.1 (sharedOut s).2.2.2 := computeBudget_b s
  have sum := sharedOut_sum s
  have within : (sharedOut s).2.1 + (sharedOut s).2.2.2 ≤ b.pBudget := by
    rw [sum]
    split
    · exact le_rfl
    · exact Nat.zero_le _
  refine ⟨fun eligible => ?_, ?_, fun fit => ?_, fun none => ?_, budget_stages s⟩
  · rw [if_pos (Bool.or_eq_true _ _ ▸ eligible)] at sum
    exact sum
  · have powerA := packBudget_power s.chc.context.a s.chc.handed.a (sharedOut s).1 (sharedOut s).2.1
    have powerB := packBudget_power s.chc.context.b s.chc.handed.b (sharedOut s).2.2.1 (sharedOut s).2.2.2
    rw [← hx] at powerA
    rw [← hy] at powerB
    omega
  · rw [hx, hy, packBudget_need, packBudget_need] at fit
    obtain ⟨coverA, coverB⟩ := splitBudget_covers s.chc.policy.order fit
      (ea := packEligible s.chc.context.a) (eb := packEligible s.chc.context.b)
    rw [hx, hy]
    exact ⟨fun e => packBudget_covered e ((packBudget_need _ _ _ _).trans_le (coverA e)),
      fun e => packBudget_covered e ((packBudget_need _ _ _ _).trans_le (coverB e))⟩
  · have empty : b.pBudget = 0 := pBudget_none none
    obtain ⟨a0, b0⟩ : (sharedOut s).2.1 = 0 ∧ (sharedOut s).2.2.2 = 0 := by omega
    rw [hx, hy, a0, b0]
    exact ⟨packBudget_empty _ _ _, packBudget_empty _ _ _⟩

end Sys2Proof.Proofs
end

section
/-! What a refresh of CHC leaves: the contexts' profiles, the derived states and targets, and every other block.
Requests whose effect is such a refresh end with their answer and no bus work. -/

namespace Sys2Proof.Machine

open Sys2Proof.Safety

/-- The state `t` is `v` after a refresh that is one of R53's, with nothing but reports since. -/
structure Refreshed (v t : State) : Prop where
  frame : OnlyCharge v t
  profile : ∀ p, profileOf (t.chc.context.get p) = profileOf (v.chc.context.get p)
  settled : ChargeSettled t
  stamp : t.chc.budget.stamp = v.uptime
  bus : SameBus v t

variable {s t u v : State}

theorem Refreshed.reports (h : Refreshed v t) (g : OnlyReports t u) : Refreshed v u where
  frame := h.frame.trans g.onlyCharge
  profile p := by
    rw [g]
    exact h.profile p
  settled := by
    have level : u.flt.level = t.flt.level := by rw [g]
    have derate : u.thu.derate = t.thu.derate := by rw [g]
    intro p
    rw [barsOf_eq g.onlyPlatform level derate p, g]
    exact h.settled p
  stamp := by
    rw [g]
    exact h.stamp
  bus := h.bus.trans g.sameBus

theorem refreshed_chargeRefresh (ns : List Notice) (v : State) : Refreshed v (chargeRefresh true ns v) where
  frame := chargeRefresh_frame true ns v
  profile p := by
    obtain ⟨ns', e⟩ := chargeRefresh_eq ns v
    rw [e, (raiseAll_frame ns' (refreshChargeLed (chargeTaken v)))]
    show profileOf ((chargeTaken v).chc.context.get p) = _
    rw [chargeTaken_context]
    rfl
  settled := chargeSettled_chargeRefresh ns v
  stamp := (chargeRefresh_budget ns v).2.2.2
  bus := sameBus_chargeRefresh true ns v

/-- A refresh leaves all but these fields. -/
theorem OnlyCharge.blocks (h : OnlyCharge s t) :
    t = { s with
          chc.context := t.chc.context, chc.budget := t.chc.budget, pks.schedule := t.pks.schedule, ind := t.ind,
          rpm := t.rpm, flt := t.flt } := by
  unfold OnlyCharge at h
  rw [h]

/-- Two contexts of one profile agree in all but what CHC derives and hands to the channel. -/
theorem profile_fields {c d : ChargeContext} (h : profileOf c = profileOf d) :
    c.stages = d.stages ∧ c.pointer = d.pointer ∧ c.elapsed = d.elapsed ∧ c.elapsedPart = d.elapsedPart ∧
      c.taperRun = d.taperRun ∧ c.heldLatch = d.heldLatch ∧ c.completeLatch = d.completeLatch ∧
      c.timeoutLatch = d.timeoutLatch ∧ c.workCurrent = d.workCurrent ∧ c.workVoltage = d.workVoltage := by
  simpa [profileOf] using h

end Sys2Proof.Machine

namespace Sys2Proof.Proofs

open Sys2Proof.Machine Sys2Proof.Safety

variable {s t u v : State}

/-- A request whose effect is a refresh of CHC from new contexts or a new policy: its answer is delivered, and only what
a refresh touches has changed besides. -/
theorem finish_refreshed {type : Byte} {serve : List Byte → State → State × List Byte} {p reply : List Byte}
    (hq : quiet s = true) (served : serve p (huntAgain s) = (u, reply)) (h : Refreshed v u)
    (hv : v = { huntAgain s with chc := v.chc }) :
    ∃ t, finish s (request type serve p s) = .next t ∧ t.chc = u.chc ∧ answers type reply s t ∧
      t = { s with
            chc := t.chc, pks.schedule := t.pks.schedule, ind := t.ind, rpm := t.rpm, flt := t.flt, lkp := t.lkp } := by
  have idle := quiet_linkIdle hq
  have base : KeepsLink (huntAgain s) v := by
    rw [hv]
    rfl
  have bus : SameBus s u := by
    have same : SameBus s v := by
      rw [hv]
      exact ⟨rfl, rfl, fun _ => rfl⟩
    exact same.trans h.bus
  have frame : u = { s with
      chc := u.chc, pks.schedule := u.pks.schedule, ind := u.ind, rpm := u.rpm, flt := u.flt, lkp := u.lkp } := by
    have frame := h.frame
    unfold OnlyCharge at frame
    rw [frame, hv]
    rfl
  refine ⟨deliver (replyTo type reply) u, ?_, ?_, deliver_answers idle (base.platform h.frame.onlyPlatform), ?_⟩
  · rw [request_idle _ _ _ _ idle, served]
    refine finish_settled (quiet_busSettled hq) (bus.trans (sameBus_deliver _ _)) ?_
    rw [deliver_frame, frame]
  · rw [deliver_frame]
  · rw [deliver_frame, frame]

end Sys2Proof.Proofs
end

section
/-! The profile requests (R60, R61, R63): what each serves, and what it makes of the context. -/

namespace Sys2Proof.Proofs

open Sys2Proof.Machine Sys2Proof.Safety

variable {p : PackId} {body : List Byte} {s t v : State}

/-! ## What the requests serve -/

theorem profileCheck_populated (hp : (s.pks.record.get p).populated = true) (body : List Byte) :
    profileCheck (byteOf p.code :: body) s = none := by
  simp [profileCheck, byteAt, packOf_code, packCode_inRange p, hp]

/-- A pack's context under a new list, refreshed. -/
def profileTaken (p : PackId) (c : ChargeContext) (s : State) : State :=
  { s with chc.context := s.chc.context.set p c }

theorem putContext_eq (p : PackId) (c : ChargeContext) (s : State) :
    putContext p c s = chargeRefresh true [] (profileTaken p c s) := rfl

section

variable (hp : (s.pks.record.get p).populated = true)

include hp

theorem serve_profileLoad_badValue {n : Nat} (h1 : 1 ≤ n) (h6 : n ≤ 6) (len : body.length = 9 * n)
    (bad : stagesAt (byteOf p.code :: body) 1 n = none) :
    serveProfileLoad (byteOf p.code :: body) s = (s, [5]) := by
  have count : (body.length + 1 - 1) / 9 = n := by omega
  have range : ¬(body.length + 1 ≠ 1 + 9 * n ∨ n = 0 ∨ 6 < n) := by omega
  simp only [serveProfileLoad, List.length_cons, count, range, if_false, profileCheck_populated hp, bad]
  rfl

theorem serve_profileLoad_taken {n : Nat} {given : List Stage} (h1 : 1 ≤ n) (h6 : n ≤ 6)
    (len : body.length = 9 * n) (good : stagesAt (byteOf p.code :: body) 1 n = some given) :
    let t := putContext p (reloaded (given.map storeStage) (s.chc.context.get p)) s
    serveProfileLoad (byteOf p.code :: body) s =
      (t, [doneStatus (given.any stageAdjusted), byteOf p.code, byteOf n, flagByte (given.map stageAdjusted),
        chargeByte t p]) := by
  have count : (body.length + 1 - 1) / 9 = n := by omega
  have range : ¬(body.length + 1 ≠ 1 + 9 * n ∨ n = 0 ∨ 6 < n) := by omega
  simp only [serveProfileLoad, List.length_cons, count, range, if_false, profileCheck_populated hp, good]
  simp only [byteAt, List.getD_cons_zero, packOf_code]

theorem serve_profileExtend_full {g : Stage} (len : body.length = 9)
    (good : stageAt (byteOf p.code :: body) 1 = some g) (full : 8 ≤ (s.chc.context.get p).stages.length) :
    serveProfileExtend (byteOf p.code :: body) s = (s, [9]) := by
  have range : ¬(body.length + 1 ≠ 10) := by omega
  simp only [serveProfileExtend, List.length_cons, range, if_false, profileCheck_populated hp, good]
  simp only [byteAt, List.getD_cons_zero, packOf_code, full, if_true]
  rfl

theorem serve_profileExtend_taken {g : Stage} (len : body.length = 9)
    (good : stageAt (byteOf p.code :: body) 1 = some g) (room : (s.chc.context.get p).stages.length < 8) :
    let c := s.chc.context.get p
    let t := putContext p (extended (storeStage g) c) s
    serveProfileExtend (byteOf p.code :: body) s =
      (t, [doneStatus (stageAdjusted g), byteOf p.code, byteOf (c.stages.length + 1), chargeByte t p] ++
        stageBytes (storeStage g)) := by
  have range : ¬(body.length + 1 ≠ 10) := by omega
  simp only [serveProfileExtend, List.length_cons, range, if_false, profileCheck_populated hp, good]
  simp only [byteAt, List.getD_cons_zero, packOf_code, Nat.not_le.mpr room, if_false]

theorem serve_profileAbort :
    let t := putContext p (reloaded [defaultStage] (s.chc.context.get p)) s
    serveProfileAbort [byteOf p.code] s = (t, [0, byteOf p.code, chargeByte t p]) := by
  have length : ¬([byteOf p.code].length ≠ 1) := by simp
  simp only [serveProfileAbort, length, if_false, profileCheck_populated hp]
  simp only [byteAt, List.getD_cons_zero, packOf_code]
  rfl

end

/-! ## What becomes of the contexts -/

/-- The state after a profile request that has been taken: only CHC, what it hands on and the link have changed, and the
other pack's list and pointer stand. -/
def profileFramed (p : PackId) (s t : State) : Prop :=
  t = { s with
        chc.context := t.chc.context, chc.budget := t.chc.budget, pks.schedule := t.pks.schedule, ind := t.ind,
        rpm := t.rpm, flt := t.flt, lkp := t.lkp } ∧
    (t.chc.context.get p.other).stages = (s.chc.context.get p.other).stages ∧
    (t.chc.context.get p.other).pointer = (s.chc.context.get p.other).pointer

/-- A profile request that replaces a pack's context, to the end of the command. -/
theorem finish_profile {type : Byte} {serve : List Byte → State → State × List Byte} {q : List Byte}
    {c : ChargeContext} {reply : State → List Byte} (hq : quiet s = true)
    (served : serve q (huntAgain s) =
      (putContext p c (huntAgain s), reply (putContext p c (huntAgain s))))
    (same : ∀ {t u : State}, t.chc = u.chc → reply t = reply u) :
    ∃ t, finish s (request type serve q s) = .next t ∧ profileFramed p s t ∧
      profileOf (t.chc.context.get p) = profileOf c ∧ answers type (reply t) s t := by
  have refreshed := refreshed_chargeRefresh [] (profileTaken p c (huntAgain s))
  rw [putContext_eq] at served
  obtain ⟨t, ends, chc, answer, frame⟩ := finish_refreshed (type := type) hq served refreshed rfl
  have profile (r : PackId) :
      profileOf (t.chc.context.get r) = profileOf ((s.chc.context.set p c).get r) := by
    rw [chc]
    exact refreshed.profile r
  obtain ⟨stages, pointer, -⟩ := profile_fields ((profile p.other).trans (by rw [PerPack.get_set_other]))
  refine ⟨t, ends, ⟨?_, stages, pointer⟩, (profile p).trans (by rw [PerPack.get_set_same]), ?_⟩
  · have charge := refreshed.frame
    unfold OnlyCharge at charge
    rw [charge] at chc
    have kept : t.chc = { s.chc with context := t.chc.context, budget := t.chc.budget } := by
      rw [chc]
      rfl
    rw [kept] at frame
    exact frame
  · rw [same chc]
    exact answer

theorem chargeByte_congr {t u : State} (h : t.chc = u.chc) : chargeByte t p = chargeByte u p := by
  unfold chargeByte
  rw [h]

/-- The context runs this list from its first stage, its complete and timeout latches clear (R60, R63). -/
def begunAt (p : PackId) (c : ChargeContext) (t : State) (stages : List Stage) : Prop :=
  (t.chc.context.get p).stages = stages ∧ (t.chc.context.get p).pointer = 0 ∧
    (t.chc.context.get p).elapsed = 0 ∧ (t.chc.context.get p).elapsedPart = 0 ∧
    (t.chc.context.get p).taperRun = 0 ∧ (t.chc.context.get p).completeLatch = false ∧
    (t.chc.context.get p).timeoutLatch = false ∧ (t.chc.context.get p).heldLatch = c.heldLatch

theorem begunAt_reloaded {c : ChargeContext} {stages : List Stage}
    (h : profileOf (t.chc.context.get p) = profileOf (reloaded stages c)) : begunAt p c t stages := by
  obtain ⟨list, pointer, elapsed, part, taper, held, complete, timeout, -⟩ := profile_fields h
  exact ⟨list, pointer, elapsed, part, taper, complete, timeout, held⟩

/-- A COMPLETE context goes on at the new stage (R61). -/
theorem extended_complete {c : ChargeContext} (g : Stage) (done : c.state = .complete) :
    extended g c =
      { freshStage { c with stages := c.stages ++ [g] } with completeLatch := false, pointer := c.stages.length } := by
  simp [extended, done]

/-- Any other context has one more stage to come. -/
theorem extended_running {c : ChargeContext} (g : Stage) (runs : c.state ≠ .complete) :
    extended g c = { c with stages := c.stages ++ [g] } := by
  simp [extended, runs]

/-- The context after a PROFILE_EXTEND (R61). -/
def extendedAt (p : PackId) (c : ChargeContext) (g : Stage) (t : State) : Prop :=
  (t.chc.context.get p).stages = c.stages ++ [g] ∧
    (t.chc.context.get p).pointer = (if c.state = .complete then c.stages.length else c.pointer) ∧
    (c.state = .complete → (t.chc.context.get p).completeLatch = false ∧ (t.chc.context.get p).elapsed = 0) ∧
    (c.state ≠ .complete → (t.chc.context.get p).elapsed = c.elapsed)

theorem extendedAt_extended {c : ChargeContext} {g : Stage}
    (h : profileOf (t.chc.context.get p) = profileOf (extended g c)) : extendedAt p c g t := by
  by_cases done : c.state = .complete
  · rw [extended_complete g done] at h
    obtain ⟨list, pointer, elapsed, -, -, -, complete, -⟩ := profile_fields h
    exact ⟨list, by rw [if_pos done, pointer], fun _ => ⟨complete, elapsed⟩, fun runs => absurd done runs⟩
  · rw [extended_running g done] at h
    obtain ⟨list, pointer, elapsed, -⟩ := profile_fields h
    exact ⟨list, by rw [if_neg done, pointer], fun ends => absurd ends done, fun _ => elapsed⟩

/-- Settles O39, request by request. -/
theorem profileRequestsReplaceTheStages : Obligations.ProfileRequestsReplaceTheStages := by
  intro p body s hq hp pack c after begun
  have populated : ((huntAgain s).pks.record.get p).populated = true := hp
  refine ⟨fun n given h1 h6 len good => ?load, fun n h1 h6 len bad => ?badStage,
    fun g len good => ⟨fun full => ?full, fun room => ?extend⟩, ?abort⟩
  case badStage => exact finish_read hq (serve_profileLoad_badValue populated h1 h6 len bad)
  case full => exact finish_read hq (serve_profileExtend_full populated len good full)
  case load =>
    obtain ⟨t, ends, framed, profile, answer⟩ := finish_profile (type := 0x30) (p := p) hq
      (reply := fun u => [doneStatus (given.any stageAdjusted), byteOf p.code, byteOf n,
        flagByte (given.map stageAdjusted), chargeByte u p])
      (serve_profileLoad_taken populated h1 h6 len good) (fun e => by rw [chargeByte_congr e])
    exact ⟨t, ends, framed, begunAt_reloaded profile, answer⟩
  case extend =>
    obtain ⟨t, ends, framed, profile, answer⟩ := finish_profile (type := 0x31) (p := p) hq
      (reply := fun u => [doneStatus (stageAdjusted g), byteOf p.code, byteOf (c.stages.length + 1), chargeByte u p] ++
        stageBytes (storeStage g))
      (serve_profileExtend_taken populated len good room) (fun e => by rw [chargeByte_congr e])
    obtain ⟨list, pointer, done, runs⟩ := extendedAt_extended profile
    exact ⟨t, ends, framed, list, pointer, done, runs, answer⟩
  case abort =>
    obtain ⟨t, ends, framed, profile, answer⟩ := finish_profile (type := 0x33) (p := p) hq
      (reply := fun u => [0, byteOf p.code, chargeByte u p])
      (serve_profileAbort populated) (fun e => by rw [chargeByte_congr e])
    exact ⟨t, ends, framed, begunAt_reloaded profile, answer⟩

end Sys2Proof.Proofs
end

section
/-! CHARGE_POLICY (R43, R64): the policy that is taken, its reply, and the held latches under it. -/

namespace Sys2Proof.Machine

open Sys2Proof.Safety

/-! ## The held latch (R43) -/

/-- The held latch after it is judged: set at the limit, and cleared 5 % below it. -/
theorem judgeHeld_heldLatch {c : ChargeContext} (present : c.state ≠ .absent) (limit rsoc : Nat) :
    (judgeHeld limit rsoc c).heldLatch =
      if c.heldLatch then decide (limit < rsoc + 5) else decide (limit ≤ rsoc) := by
  unfold judgeHeld
  rw [if_neg (by simpa using present)]
  cases held : c.heldLatch
  · by_cases reached : limit ≤ rsoc <;> simp [reached, held]
  · by_cases below : rsoc + 5 ≤ limit
    · simp [below, Nat.not_lt.mpr below]
    · simp [below, held, Nat.lt_of_not_le below]

theorem judgeRecharge_heldLatch (p : PackId) (threshold rsoc : Nat) (c : ChargeContext) :
    (judgeRecharge p threshold rsoc c).1.heldLatch = c.heldLatch := by
  unfold judgeRecharge
  split <;> rfl

/-- A context as the policy in force judges it, with its STAGE notice (R43, R52). -/
def policyJudged (recharge : Bool) (s : State) (p : PackId) : ChargeContext × List Notice :=
  let c := judgeHeld s.chc.policy.limit (s.chc.handed.get p).rsoc (s.chc.context.get p)
  if recharge then judgeRecharge p s.chc.policy.recharge (s.chc.handed.get p).rsoc c else (c, [])

/-- Both contexts as the policy in force judges them, before they are refreshed. -/
def contextsJudged (recharge : Bool) (s : State) : State :=
  { s with chc.context := ⟨(policyJudged recharge s .a).1, (policyJudged recharge s .b).1⟩ }

theorem judgePolicy_eq (recharge : Bool) (s : State) :
    judgePolicy recharge s =
      chargeRefresh true ((policyJudged recharge s .a).2 ++ (policyJudged recharge s .b).2)
        (contextsJudged recharge s) := rfl

theorem contextsJudged_get (recharge : Bool) (s : State) (p : PackId) :
    (contextsJudged recharge s).chc.context.get p = (policyJudged recharge s p).1 := by
  cases p <;> rfl

theorem policyJudged_heldLatch (recharge : Bool) (s : State) (p : PackId)
    (present : (s.chc.context.get p).state ≠ .absent) :
    (policyJudged recharge s p).1.heldLatch =
      if (s.chc.context.get p).heldLatch then decide (s.chc.policy.limit < (s.chc.handed.get p).rsoc + 5)
      else decide (s.chc.policy.limit ≤ (s.chc.handed.get p).rsoc) := by
  unfold policyJudged
  cases recharge
  · exact judgeHeld_heldLatch present _ _
  · exact (judgeRecharge_heldLatch _ _ _ _).trans (judgeHeld_heldLatch present _ _)

end Sys2Proof.Machine

namespace Sys2Proof.Proofs

open Sys2Proof.Machine Sys2Proof.Safety

variable {s t u v : State}

/-! ## The policy and its reply (R64) -/

/-- A byte held to a range. -/
def heldTo (lo hi : Nat) (b : Byte) : Nat := max lo (min hi b.toNat)

theorem clampNat_toNat {lo hi : Nat} (h : lo ≤ hi) (b : Byte) : clampNat lo hi b.toNat = heldTo lo hi b := by
  unfold clampNat heldTo
  split_ifs <;> omega

theorem byteOf_heldTo {lo hi : Nat} (low : lo ≤ hi) (high : hi < 256) (b : Byte) :
    byteOf (heldTo lo hi b) = b ↔ heldTo lo hi b = b.toNat := by
  have small : heldTo lo hi b < 256 := by
    unfold heldTo
    omega
  constructor
  · intro e
    have value : heldTo lo hi b % 256 = b.toNat := by simpa [byteOf] using congrArg BitVec.toNat e
    rwa [Nat.mod_eq_of_lt small] at value
  · intro e
    rw [e, byteOf_toNat]

theorem orderOf_toNat (order : Byte) :
    Machine.orderOf order.toNat =
      if order.toNat ≤ 2 then
        some (if order = 0 then .balanced else if order = 1 then .aFirst else .bFirst)
      else none := by
  revert order
  decide

/-- The policy that three values and an order make. -/
def policyOf (order limit preset recharge : Byte) : ChargePolicy :=
  ⟨if order = 0 then .balanced else if order = 1 then .aFirst else .bFirst, heldTo 50 100 limit, heldTo 50 100 preset,
    heldTo 50 99 recharge⟩

/-- The reply to a policy that is taken: whether a value was adjusted, and the policy in force. -/
def policyAnswer (order limit preset recharge : Byte) : List Byte :=
  [if heldTo 50 100 limit = limit.toNat ∧ heldTo 50 100 preset = preset.toNat ∧ heldTo 50 99 recharge = recharge.toNat
    then 0 else 1, order, byteOf (heldTo 50 100 limit), byteOf (heldTo 50 100 preset), byteOf (heldTo 50 99 recharge)]

theorem orderByte {order : Byte} (h : order.toNat ≤ 2) :
    byteOf (if order = 0 then ChargeOrder.balanced else if order = 1 then .aFirst else .bFirst).code = order := by
  revert order
  decide

theorem policyAnswer_eq {order limit preset recharge : Byte} (h : order.toNat ≤ 2) :
    doneStatus (chargePolicyBytes (policyOf order limit preset recharge) != [order, limit, preset, recharge]) ::
        chargePolicyBytes (policyOf order limit preset recharge) =
      policyAnswer order limit preset recharge := by
  have bytes : chargePolicyBytes (policyOf order limit preset recharge) =
      [order, byteOf (heldTo 50 100 limit), byteOf (heldTo 50 100 preset), byteOf (heldTo 50 99 recharge)] :=
    congrArg (· :: _) (orderByte h)
  have adjusted : (chargePolicyBytes (policyOf order limit preset recharge) = [order, limit, preset, recharge]) ↔
      heldTo 50 100 limit = limit.toNat ∧ heldTo 50 100 preset = preset.toNat ∧
        heldTo 50 99 recharge = recharge.toNat := by
    rw [bytes]
    simp only [List.cons.injEq, true_and, and_true, byteOf_heldTo (show 50 ≤ 100 by decide) (show 100 < 256 by decide),
      byteOf_heldTo (show 50 ≤ 99 by decide) (show 99 < 256 by decide)]
  unfold policyAnswer
  rw [← bytes]
  congr 1
  by_cases same : chargePolicyBytes (policyOf order limit preset recharge) = [order, limit, preset, recharge]
  · rw [if_pos (adjusted.mp same), same, bne_self_eq_false]
    rfl
  · rw [if_neg (fun all => same (adjusted.mpr all)), bne_iff_ne.mpr same]
    rfl

theorem serve_chargePolicy_badValue {order limit preset recharge : Byte} (h : 2 < order.toNat) :
    serveChargePolicy [order, limit, preset, recharge] s = (s, [5]) := by
  simp [serveChargePolicy, byteAt, orderOf_toNat, Nat.not_le.mpr h, refuse, stBadValue]

theorem serve_chargePolicy_taken {order limit preset recharge : Byte} (h : order.toNat ≤ 2) :
    serveChargePolicy [order, limit, preset, recharge] s =
      (judgePolicy true { s with chc.policy := policyOf order limit preset recharge },
        policyAnswer order limit preset recharge) := by
  rw [← policyAnswer_eq h]
  simp only [serveChargePolicy, byteAt, List.length_cons, List.length_nil, List.getD_cons_zero, List.getD_cons_succ,
    orderOf_toNat, h, if_true, clampNat_toNat (show 50 ≤ 100 by decide), clampNat_toNat (show 50 ≤ 99 by decide)]
  rfl

/-- Settles O40: the refusal, and the policy taken with the latches that it judges. -/
theorem chargePolicyIsTakenWhole : Obligations.ChargePolicyIsTakenWhole := by
  intro order limit preset recharge s hq range l q g
  refine ⟨fun bad => finish_read hq (serve_chargePolicy_badValue bad), fun good => ?_⟩
  let s1 : State := { huntAgain s with chc.policy := policyOf order limit preset recharge }
  have served := serve_chargePolicy_taken (limit := limit) (preset := preset) (recharge := recharge)
    (s := huntAgain s) good
  rw [judgePolicy_eq] at served
  have refreshed := refreshed_chargeRefresh ((policyJudged true s1 .a).2 ++ (policyJudged true s1 .b).2)
    (contextsJudged true s1)
  obtain ⟨t, ends, chc, answer, frame⟩ := finish_refreshed (type := 0x34) hq served refreshed rfl
  have kept : t.chc = { s.chc with
      policy := policyOf order limit preset recharge, context := t.chc.context, budget := t.chc.budget } := by
    have charge := refreshed.frame
    unfold OnlyCharge at charge
    rw [chc, charge]
    rfl
  refine ⟨t, ends, by rw [kept]; rfl, answer, fun p present => ?_, ?_⟩
  · have profile : profileOf (t.chc.context.get p) = profileOf (policyJudged true s1 p).1 := by
      rw [chc, ← contextsJudged_get]
      exact refreshed.profile p
    obtain ⟨-, -, -, -, -, held, -⟩ := profile_fields profile
    exact held.trans (policyJudged_heldLatch true s1 p present)
  · have policy : t.chc.policy = policyOf order limit preset recharge := by rw [kept]
    rw [policy]
    rw [kept] at frame
    exact frame

end Sys2Proof.Proofs
end

section
/-! The fault input of a charge channel (R58, R166). -/

namespace Sys2Proof.Machine

open Sys2Proof.Safety

variable {p : PackId} {s t : State}

/-! ## A refresh and the fault table -/

/-- A refresh's notices touch no fault record but those of RPM's own kinds. -/
theorem chargeRefresh_fault {k : FaultKind} (hk : k ∉ memoryKinds) (force : Bool) (ns : List Notice) (s : State) :
    (chargeRefresh force ns s).flt.get k = s.flt.get k := by
  unfold chargeRefresh
  refine ((keepsBeside_raiseAll _ _).fault k hk).trans ?_
  dsimp only
  split <;> rfl

theorem chargeRefresh_level (force : Bool) (ns : List Notice) (s : State) :
    (chargeRefresh force ns s).flt.level = s.flt.level := by
  rw [chargeRefresh_frame]

/-! ## The input -/

/-- The fault input of a channel is told. -/
def channelTold (p : PackId) (active : Bool) (s : State) : State :=
  { s with inputs := withChannelFault p active s.inputs }

theorem channelFault_withChannelFault (p : PackId) (active : Bool) (i : Inputs) :
    channelFault (withChannelFault p active i) p = active := by
  cases p <;> rfl

theorem channelFaultChanges_same (p : PackId) (s : State) :
    channelFaultChanges p (channelFault s.inputs p) s = s := by
  simp [channelFaultChanges]

theorem channelFaultChanges_fails (low : channelFault s.inputs p = false) :
    channelFaultChanges p true s = channelFails p (channelTold p true s) := by
  simp [channelFaultChanges, low, channelTold]

theorem channelFaultChanges_recovers (high : channelFault s.inputs p = true) :
    channelFaultChanges p false s = channelRecovers p (channelTold p false s) := by
  simp [channelFaultChanges, high, channelTold]

/-- The state as CHARGER_FAULT is detected at a channel. -/
def channelDetects (p : PackId) (s : State) : State :=
  { channelTold p true s with chc.channelDetected := s.chc.channelDetected.set p true }

/-- An enabled channel's fault is detected, and the charge states follow. -/
theorem channelFails_enabled (h : 0 < (s.chc.context.get p).targetCurrent) :
    channelFails p (channelTold p true s) =
      chargeRefresh false [] (detect .chargerFault (byteOf p.code) (channelDetects p s)) :=
  if_pos h

theorem channelFails_disabled (h : (s.chc.context.get p).targetCurrent = 0) :
    channelFails p (channelTold p true s) = chargeRefresh false [] (channelTold p true s) :=
  if_neg (Nat.not_lt.mpr h.le)

/-- The state as a channel's fault has ended, before the charge states follow. -/
def channelEnds (p : PackId) (s : State) : State :=
  let t := { channelTold p false s with chc.channelDetected := s.chc.channelDetected.set p false }
  if s.chc.channelDetected.get p.other then t else endFault .chargerFault t

theorem channelRecovers_eq (p : PackId) (s : State) :
    channelRecovers p (channelTold p false s) = chargeRefresh false [] (channelEnds p s) := rfl

theorem channelEnds_frame (p : PackId) (s : State) :
    channelEnds p s =
      { channelTold p false s with
        chc.channelDetected := s.chc.channelDetected.set p false, flt := (channelEnds p s).flt } := by
  unfold channelEnds
  dsimp only
  split <;> rfl

theorem sameBus_channelEnds (p : PackId) (s : State) : SameBus s (channelEnds p s) := by
  rw [channelEnds_frame]
  exact ⟨rfl, rfl, fun _ => rfl⟩

/-- CHARGER_FAULT stays active for the other channel's fault alone (R58). -/
theorem channelEnds_fault (p : PackId) (s : State) :
    let before := s.flt.get .chargerFault
    let after := (channelEnds p s).flt.get .chargerFault
    after.active = (before.active && s.chc.channelDetected.get p.other) ∧ after.status = before.status := by
  unfold channelEnds
  dsimp only
  cases s.chc.channelDetected.get p.other
  · rw [if_neg (by decide)]
    have ended (u : State) :
        ((endFault .chargerFault u).flt.get .chargerFault).active = false ∧
          ((endFault .chargerFault u).flt.get .chargerFault).status = (u.flt.get .chargerFault).status := by
      simp [endFault]
    exact ⟨(ended _).1.trans (Bool.and_false _).symm, (ended _).2⟩
  · exact ⟨(Bool.and_true _).symm, rfl⟩

/-! ## CHARGER_FAULT in force -/

/-- What a detection at an enabled channel leaves: the record, containment, the channel's mark and its input. -/
structure ChannelFaulted (p : PackId) (s t : State) : Prop where
  record : t.flt.get .chargerFault = recordedFault .chargerFault (byteOf p.code) s.uptime (s.flt.get .chargerFault)
  level : t.flt.level ≠ .none
  detected : t.chc.channelDetected.get p = true
  input : channelFault t.inputs p = true

theorem ChannelFaulted.platform {moved severe : Prop} {u : State} (h : ChannelFaulted p s t)
    (g : Steady moved severe [] t u) : ChannelFaulted p s u where
  record := (g.record (by decide) (by simp) fun _ => by decide).trans h.record
  level :=
    have active : (t.flt.get .chargerFault).active = true := by rw [h.record]; exact Bool.or_true _
    (g.level ⟨.chargerFault, rfl, by simp, fun _ => by decide, active⟩ h.level).1
  detected := by
    rw [g.platform]
    exact h.detected
  input := by
    rw [g.platform]
    exact h.input

theorem channelFaulted_detect (p : PackId) (s : State) :
    ChannelFaulted p s (detect .chargerFault (byteOf p.code) (channelDetects p s)) where
  record := detect_severe_get (moved := True) rfl (absurd trivial) (fun _ => by decide) _
  level := detect_severe_raised rfl _ _
  detected := by
    rw [detect_reach]
    exact PerPack.get_set_same _ _ _
  input := by
    rw [detect_reach]
    cases p <;> rfl

theorem ChannelFaulted.refreshed (h : ChannelFaulted p s t) (ns : List Notice) :
    ChannelFaulted p s (chargeRefresh false ns t) where
  record := (chargeRefresh_fault (by decide) _ _ _).trans h.record
  level := by
    rw [chargeRefresh_level]
    exact h.level
  detected := by
    rw [chargeRefresh_frame]
    exact h.detected
  input := by
    rw [chargeRefresh_frame]
    exact h.input

theorem ChannelFaulted.granted (h : ChannelFaulted p s t) : ChannelFaulted p s (busGrant t) where
  record := (fault_busGrant (by decide) t).trans h.record
  level := by
    rw [level_busGrant]
    exact h.level
  detected := by
    rw [(onlyGrant_busGrant t).1]
    exact h.detected
  input := by
    rw [(onlyGrant_busGrant t).1]
    exact h.input

/-- Under containment the second law of R57 lets no target current flow. -/
theorem target_of_contained {q : PackId} (flow : Charged .flow t) (level : t.flt.level ≠ .none) :
    (t.chc.context.get q).targetCurrent = 0 := by
  rcases charged_flow_iff.mp flow q with none | ⟨⟨-, -, -, -, free⟩, -⟩
  · exact none
  · exact absurd free level

end Sys2Proof.Machine

namespace Sys2Proof.Proofs

open Sys2Proof.Machine Sys2Proof.Safety

variable {p : PackId} {s t : State}

theorem channelFaulted_recorded (h : ChannelFaulted p s t) : recorded .chargerFault (byteOf p.code) s t := by
  unfold recorded
  rw [h.record]
  exact ⟨rfl, rfl, rfl, rfl⟩

/-- A fault at an enabled channel, to the end of the command. -/
theorem exec_channelFails_enabled (low : channelFault s.inputs p = false) (ok : ∀ q, chargeOk s q = true)
    (flows : 0 < (s.chc.context.get p).targetCurrent) :
    ∃ t, exec (.channelFaultInputChange p true) s = .next t ∧ ChannelFaulted p s t ∧
      ∀ q, (t.chc.context.get q).targetCurrent = 0 := by
  have flow : Charged .flow s := charged_flow_iff.mpr fun q => ((chargeOk_iff s q).mp (ok q)).2
  have carried : EndsCharged .flow (exec (.channelFaultInputChange p true) s) := exec_endsCharged _ flow
  have ends : exec (.channelFaultInputChange p true) s =
      finish s (chargeRefresh false [] (detect .chargerFault (byteOf p.code) (channelDetects p s))) := by
    rw [← channelFails_enabled flows, ← channelFaultChanges_fails low]
    rfl
  have faulted := (((channelFaulted_detect p s).refreshed []).platform (steady_offered s _)).granted
  exact ⟨_, ends, faulted, fun q => target_of_contained (carried _ ends) faulted.level⟩

/-- A refresh of what has been told of a channel ends its command, with no bus work due. -/
theorem finish_channelTold (hs : busSettled s = true) (bus : SameBus s t) (state : t.psq.state = s.psq.state) :
    finish s (chargeRefresh false [] t) = .next (chargeRefresh false [] t) := by
  refine finish_settled hs (bus.trans (sameBus_chargeRefresh false [] t)) ?_
  rw [chargeRefresh_frame]
  exact state

/-- The CHANNEL bar is among the causes of a pack that is PAUSED while its channel's fault input is active (R42). -/
theorem channelCause_of_paused {q : PackId} (states : Charged .states t) (input : channelFault t.inputs q = true)
    (paused : (t.chc.context.get q).state = .paused) : (t.chc.context.get q).causes.channel = true := by
  obtain ⟨-, causes⟩ := charged_states_iff.mp states q
  rw [causes, if_pos paused]
  exact input

/-- Settles O42: the input that goes active at an enabled channel and at another, the input that goes inactive, and the
level that stands already. -/
theorem channelFaultStopsCharging : Obligations.ChannelFaultStopsCharging := by
  intro p s hs low other
  refine ⟨fun hl ok flows => ?enabled, fun hl none => ?disabled, fun high => ?recovers, ?same⟩
  case enabled =>
    obtain ⟨t, ends, faulted, stopped⟩ := exec_channelFails_enabled hl ok flows
    exact ⟨t, ends, faulted.input, channelFaulted_recorded faulted, faulted.level, faulted.detected, stopped⟩
  case disabled =>
    have ends : exec (.channelFaultInputChange p true) s =
        .next (chargeRefresh false [] (channelTold p true s)) := by
      refine Eq.trans ?_ (finish_channelTold (t := channelTold p true s) hs ⟨rfl, rfl, fun _ => rfl⟩ rfl)
      rw [← channelFails_disabled none, ← channelFaultChanges_fails hl]
      rfl
    have frame := chargeRefresh_frame false [] (channelTold p true s)
    have input : channelFault (chargeRefresh false [] (channelTold p true s)).inputs p = true := by
      rw [frame]
      exact channelFault_withChannelFault p true s.inputs
    refine ⟨_, ends, input, chargeRefresh_fault (by decide) _ _ _, chargeRefresh_level _ _ _, ?_, ?_⟩
    · exact channelCause_of_paused (charged_chargeRefresh fun hx => absurd rfl hx) input
    · exact frame.blocks
  case recovers =>
    have ends : exec (.channelFaultInputChange p false) s =
        .next (chargeRefresh false [] (channelEnds p s)) := by
      refine Eq.trans ?_ (finish_channelTold (t := channelEnds p s) hs (sameBus_channelEnds p s) ?_)
      · rw [← channelRecovers_eq, ← channelFaultChanges_recovers high]
        rfl
      · rw [channelEnds_frame]
        rfl
    have record := chargeRefresh_fault (k := .chargerFault) (by decide) false [] (channelEnds p s)
    obtain ⟨active, status⟩ := channelEnds_fault p s
    refine ⟨_, ends, ?_, (congrArg FaultRecord.active record).trans active,
      (congrArg FaultRecord.status record).trans status⟩
    rw [chargeRefresh_frame, channelEnds_frame]
    exact channelFault_withChannelFault p false s.inputs
  case same =>
    exact (congrArg (finish s) (channelFaultChanges_same p s)).trans (finish_same hs)

end Sys2Proof.Proofs
end

section
/-! The ends of a charge stage, by its timers or at a good poll (R47 to R52). -/

namespace Sys2Proof.Machine

open Sys2Proof.Safety

variable {c d u : ChargeContext} {p : PackId} {cause n target : Nat} {s t v : State} {r : PackRecord} {bars : Bars}

/-! ## The count of a context -/

/-- A context's list, pointer, count and latches: its profile less the working values. -/
def countOf (c : ChargeContext) : ChargeContext := { profileOf c with workCurrent := 0, workVoltage := 0 }

theorem countOf_profile (h : profileOf c = profileOf d) : countOf c = countOf d := by
  unfold countOf
  rw [h]

theorem countOf_fields (h : countOf c = countOf d) :
    c.stages = d.stages ∧ c.pointer = d.pointer ∧ c.elapsed = d.elapsed ∧ c.elapsedPart = d.elapsedPart ∧
      c.taperRun = d.taperRun ∧ c.heldLatch = d.heldLatch ∧ c.completeLatch = d.completeLatch ∧
      c.timeoutLatch = d.timeoutLatch := by
  simpa [countOf, profileOf] using h

theorem countOf_stage (h : countOf c = countOf d) : stageInForce c = stageInForce d := by
  obtain ⟨stages, pointer, -⟩ := countOf_fields h
  unfold stageInForce
  rw [stages, pointer]

/-- The stage in force stays, with the taper run that it is given. -/
theorem stageStays_of_count (h : countOf u = countOf { d with taperRun := n }) (hd : countOf d = countOf c) :
    stageStays c u n := by
  obtain ⟨stages, pointer, elapsed, part, taper, -, complete, -⟩ := countOf_fields h
  obtain ⟨stages', pointer', elapsed', part', -, -, complete', -⟩ := countOf_fields hd
  exact ⟨pointer.trans pointer', elapsed.trans elapsed', part.trans part', complete.trans complete',
    stages.trans stages', taper⟩

/-- A stage that has ended gives way to the next one, or completes the profile (R51). -/
theorem stageEnded_of_count (h : countOf u = countOf (endStage p cause d).1) (hd : countOf d = countOf c)
    (idle : u.completeLatch = true → u.targetCurrent = 0) : stageEnded c u := by
  obtain ⟨stages, pointer, -, -, -, held, complete, -⟩ := countOf_fields hd
  unfold endStage endIndex at h
  rw [pointer, stages] at h
  unfold stageEnded
  split at h
  next more =>
    obtain ⟨stages', pointer', elapsed', part', taper', held', complete', -⟩ := countOf_fields h
    rw [if_pos more]
    exact ⟨elapsed', part', taper', stages'.trans stages, held'.trans held, pointer', complete'.trans complete⟩
  next last =>
    obtain ⟨stages', pointer', elapsed', part', taper', held', complete', -⟩ := countOf_fields h
    rw [if_neg last]
    exact ⟨elapsed', part', taper', stages'.trans stages, held'.trans held, pointer'.trans pointer, complete',
      idle complete'⟩

/-! ## Latches and targets -/

/-- A context with its timeout or complete latch set does not charge (R41). -/
theorem chargeStateOf_latched (h : c.timeoutLatch = true ∨ c.completeLatch = true) :
    chargeStateOf r c bars ≠ .charging := by
  unfold chargeStateOf
  obtain h | h := h <;> simp only [h, if_true] <;> split_ifs <;> decide

/-- Its channel has no target (R57). -/
theorem ChargeSettled.idle (h : ChargeSettled t)
    (latched : (t.chc.context.get p).timeoutLatch = true ∨ (t.chc.context.get p).completeLatch = true) :
    (t.chc.context.get p).targetCurrent = 0 := by
  obtain ⟨state, targets⟩ := h p
  exact (targets (state.trans_ne (chargeStateOf_latched latched))).1

end Sys2Proof.Machine

namespace Sys2Proof.Proofs

open Sys2Proof.Machine Sys2Proof.Safety

variable {p : PackId} {cause : Nat} {c d : ChargeContext} {s t u : State} {ns : List Notice}

/-! ## The timers (R50, R51) -/

/-- The limit of a context's stage can run out, as R47 and R50 say it. -/
theorem limitRuns_iff (c : ChargeContext) :
    limitRuns c = true ↔ c.state = .charging ∧ 0 < (stageInForce c).limit ∧
      (if (stageInForce c).mode = .rest then (stageInForce c).limit < (stageInForce c).endValue
        else 0 < c.targetCurrent) := by
  unfold limitRuns
  by_cases rest : (stageInForce c).mode = .rest <;> simp [rest, and_assoc]

theorem restEnded_rest (h : (s.chc.context.get p).state = .charging)
    (rest : (stageInForce (s.chc.context.get p)).mode = .rest) :
    restEnded p s =
      chargeRefresh true (endStage p 0 (s.chc.context.get p)).2
        (profileTaken p (endStage p 0 (s.chc.context.get p)).1 s) := by
  unfold restEnded
  simp [h, rest, profileTaken]

theorem restEnded_same
    (h : ¬((s.chc.context.get p).state = .charging ∧ (stageInForce (s.chc.context.get p)).mode = .rest)) :
    restEnded p s = s := by
  unfold restEnded
  simp only [Bool.and_eq_true, beq_iff_eq, h, if_false]

theorem limitExpired_next (h : limitRuns (s.chc.context.get p) = true)
    (next : (stageInForce (s.chc.context.get p)).faultOnLimit = false) :
    limitExpired p s =
      chargeRefresh true (endStage p 1 (s.chc.context.get p)).2
        (profileTaken p (endStage p 1 (s.chc.context.get p)).1 s) := by
  unfold limitExpired
  simp [h, next, profileTaken]

/-- A context whose stage has timed out (R50). -/
def timedOut (c : ChargeContext) : ChargeContext :=
  { c with timeoutLatch := true, elapsed := (stageInForce c).limit * 60, elapsedPart := 0 }

theorem limitExpired_fault (h : limitRuns (s.chc.context.get p) = true)
    (fault : (stageInForce (s.chc.context.get p)).faultOnLimit = true) :
    limitExpired p s =
      detectMild .stageTimeout (byteOf p.code)
        (chargeRefresh true [] (profileTaken p (timedOut (s.chc.context.get p)) s)) := by
  unfold limitExpired
  simp only [h, fault, if_true]
  rfl

theorem limitExpired_same (h : ¬limitRuns (s.chc.context.get p) = true) : limitExpired p s = s := by
  unfold limitExpired
  simp only [h, if_false, Bool.false_eq_true]

/-- A refresh from a changed context ends its command, and touches what a refresh touches. -/
theorem finish_profileTaken (hs : busSettled s = true) (h : Refreshed (profileTaken p c s) u) :
    finish s u = .next u ∧
      (u = { s with
        chc.context := u.chc.context, chc.budget := u.chc.budget, pks.schedule := u.pks.schedule, ind := u.ind,
        rpm := u.rpm, flt := u.flt } ∧ u.chc.budget.stamp = s.uptime) := by
  have blocks := h.frame.blocks
  have taken : SameBus s (profileTaken p c s) := ⟨rfl, rfl, fun _ => rfl⟩
  refine ⟨finish_settled hs (taken.trans h.bus) ?_, blocks, h.stamp⟩
  rw [blocks]
  rfl

/-- The context that a refresh leaves is the one it was given, but for what it derives. -/
theorem profileTaken_profile (h : Refreshed (profileTaken p c s) u) :
    profileOf (u.chc.context.get p) = profileOf c :=
  (h.profile p).trans (congrArg profileOf (PerPack.get_set_same _ _ _))

/-- A refresh from a context whose stage has been ended leaves it ended. -/
theorem stageEnded_profileTaken (h : Refreshed (profileTaken p (endStage p cause c).1 s) u) :
    stageEnded c (u.chc.context.get p) :=
  stageEnded_of_count (countOf_profile (profileTaken_profile h)) rfl fun complete => h.settled.idle (.inr complete)

end Sys2Proof.Proofs
end

section
/-! Charging between the end of a poll and CHC's judgement of it, and the judgement itself (R48, R49, R52). -/

namespace Sys2Proof.Machine

open Sys2Proof.Safety

variable {severe moved : Prop} {ks : List FaultKind} {s t u v : State} {p : PackId} {k : FaultKind} {target : Nat}
  {ws : List Word16} {r : PackRecord} {c : ChargeContext}

/-! ## What PKS's part of a poll leaves of charging -/

/-- Between the two states nothing has changed that CHC judges a stage by, but pack records and, where `severe`, the
containment level. -/
structure KeepsStage (severe : Prop) (s t : State) : Prop where
  srs : t.srs = s.srs
  channel : ∀ p, channelFault t.inputs p = channelFault s.inputs p
  policy : t.chc.policy = s.chc.policy
  derate : t.thu.derate = s.thu.derate
  released : ¬severe → s.flt.level = .none → t.flt.level = .none
  profile : ∀ p, profileOf (t.chc.context.get p) = profileOf (s.chc.context.get p)

theorem KeepsStage.refl (s : State) : KeepsStage severe s s := ⟨rfl, fun _ => rfl, rfl, rfl, fun _ => id, fun _ => rfl⟩

theorem KeepsStage.trans (h : KeepsStage severe s t) (g : KeepsStage severe t u) : KeepsStage severe s u where
  srs := g.srs.trans h.srs
  channel p := (g.channel p).trans (h.channel p)
  policy := g.policy.trans h.policy
  derate := g.derate.trans h.derate
  released hs e := g.released hs (h.released hs e)
  profile p := (g.profile p).trans (h.profile p)

/-- An operation of the platform keeps all of it. -/
theorem KeepsStage.steady (h : KeepsStage severe s t) (g : Steady moved severe ks t u) : KeepsStage severe s u :=
  h.trans
    { srs := g.platform.srs
      channel := fun p => by
        rw [g.platform]
        cases p <;> rfl
      policy := g.policy
      derate := g.derate
      released := g.released
      profile := g.profile }

/-- The fields that `KeepsStage` is about. -/
def keepsStageView (s : State) : Selector × (Bool × Bool) × ChargePolicy × Nat × ContainmentLevel ×
    PerPack ChargeContext :=
  (s.srs, (s.inputs.channelFaultA, s.inputs.channelFaultB), s.chc.policy, s.thu.derate, s.flt.level, s.chc.context)

/-- So does an operation that touches none of those fields. -/
theorem KeepsStage.untouched (h : KeepsStage severe s t) (e : keepsStageView u = keepsStageView t) :
    KeepsStage severe s u := by
  simp only [keepsStageView, Prod.mk.injEq] at e
  obtain ⟨srs, ⟨faultA, faultB⟩, policy, derate, level, context⟩ := e
  refine h.trans ⟨srs, fun p => ?_, policy, derate, fun _ e => level.trans e, fun p => by rw [context]⟩
  cases p
  exacts [faultA, faultB]

theorem keepsStage_modRecord {f : PackRecord → PackRecord} (h : KeepsStage severe s t) :
    KeepsStage severe s (modRecord p f t) := h.untouched rfl

theorem keepsStage_raise {n : Notice} (h : KeepsStage severe s t) : KeepsStage severe s (raise n t) :=
  h.steady (steady_raise (moved := False) (ks := []) (.refl t))

theorem keepsStage_settleReady (h : KeepsStage severe s t) : KeepsStage severe s (settleReady p t) := by
  unfold settleReady
  dsimp only
  split
  · exact keepsStage_raise (keepsStage_modRecord h)
  · exact h

theorem keepsStage_settleFaulted (h : KeepsStage severe s t) : KeepsStage severe s (settleFaulted p t) := by
  unfold settleFaulted
  dsimp only
  split
  · exact keepsStage_raise (keepsStage_modRecord h)
  · exact h

/-- A new cause of a pack is SEVERE, and wakes. -/
theorem keepsStage_causeBegins {f : PackRecord → PackRecord} {detail : Byte} (hs : severe) (h : KeepsStage severe s t) :
    KeepsStage severe s (settingEvent .packAlarm (settleFaulted p (detect k detail (modRecord p f t)))) := by
  have detected := (keepsStage_modRecord (p := p) (f := f) h).steady
    (steady_detect (k := k) (detail := detail) (ks := [k]) (moved := True) (by simp) trivial (fun _ => hs) (.refl _))
  exact (keepsStage_settleFaulted detected).steady (steady_settingEvent (moved := True) (ks := []) trivial (.refl _))

theorem keepsStage_judgeOverCharge (hs : overChargeHolds (t.pks.record.get p) = true → severe)
    (h : KeepsStage severe s t) : KeepsStage severe s (judgeOverCharge p t) := by
  unfold judgeOverCharge
  dsimp only
  split
  next new => exact keepsStage_causeBegins (hs (Bool.and_eq_true_iff.mp new).1) h
  next => exact h

theorem keepsStage_judgeOverTemp (hs : overTempHolds (t.pks.record.get p) = true → severe)
    (h : KeepsStage severe s t) : KeepsStage severe s (judgeOverTemp p t) := by
  unfold judgeOverTemp
  dsimp only
  split
  next new => exact keepsStage_causeBegins (hs (Bool.and_eq_true_iff.mp new).1) h
  next => exact h

theorem keepsStage_pollTaken (p : PackId) (ws : List Word16) (s : State) : KeepsStage severe s (pollTaken p ws s) := by
  have stored : KeepsStage severe s (judged p (modRecord p (polledRecord ws s.uptime) s)) :=
    (KeepsStage.refl s).untouched rfl
  exact keepsStage_settleReady (stored.steady (steady_endCommLost (moved := False) (.refl _)))

/-- A poll whose words show neither over-charge nor over-temperature raises no containment (R28). -/
theorem keepsStage_alarmsJudged
    (charged : overChargeHolds (polledRecord ws s.uptime (s.pks.record.get p)) = true → severe)
    (hot : overTempHolds (polledRecord ws s.uptime (s.pks.record.get p)) = true → severe) :
    KeepsStage severe s (alarmsJudged p ws s) := by
  have first : KeepsStage severe s (judgeOverCharge p (pollTaken p ws s)) := by
    refine keepsStage_judgeOverCharge (fun holds => charged ?_) (keepsStage_pollTaken p ws s)
    rwa [pollTaken_record, overChargeHolds_congr (wordsOf_readied _)] at holds
  have second : KeepsStage severe s (judgeOverTemp p (judgeOverCharge p (pollTaken p ws s))) := by
    refine keepsStage_judgeOverTemp (fun holds => hot ?_) first
    rwa [judgeOverCharge_record, PerPack.get_set_same, pollTaken_record,
      overTempHolds_congr (r := polledRecord ws s.uptime (s.pks.record.get p)) (by simp)] at holds
  exact second.steady (steady_judgeAlarm (ks := []) (.refl _))

theorem keepsStage_alarmsEnded (h : KeepsStage severe s t) : KeepsStage severe s (alarmsEnded p t) := by
  have ended := h.steady (steady_endAlarms (moved := False) (p := p) (.refl t))
  have dropped : KeepsStage severe s (dropOverCharge p (endAlarms p t)) := by
    unfold dropOverCharge
    split
    · exact ended
    · exact keepsStage_modRecord ended
  have cooled : KeepsStage severe s (dropOverTemp p (dropOverCharge p (endAlarms p t))) := by
    unfold dropOverTemp
    split
    · exact dropped
    · exact keepsStage_modRecord dropped
  exact keepsStage_settleReady cooled

/-! ## CHC's judgement of a poll -/

/-- The context after steps 1 and 2 of R48: working values, held latch and recharge. -/
def contextPolled (p : PackId) (r : PackRecord) (s : State) : ChargeContext :=
  (judgeRecharge p s.chc.policy.recharge r.rsoc
    (judgeHeld s.chc.policy.limit r.rsoc (takeWorking r (s.chc.context.get p)))).1

/-- And after step 3: the stage's own end is judged where the context then charges. -/
def contextJudged (p : PackId) (target : Nat) (r : PackRecord) (s : State) : ChargeContext :=
  if chargeStateOf r (contextPolled p r s) (barsOf s p) = .charging then
    (judgeStageEnd p target r (contextPolled p r s)).1
  else contextPolled p r s

/-- PKS's record is handed to CHC. -/
def recordHanded (p : PackId) (s : State) : State :=
  { s with chc.handed := s.chc.handed.set p (s.pks.record.get p) }

theorem chargeAtPoll_eq (p : PackId) (target : Nat) (s : State) :
    ∃ ns, chargeAtPoll p target s =
      chargeRefresh true ns
        { s with chc.context := s.chc.context.set p (contextJudged p target (s.chc.handed.get p) s) } := by
  unfold chargeAtPoll contextJudged contextPolled
  dsimp only
  by_cases charging : chargeStateOf (s.chc.handed.get p)
      (judgeRecharge p s.chc.policy.recharge (s.chc.handed.get p).rsoc
        (judgeHeld s.chc.policy.limit (s.chc.handed.get p).rsoc
          (takeWorking (s.chc.handed.get p) (s.chc.context.get p)))).1 (barsOf s p) = .charging
  · simp only [charging, beq_self_eq_true, if_true]
    exact ⟨_, rfl⟩
  · simp only [beq_iff_eq, charging, if_false]
    exact ⟨_, rfl⟩

theorem chargeAtPoll_profile (p : PackId) (target : Nat) (s : State) :
    profileOf ((chargeAtPoll p target s).chc.context.get p) =
      profileOf (contextJudged p target (s.chc.handed.get p) s) := by
  obtain ⟨ns, e⟩ := chargeAtPoll_eq p target s
  rw [e, (refreshed_chargeRefresh ns _).profile p, PerPack.get_set_same]

/-- After the hand-off of a poll the pack's profile is the one that CHC has judged. -/
theorem pollHanded_profile (p : PackId) (target : Nat) (v : State) :
    profileOf ((pollHanded p target v).chc.context.get p) =
      profileOf (contextJudged p target (v.pks.record.get p) (recordHanded p v)) := by
  have record : (recordHanded p v).chc.handed.get p = v.pks.record.get p := PerPack.get_set_same _ _ _
  have past : Steady True False [] (handedPastCharge p (chargeAtPoll p target (recordHanded p v)))
      (handPoll p target v) := steady_judgeCritical trivial (.refl _)
  rw [← record]
  exact (past.profile p).trans (chargeAtPoll_profile p target (recordHanded p v))

/-- Charging at the end of a command: the charge contexts that its block has settled are still settled, and their
profiles stand. -/
theorem conclude_charge (s : State) (h : ChargeSettled t) :
    ChargeSettled (conclude s t) ∧
      ∀ p, profileOf ((conclude s t).chc.context.get p) = profileOf (t.chc.context.get p) := by
  have offered := steady_offered s t
  obtain ⟨frame, fault⟩ := onlyGrant_busGrant (offerAtOff s t)
  have level := level_busGrant (offerAtOff s t)
  have settled := offered.settled h
  unfold conclude
  refine ⟨fun p => ?_, fun p => ?_⟩
  · have bars : barsOf (busGrant (offerAtOff s t)) p = barsOf (offerAtOff s t) p := by
      unfold barsOf
      rw [level, frame]
    rw [bars, frame]
    exact settled p
  · rw [frame]
    exact offered.profile p

end Sys2Proof.Machine
end

section
/-! The statement about the ends of charge stages. -/

namespace Sys2Proof.Machine

open Sys2Proof.Safety

variable {c d u : ChargeContext} {p : PackId} {target : Nat} {s v : State} {r : PackRecord} {ws : List Word16}

/-! ## The steps of R48 for a context that may charge -/

theorem takeWorking_count (r : PackRecord) (c : ChargeContext) : countOf (takeWorking r c) = countOf c := by
  unfold takeWorking
  split <;> rfl

theorem takeWorking_follow (h : (stageInForce c).mode = .follow) (r : PackRecord) :
    takeWorking r c =
      { c with workCurrent := storedCurrent r.reqCurrent, workVoltage := storedVoltage r.reqVoltage } := by
  unfold takeWorking
  rw [h]

theorem judgeHeld_below {limit rsoc : Nat} (held : c.heldLatch = false) (below : rsoc < limit) :
    judgeHeld limit rsoc c = c := by
  simp [judgeHeld, held, Nat.not_le.mpr below]

theorem judgeHeld_complete (limit rsoc : Nat) (c : ChargeContext) :
    (judgeHeld limit rsoc c).completeLatch = c.completeLatch ∧ (judgeHeld limit rsoc c).stages = c.stages := by
  unfold judgeHeld
  split_ifs <;> exact ⟨rfl, rfl⟩

theorem judgeRecharge_incomplete {threshold rsoc : Nat} (h : c.completeLatch = false) :
    judgeRecharge p threshold rsoc c = (c, []) := by
  simp [judgeRecharge, h]

/-- At the threshold a complete profile starts again (R52). -/
theorem judgeRecharge_restarts {threshold rsoc : Nat} (h : c.completeLatch = true) (low : rsoc ≤ threshold) :
    (judgeRecharge p threshold rsoc c).1 = { restartCount c with completeLatch := false, pointer := 0 } := by
  simp [judgeRecharge, h, low]

theorem chargeStateOf_charging {bars : Bars} (ready : r.state = .ready) (timeout : c.timeoutLatch = false)
    (complete : c.completeLatch = false) (held : c.heldLatch = false) (bar : bars = noBars) :
    chargeStateOf r c bars = .charging := by
  subst bar
  simp [chargeStateOf, ready, timeout, complete, held, Bars.any, noBars]

/-- A ready pack below the limit, without latch or bar, has its stage's own end judged. -/
theorem contextJudged_charging (ready : r.state = .ready) (bar : barsOf s p = noBars)
    (timeout : (s.chc.context.get p).timeoutLatch = false) (complete : (s.chc.context.get p).completeLatch = false)
    (held : (s.chc.context.get p).heldLatch = false) (below : r.rsoc < s.chc.policy.limit) :
    contextJudged p target r s = (judgeStageEnd p target r (takeWorking r (s.chc.context.get p))).1 := by
  obtain ⟨-, -, -, -, -, held', complete', timeout'⟩ := countOf_fields (takeWorking_count r (s.chc.context.get p))
  have polled : contextPolled p r s = takeWorking r (s.chc.context.get p) := by
    unfold contextPolled
    rw [judgeHeld_below (held'.trans held) below, judgeRecharge_incomplete (complete'.trans complete)]
  unfold contextJudged
  rw [polled, if_pos (chargeStateOf_charging ready (timeout'.trans timeout) (complete'.trans complete)
    (held'.trans held) bar)]

/-- A complete profile at the threshold starts again, and without a source no stage is judged (R42, R52). -/
theorem contextJudged_restarts (complete : (s.chc.context.get p).completeLatch = true)
    (low : r.rsoc ≤ s.chc.policy.recharge) (unpowered : s.srs.active = none) :
    let u := contextJudged p target r s
    u.completeLatch = false ∧ u.pointer = 0 ∧ u.elapsed = 0 ∧ u.elapsedPart = 0 ∧ u.taperRun = 0 ∧
      u.stages = (s.chc.context.get p).stages := by
  have barred : chargeStateOf r (contextPolled p r s) (barsOf s p) ≠ .charging :=
    chargeStateOf_barred (by simp [barsOf, unpowered])
  obtain ⟨stages, -, -, -, -, -, latch, -⟩ := countOf_fields (takeWorking_count r (s.chc.context.get p))
  obtain ⟨latch', stages'⟩ :=
    judgeHeld_complete s.chc.policy.limit r.rsoc (takeWorking r (s.chc.context.get p))
  unfold contextJudged
  rw [if_neg barred]
  unfold contextPolled
  rw [judgeRecharge_restarts (latch'.trans (latch.trans complete)) low]
  exact ⟨rfl, rfl, rfl, rfl, rfl, stages'.trans stages⟩

/-! ## The own ends of the stage modes (R48, R49) -/

section

variable (hu : countOf u = countOf (judgeStageEnd p target r d).1) (hd : countOf d = countOf c)
  (idle : u.completeLatch = true → u.targetCurrent = 0)

include hu hd

theorem stage_rest (mode : (stageInForce c).mode = .rest) : stageStays c u c.taperRun := by
  obtain ⟨-, -, -, -, taper, -⟩ := countOf_fields hd
  unfold judgeStageEnd at hu
  simp only [countOf_stage hd, mode] at hu
  exact taper ▸ stageStays_of_count (n := d.taperRun) hu hd

include idle

theorem stage_cc (mode : (stageInForce c).mode = .cc) :
    if (stageInForce c).endValue ≤ r.voltage then stageEnded c u else stageStays c u c.taperRun := by
  obtain ⟨-, -, -, -, taper, -⟩ := countOf_fields hd
  unfold judgeStageEnd at hu
  simp only [countOf_stage hd, mode] at hu
  split at hu
  next reached =>
    rw [if_pos reached]
    exact stageEnded_of_count hu hd idle
  next short =>
    rw [if_neg short]
    exact taper ▸ stageStays_of_count (n := d.taperRun) hu hd

theorem stage_follow (mode : (stageInForce c).mode = .follow) :
    if r.alarm.fullyCharged = true then stageEnded c u else stageStays c u c.taperRun := by
  obtain ⟨-, -, -, -, taper, -⟩ := countOf_fields hd
  unfold judgeStageEnd at hu
  simp only [countOf_stage hd, mode] at hu
  split at hu
  next full =>
    rw [if_pos full]
    exact stageEnded_of_count hu hd idle
  next short =>
    rw [if_neg short]
    exact taper ▸ stageStays_of_count (n := d.taperRun) hu hd

theorem stage_cv (mode : (stageInForce c).mode = .cv) :
    if target = 0 then stageStays c u c.taperRun
    else if ((stageInForce c).endValue : Int) < r.current then stageStays c u 0
    else if c.taperRun < 2 then stageStays c u (c.taperRun + 1)
    else stageEnded c u := by
  obtain ⟨-, -, -, -, taper, -⟩ := countOf_fields hd
  unfold judgeStageEnd at hu
  simp only [countOf_stage hd, mode, taper] at hu
  split at hu
  next unfed =>
    rw [if_pos unfed]
    exact taper ▸ stageStays_of_count (n := d.taperRun) hu hd
  next fed =>
    rw [if_neg fed]
    split at hu
    next tapered =>
      rw [if_neg (Int.not_lt.mpr tapered)]
      split at hu
      next third =>
        rw [if_neg (by omega)]
        exact stageEnded_of_count hu hd idle
      next earlier =>
        rw [if_pos (by omega)]
        exact stageStays_of_count hu hd
    next above =>
      rw [if_pos (Int.not_le.mp above)]
      exact stageStays_of_count hu hd

end

/-- A FOLLOW stage that stays has the working values of the poll (R48). -/
theorem working_of_follow (mode : (stageInForce c).mode = .follow) (more : r.alarm.fullyCharged = false)
    (hu : profileOf u = profileOf (judgeStageEnd p target r (takeWorking r c)).1) :
    u.workCurrent = storedCurrent r.reqCurrent ∧ u.workVoltage = storedVoltage r.reqVoltage := by
  unfold judgeStageEnd at hu
  simp only [countOf_stage (takeWorking_count r c), mode, more, Bool.false_eq_true, if_false] at hu
  rw [takeWorking_follow mode] at hu
  obtain ⟨-, -, -, -, -, -, -, -, current, voltage⟩ := profile_fields hu
  exact ⟨current, voltage⟩

/-! ## The record that a poll hands on -/

/-- Its words are the poll's. -/
theorem pollHandedRecord_words (p : PackId) (ws : List Word16) (s : State) :
    wordsOf ((alarmsEnded p (alarmsJudged p ws s)).pks.record.get p) =
      wordsOf (polledRecord ws s.uptime (s.pks.record.get p)) := by
  obtain ⟨charged, hot, -, -, record⟩ := alarmsEnded_record p (alarmsJudged p ws s)
  rw [record, PerPack.get_set_same, alarmsJudged_record]
  simp

/-- A READY pack without an alarm condition stays READY. -/
theorem pollHandedRecord_ready (ready : (s.pks.record.get p).state = .ready)
    (cool : overChargeHolds (polledRecord ws s.uptime (s.pks.record.get p)) = false)
    (cold : overTempHolds (polledRecord ws s.uptime (s.pks.record.get p)) = false) :
    ((alarmsEnded p (alarmsJudged p ws s)).pks.record.get p).state = .ready := by
  obtain ⟨charged, hot, -, -, record⟩ := alarmsEnded_record p (alarmsJudged p ws s)
  have there : (polledRecord ws s.uptime (s.pks.record.get p)).state = .ready := ready
  have first : readiedRecord (polledRecord ws s.uptime (s.pks.record.get p)) =
      polledRecord ws s.uptime (s.pks.record.get p) := by
    simp [readiedRecord, there]
  rw [record, PerPack.get_set_same, alarmsJudged_record, first]
  simp [chargedRecord, hotRecord, cool, cold, readiedRecord, droppedRecord, there]

end Sys2Proof.Machine

namespace Sys2Proof.Proofs

open Sys2Proof.Machine Sys2Proof.Safety

variable {p : PackId} {c u : ChargeContext} {r : PackRecord} {s t v : State} {x : Transaction} {words : List Word16}
  {line : Bool} {lo hi : Byte}

/-! ## The timers -/

theorem restEnd_ends (hs : busSettled s = true) (h : (s.chc.context.get p).state = .charging)
    (rest : (stageInForce (s.chc.context.get p)).mode = .rest) :
    ∃ t, exec (.restEnd p) s = .next t ∧
      (t = { s with
        chc.context := t.chc.context, chc.budget := t.chc.budget, pks.schedule := t.pks.schedule, ind := t.ind,
        rpm := t.rpm, flt := t.flt } ∧ t.chc.budget.stamp = s.uptime) ∧
      stageEnded (s.chc.context.get p) (t.chc.context.get p) := by
  have refreshed := refreshed_chargeRefresh (endStage p 0 (s.chc.context.get p)).2
    (profileTaken p (endStage p 0 (s.chc.context.get p)).1 s)
  obtain ⟨ends, framed⟩ := finish_profileTaken hs refreshed
  exact ⟨_, (congrArg (finish s) (restEnded_rest h rest)).trans ends, framed, stageEnded_profileTaken refreshed⟩

theorem stageLimit_ends (hs : busSettled s = true) (h : limitRuns (s.chc.context.get p) = true)
    (next : (stageInForce (s.chc.context.get p)).faultOnLimit = false) :
    ∃ t, exec (.stageLimitExpiry p) s = .next t ∧
      (t = { s with
        chc.context := t.chc.context, chc.budget := t.chc.budget, pks.schedule := t.pks.schedule, ind := t.ind,
        rpm := t.rpm, flt := t.flt } ∧ t.chc.budget.stamp = s.uptime) ∧
      stageEnded (s.chc.context.get p) (t.chc.context.get p) := by
  have refreshed := refreshed_chargeRefresh (endStage p 1 (s.chc.context.get p)).2
    (profileTaken p (endStage p 1 (s.chc.context.get p)).1 s)
  obtain ⟨ends, framed⟩ := finish_profileTaken hs refreshed
  exact ⟨_, (congrArg (finish s) (limitExpired_next h next)).trans ends, framed, stageEnded_profileTaken refreshed⟩

theorem stageLimit_faults (hs : busSettled s = true) (h : limitRuns (s.chc.context.get p) = true)
    (fault : (stageInForce (s.chc.context.get p)).faultOnLimit = true) :
    ∃ t, exec (.stageLimitExpiry p) s = .next t ∧
      (t = { s with
        chc.context := t.chc.context, chc.budget := t.chc.budget, pks.schedule := t.pks.schedule, ind := t.ind,
        rpm := t.rpm, flt := t.flt } ∧ t.chc.budget.stamp = s.uptime) ∧
      recorded .stageTimeout (byteOf p.code) s t ∧ (t.chc.context.get p).timeoutLatch = true ∧
      (t.chc.context.get p).pointer = (s.chc.context.get p).pointer ∧ (t.chc.context.get p).targetCurrent = 0 := by
  let v := chargeRefresh true [] (profileTaken p (timedOut (s.chc.context.get p)) s)
  have detected : (detectMild .stageTimeout (byteOf p.code) v).flt.get .stageTimeout =
      recordedFault .stageTimeout (byteOf p.code) v.uptime (s.flt.get .stageTimeout) :=
    (detectMild_get (by decide) _ v).trans (congrArg _ (chargeRefresh_fault (by decide) true [] _))
  have refreshed := (refreshed_chargeRefresh [] (profileTaken p (timedOut (s.chc.context.get p)) s)).reports
    (detectMild_frame .stageTimeout (byteOf p.code) v)
  obtain ⟨-, pointer, -, -, -, -, -, timeout, -⟩ := profile_fields (profileTaken_profile refreshed)
  obtain ⟨ends, framed⟩ := finish_profileTaken hs refreshed
  refine ⟨_, (congrArg (finish s) (limitExpired_fault h fault)).trans ends, framed, ?_, timeout, pointer,
    refreshed.settled.idle (.inl timeout)⟩
  unfold recorded
  rw [detected]
  exact ⟨rfl, rfl, rfl, rfl⟩

/-! ## A poll's last word -/

/-- A good poll ends with its pack's charging settled, in the profile that CHC has judged from the record handed on. -/
theorem exec_lastPollWord (h : lastWordOnBus p .poll x words s) (lo hi : Byte) :
    let v := alarmsEnded p (alarmsJudged p (words ++ [BitVec.ofNat 16 (lo.toNat + 256 * hi.toNat)]) (turnOver line s))
    ∃ t, exec (.busAttemptEnd (.acked [lo, hi]) line) s = .next t ∧ ChargeSettled t ∧
      profileOf (t.chc.context.get p) =
        profileOf (contextJudged p (s.chc.context.get p).targetCurrent (v.pks.record.get p) (recordHanded p v)) := by
  intro v
  obtain ⟨settled, profile⟩ :=
    conclude_charge s (chargeSettled_pollHanded p (s.chc.context.get p).targetCurrent v)
  exact ⟨_, exec_lastWord h lo hi, settled, (profile p).trans (pollHanded_profile p _ v)⟩

/-- What the pack, the poll's words and the platform must show for the pack to charge (R41, R42). -/
structure PollCharges (p : PackId) (ws : List Word16) (s : State) : Prop where
  ready : (s.pks.record.get p).state = .ready
  terminate : (wordAt ws 6).getLsbD 2 = false
  overTemp : (wordAt ws 6).getLsbD 3 = false
  overCharged : (wordAt ws 6).getLsbD 4 = false
  warm : 2732 ≤ (wordAt ws 2).toNat
  cool : (wordAt ws 2).toNat ≤ 3182
  source : s.srs.active.isSome = true
  steady : s.srs.switching = false
  derate : s.thu.derate ≠ 0
  level : s.flt.level = .none
  channel : channelFault s.inputs p = false
  timeout : (s.chc.context.get p).timeoutLatch = false
  complete : (s.chc.context.get p).completeLatch = false
  held : (s.chc.context.get p).heldLatch = false
  below : min 100 (wordAt ws 3).toNat < s.chc.policy.limit

section

variable {ws : List Word16} {target : Nat} (h : PollCharges p ws s)

include h

theorem PollCharges.temperature : 0 ≤ temperatureOf (wordAt ws 2) ∧ temperatureOf (wordAt ws 2) ≤ 450 := by
  have warm := h.warm
  have cool := h.cool
  rw [temperatureOf_eq]
  omega

/-- No alarm condition holds for it. -/
theorem PollCharges.quiet (now : Stamp) (r : PackRecord) :
    overChargeHolds (polledRecord ws now r) = false ∧ overTempHolds (polledRecord ws now r) = false := by
  obtain ⟨-, mild⟩ := h.temperature
  have far : ¬600 ≤ temperatureOf (wordAt ws 2) := by omega
  refine ⟨h.overCharged, Bool.eq_false_iff.mpr fun hot => ?_⟩
  obtain flag | high := (overTempHolds_iff _).mp hot
  · exact Bool.false_ne_true (h.overTemp.symm.trans flag)
  · exact far high

theorem PollCharges.keepsStage : KeepsStage False s (alarmsEnded p (alarmsJudged p ws s)) := by
  obtain ⟨charged, hot⟩ := h.quiet s.uptime (s.pks.record.get p)
  exact keepsStage_alarmsEnded (keepsStage_alarmsJudged (by simp [charged]) (by simp [hot]))

/-- Nothing bars it as its record is handed on (R42). -/
theorem PollCharges.noBars : barsOf (recordHanded p (alarmsEnded p (alarmsJudged p ws s))) p = noBars := by
  let v := alarmsEnded p (alarmsJudged p ws s)
  have kept : KeepsStage False s v := h.keepsStage
  have words := pollHandedRecord_words p ws s
  have handed : (recordHanded p v).chc.handed.get p = v.pks.record.get p := PerPack.get_set_same _ _ _
  have alarm : (v.pks.record.get p).alarm.terminateCharge = false :=
    (congrArg (fun r : PackRecord => r.alarm.terminateCharge) words).trans h.terminate
  have temperature : (v.pks.record.get p).temperature = temperatureOf (wordAt ws 2) :=
    (congrArg PackRecord.temperature words :)
  obtain ⟨frost, heat⟩ := h.temperature
  have level : (recordHanded p v).flt.level = .none := kept.released not_false h.level
  have srs : (recordHanded p v).srs = s.srs := kept.srs
  have derate : (recordHanded p v).thu.derate = s.thu.derate := kept.derate
  have channel : channelFault (recordHanded p v).inputs p = false := (kept.channel p).trans h.channel
  have source : s.srs.active.isNone = false := by simpa using h.source
  unfold barsOf
  simp [v, handed, alarm, temperature, Int.not_lt.mpr frost, Int.not_lt.mpr heat, level, srs, derate, channel, source,
    h.steady, h.derate, Machine.noBars]

/-- So its stage's own end is judged from the poll's words. -/
theorem PollCharges.judged :
    let v := alarmsEnded p (alarmsJudged p ws s)
    contextJudged p target (v.pks.record.get p) (recordHanded p v) =
      (judgeStageEnd p target (v.pks.record.get p) (takeWorking (v.pks.record.get p) (v.chc.context.get p))).1 := by
  intro v
  obtain ⟨charged, hot⟩ := h.quiet s.uptime (s.pks.record.get p)
  have kept : KeepsStage False s v := h.keepsStage
  obtain ⟨-, -, -, -, -, held, complete, timeout, -⟩ := profile_fields (kept.profile p)
  have rsoc : (v.pks.record.get p).rsoc = min 100 (wordAt ws 3).toNat :=
    (congrArg PackRecord.rsoc (pollHandedRecord_words p ws s) :)
  have policy : (recordHanded p v).chc.policy = s.chc.policy := kept.policy
  exact contextJudged_charging (pollHandedRecord_ready h.ready charged hot) h.noBars (timeout.trans h.timeout)
    (complete.trans h.complete) (held.trans h.held) (by rw [rsoc, policy]; exact h.below)

end

/-- A good poll of a pack that charges judges the stage in force by its mode (R48, R49). -/
theorem exec_lastPollWord_charging (hl : lastWordOnBus p .poll x words s) (lo hi : Byte) :
    let ws := words ++ [BitVec.ofNat 16 (lo.toNat + 256 * hi.toNat)]
    let w := wordAt ws
    let c := s.chc.context.get p
    let g := stageInForce c
    PollCharges p ws (turnOver line s) →
      ∃ t, exec (.busAttemptEnd (.acked [lo, hi]) line) s = .next t ∧
        let u := t.chc.context.get p
        (g.mode = .cc → if g.endValue ≤ (w 0).toNat then stageEnded c u else stageStays c u c.taperRun) ∧
        (g.mode = .follow →
          if (w 6).getLsbD 0 then stageEnded c u
          else stageStays c u c.taperRun ∧ u.workCurrent = storedCurrent (w 7).toNat ∧
            u.workVoltage = storedVoltage (w 8).toNat) ∧
        (g.mode = .rest → stageStays c u c.taperRun) ∧
        (g.mode = .cv →
          if c.targetCurrent = 0 then stageStays c u c.taperRun
          else if (g.endValue : Int) < (w 1).toInt then stageStays c u 0
          else if c.taperRun < 2 then stageStays c u (c.taperRun + 1)
          else stageEnded c u) := by
  intro ws w c g charges
  obtain ⟨t, next, settled, profile⟩ := exec_lastPollWord (line := line) hl lo hi
  rw [charges.judged] at profile
  let v := alarmsEnded p (alarmsJudged p ws (turnOver line s))
  let r := v.pks.record.get p
  have words : wordsOf r = wordsOf (polledRecord ws (turnOver line s).uptime (s.pks.record.get p)) :=
    pollHandedRecord_words p ws (turnOver line s)
  have voltage : r.voltage = (w 0).toNat := (congrArg PackRecord.voltage words :)
  have current : r.current = (w 1).toInt := (congrArg PackRecord.current words :)
  have alarm : r.alarm.fullyCharged = (w 6).getLsbD 0 :=
    (congrArg (fun r : PackRecord => r.alarm.fullyCharged) words :)
  have reqCurrent : r.reqCurrent = (w 7).toNat := (congrArg PackRecord.reqCurrent words :)
  have reqVoltage : r.reqVoltage = (w 8).toNat := (congrArg PackRecord.reqVoltage words :)
  have before : countOf (v.chc.context.get p) = countOf c := countOf_profile (charges.keepsStage.profile p)
  have taken : countOf (takeWorking r (v.chc.context.get p)) = countOf c := (takeWorking_count r _).trans before
  have counted := countOf_profile profile
  have idle (complete : (t.chc.context.get p).completeLatch = true) : (t.chc.context.get p).targetCurrent = 0 :=
    settled.idle (.inr complete)
  refine ⟨t, next, fun cc => ?cc, fun follow => ?follow, fun rest => stage_rest counted taken rest, fun cv => ?cv⟩
  case cc =>
    rw [← voltage]
    exact stage_cc counted taken idle cc
  case cv =>
    rw [← current]
    exact stage_cv counted taken idle cv
  case follow =>
    have stage := stage_follow counted taken idle follow
    rw [← alarm, ← reqCurrent, ← reqVoltage]
    split at stage
    next full =>
      rw [if_pos full]
      exact stage
    next more =>
      rw [if_neg more]
      exact ⟨stage, working_of_follow ((congrArg Stage.mode (countOf_stage before)).trans follow)
        (Bool.eq_false_iff.mpr more) profile⟩

/-- At the poll of a complete profile at its recharge threshold, without a source, the profile starts again (R52). -/
theorem exec_lastPollWord_restarts (hl : lastWordOnBus p .poll x words s) (lo hi : Byte)
    (complete : (s.chc.context.get p).completeLatch = true) (unpowered : s.srs.active = none)
    (low : min 100 (wordAt (words ++ [BitVec.ofNat 16 (lo.toNat + 256 * hi.toNat)]) 3).toNat ≤
      s.chc.policy.recharge) :
    ∃ t, exec (.busAttemptEnd (.acked [lo, hi]) line) s = .next t ∧
      let u := t.chc.context.get p
      u.completeLatch = false ∧ u.pointer = 0 ∧ u.elapsed = 0 ∧ u.elapsedPart = 0 ∧ u.taperRun = 0 ∧
        u.stages = (s.chc.context.get p).stages := by
  let ws := words ++ [BitVec.ofNat 16 (lo.toNat + 256 * hi.toNat)]
  let v := alarmsEnded p (alarmsJudged p ws (turnOver line s))
  obtain ⟨t, next, -, profile⟩ := exec_lastPollWord (line := line) hl lo hi
  have kept : KeepsStage True (turnOver line s) v :=
    keepsStage_alarmsEnded (keepsStage_alarmsJudged (fun _ => trivial) fun _ => trivial)
  obtain ⟨stages, -, -, -, -, -, latch, -⟩ := profile_fields (kept.profile p)
  have rsoc : (v.pks.record.get p).rsoc = min 100 (wordAt ws 3).toNat :=
    (congrArg PackRecord.rsoc (pollHandedRecord_words p ws (turnOver line s)) :)
  have policy : (recordHanded p v).chc.policy = s.chc.policy := kept.policy
  have srs : (recordHanded p v).srs = s.srs := kept.srs
  obtain ⟨complete', pointer', elapsed', part', taper', stages'⟩ :=
    contextJudged_restarts (target := (s.chc.context.get p).targetCurrent) (r := v.pks.record.get p)
      (s := recordHanded p v) (p := p) (latch.trans complete) (by rw [rsoc, policy]; exact low)
      (by rw [srs]; exact unpowered)
  obtain ⟨hStages, hPointer, hElapsed, hPart, hTaper, -, hComplete, -⟩ := profile_fields profile
  exact ⟨t, next, hComplete.trans complete', hPointer.trans pointer', hElapsed.trans elapsed', hPart.trans part',
    hTaper.trans taper', hStages.trans (stages'.trans stages)⟩

/-- A stored voltage, as the statement writes its range. -/
theorem storedVoltage_eq (mV : Nat) : storedVoltage mV = max 6000 (min 17600 (mV / 8 * 8)) := by
  unfold storedVoltage clampNat
  split_ifs <;> omega

/-- Settles O41: each timer's command is its operation and then a refresh that keeps every profile, and a poll's
judgement is carried to the command's end by what its other parts keep. -/
theorem stageTimersEndOrFaultTheStage : Obligations.StageTimersEndOrFaultTheStage := by
  intro p s c g framed runs
  refine ⟨fun hs => ⟨restEnd_ends hs, fun h => ?other, fun h => ?limit, fun h => ?fault, fun h => ?idle⟩,
    fun x words line lo hi hl => ?polled⟩
  case other => exact (congrArg (finish s) (restEnded_same h)).trans (finish_same hs)
  case limit => exact stageLimit_ends hs ((limitRuns_iff c).mpr h)
  case fault => exact stageLimit_faults hs ((limitRuns_iff c).mpr h)
  case idle =>
    exact (congrArg (finish s) (limitExpired_same (mt (limitRuns_iff c).mp h))).trans (finish_same hs)
  case polled =>
    intro w r rsoc charges
    refine ⟨fun hc => ?charging, exec_lastPollWord_restarts hl lo hi⟩
    obtain ⟨ready, -, terminate, overTemp, overCharged, warm, cool, source, steady, derate, level, channel, timeout,
      complete, held, below⟩ := hc
    have judged := exec_lastPollWord_charging (line := line) hl lo hi
      { ready, terminate, overTemp, overCharged, warm, cool, source, steady, derate, level, channel, timeout, complete,
        held, below }
    simp only [storedVoltage_eq] at judged
    exact judged

end Sys2Proof.Proofs
end

section
/-! Claims that every command keeps. `Sustained P` lists what has to be shown of a claim `P` about the platform's
blocks: that it reads no more than `ClaimView`, and that it survives each operation that writes there. From this
follows, operation by operation, that every command and every idle millisecond keeps it, so that a claim's own proof is
about those operations alone. `k.after_<operation>` takes the claim across one operation. -/

namespace Sys2Proof.Machine

/-! ## What such a claim may read, and what has to be shown of it -/

/-- The part of a state that such claims may read: the outputs and steps of PSQ, the fault records and the level, the
report memory, the wake-source table and the posture, the key table, the fans and the thermal settings. -/
structure ClaimView where
  state : PlatformState
  step : SeqStep
  stopKind : StopKind
  outputs : Bool × Bool × Bool
  record : Vector FaultRecord 20
  level : ContainmentLevel
  memory : ReportMemory
  table : Vector WakeEntry 11
  posture : Posture
  keys : Vector KeyEntry 144
  keySettings : KeySettings
  mode : ScanMode
  passRunning : Bool
  suppression : Suppression
  freshStart : Bool
  fan : PerFan FanRecord
  thermal : ThermalSettings

def claimView (s : State) : ClaimView where
  state := s.psq.state
  step := s.psq.step
  stopKind := s.psq.stopKind
  outputs := (s.psq.sre, s.psq.mre, s.psq.prst)
  record := s.flt.record
  level := s.flt.level
  memory := s.rpm
  table := s.lwu.table
  posture := s.lwu.posture
  keys := s.kbs.keys
  keySettings := s.kbs.settings
  mode := s.kbs.mode
  passRunning := s.kbs.passRunning
  suppression := s.kbs.suppression
  freshStart := s.kbs.freshStart
  fan := s.fnc.fan
  thermal := s.thu.settings

/-- The claim reads no more than the view, and survives every operation that writes there. -/
structure Sustained (P : State → Prop) : Prop where
  view {s t : State} (h : P s) (e : claimView t = claimView s) : P t
  after_raise {n : Notice} {t : State} (h : P t) : P (raise n t)
  after_endFault {f : FaultKind} {t : State} (h : P t) : P (endFault f t)
  after_detect {f : FaultKind} {detail : Byte} {t : State} (h : P t) : P (detect f detail t)
  after_offerKey {e : KeyEvent} {t : State} (h : P t) : P (offerKey e t)
  after_markSource {i : WakeSource} {t : State} (h : P t) : P (markSource i t)
  after_clearSource {i : WakeSource} {t : State} (h : P t) : P (clearSource t i)
  after_putEnables {standby off : Nat} {t : State} (h : P t) :
    P { t with lwu.table := putEnables (withButton standby) (withButton off) t.lwu.table }
  after_offerWake {t : State} (h : P t) : P (offerWake t)
  after_forcedStop {cause : StopCause} {t : State} (h : P t) : P (forcedStop cause t)
  after_lidChanged {closed : Bool} {t : State} (h : P t) : P (lidChanged closed t)
  after_hingeDecoded {oldPair : Option Posture} {t : State} (h : P t) : P (hingeDecoded oldPair t)
  after_evaluatePass {raw : Samples} {t : State} (h : P t) : P (evaluatePass raw t).1
  after_passStarts {t : State} (h : P t) : P (passStarts t)
  after_serveKeyConfig {p : List Byte} {t : State} (h : P t) : P (serveKeyConfig p t).1
  after_setOverride {i : FanId} {mode : OverrideMode} {duty : Nat} {left : Option Nat} {t : State} (h : P t) :
    P (setOverride i mode duty left t)
  after_evaluateFan {i : FanId} {t : State} (h : P t) : P (evaluateFan i t)
  after_takeCurve {i : FanId} {curve : List CurvePoint} {hysteresis : Nat} {mask : Byte} {t : State} (h : P t) :
    P (takeCurve i curve hysteresis mask t)
  after_spinUpEnded {i : FanId} {t : State} (h : P t) : P (spinUpEnded i t)
  after_tachEnded {i : FanId} {pulses : Nat} {t : State} (h : P t) : P (tachEnded i pulses t)
  after_takeThermal {settings : ThermalSettings} {table : Vector DerateEntry 4} {t : State} (h : P t) :
    P (takeThermal settings table t)
  after_serveLinkSetup {p : List Byte} {t : State} (h : P t) : P (serveLinkSetup p t).1
  after_serveQueueRead {p : List Byte} {t : State} (h : P t) : P (serveQueueRead p t).1
  after_serveAttnLevelSet {p : List Byte} {t : State} (h : P t) : P (serveAttnLevelSet p t).1
  after_resetHoldExpired {t : State} (h : P t) : P (resetHoldExpired t)
  after_standbyDelayExpired {t : State} (h : P t) : P (standbyDelayExpired t)
  after_offDelayExpired {t : State} (h : P t) : P (offDelayExpired t)
  after_spgRises {t : State} (h : P t) : P (spgRises t)
  after_mpgRises {t : State} (h : P t) : P (mpgRises t)
  after_serveTransition {p : List Byte} {t : State} (h : P t) : P (serveTransition p t).1
  after_clearNamed {mask : Nat} {t : State} (h : P t) : P (clearNamed mask t)
  after_releaseAtClear {mask : Nat} {t : State} (h : P t) : P (releaseAtClear mask t)
  after_serveFaultMaskSet {p : List Byte} {t : State} (h : P t) : P (serveFaultMaskSet p t).1
  after_controllerRestart {t : State} (h : P t) : P (controllerRestart t)
  after_powerOn (straps : Straps) (inputs : Inputs) (pending : List Instr) :
    P (bringUp (powerOnBase straps inputs pending))

/-! ## Rules for every predicate -/

theorem holds_ite {P : State → Prop} {c : Prop} [Decidable c] {s t : State} (h : P s) (g : P t) :
    P (if c then s else t) := by
  split
  · exact h
  · exact g

/-- The same for the state of an operation that also answers something. -/
theorem holds_fst_ite {P : State → Prop} {α : Type} {c : Prop} [Decidable c] {x y : State × α} (h : P x.1) (g : P y.1) :
    P (if c then x else y).1 := by
  split
  · exact h
  · exact g

theorem holds_foldl {P : State → Prop} {α : Type} {f : State → α → State} (xs : List α)
    (hf : ∀ {u x}, P u → P (f u x)) {t : State} (h : P t) : P (xs.foldl f t) := by
  induction xs generalizing t with
  | nil => exact h
  | cons x xs ih => exact ih (hf h)

/-! ## Requests that read -/

/-- The request answers, and changes nothing. -/
def Reads (serve : List Byte → State → State × List Byte) : Prop := ∀ p t, (serve p t).1 = t

/-- Every branch of the request answers of the state that it was given. -/
theorem fst_ite_same {c : Prop} [Decidable c] {t : State} {x y : State × List Byte} (h : x.1 = t) (g : y.1 = t) :
    (if c then x else y).1 = t := holds_fst_ite (P := fun u => u = t) h g

theorem reads_servePing : Reads servePing := fun _ _ => fst_ite_same rfl rfl

theorem reads_serveStatusGet : Reads serveStatusGet := fun _ _ => fst_ite_same rfl rfl

theorem reads_serveSourceStatusGet : Reads serveSourceStatusGet := fun _ _ => fst_ite_same rfl rfl

theorem reads_servePackStatusGet : Reads servePackStatusGet := by
  intro p t
  unfold servePackStatusGet
  refine fst_ite_same rfl (fst_ite_same rfl (fst_ite_same rfl (fst_ite_same rfl ?_)))
  split <;> rfl

theorem reads_serveProfileGet : Reads serveProfileGet := by
  intro p t
  unfold serveProfileGet
  refine fst_ite_same rfl ?_
  split
  · rfl
  · exact fst_ite_same rfl rfl

theorem reads_serveBudgetGet : Reads serveBudgetGet := by
  intro p t
  unfold serveBudgetGet
  refine fst_ite_same rfl (fst_ite_same rfl (fst_ite_same rfl ?_))
  split <;> rfl

theorem reads_serveThermalStatusGet : Reads serveThermalStatusGet := fun _ _ => fst_ite_same rfl rfl

theorem reads_serveKeyStateGet : Reads serveKeyStateGet := fun _ _ => fst_ite_same rfl rfl

theorem reads_serveKeymapGet : Reads serveKeymapGet := fun _ _ => fst_ite_same rfl (fst_ite_same rfl rfl)

theorem reads_serveFaultGet : Reads serveFaultGet := fun _ _ =>
  fst_ite_same rfl (fst_ite_same rfl (fst_ite_same rfl rfl))

theorem reads_serveUnknown : Reads serveUnknown := fun _ _ => rfl

variable {P : State → Prop} (k : Sustained P) {s t u : State}

include k

/-! ## Reports, faults and charge -/

theorem Sustained.after_raiseAll {ns : List Notice} (h : P t) : P (raiseAll ns t) :=
  holds_foldl (P := P) ns k.after_raise h

theorem Sustained.after_detectMild {f : FaultKind} {detail : Byte} (mild : f.severe = false) (h : P t) :
    P (detectMild f detail t) := by
  rw [← detect_mild f detail t mild]
  exact k.after_detect h

theorem Sustained.after_chargeRefresh {force : Bool} {ns : List Notice} (h : P t) : P (chargeRefresh force ns t) := by
  unfold chargeRefresh
  refine k.after_raiseAll (k.view h ?_)
  split <;> rfl

theorem Sustained.after_settingEvent {i : WakeSource} (h : P t) : P (settingEvent i t) := by
  unfold settingEvent
  exact holds_ite (k.after_offerWake (k.after_markSource h)) (k.after_markSource h)

/-! ## Stages (R43 to R52) -/

theorem Sustained.after_chargeAtPoll {p : PackId} {target : Nat} (h : P t) :
    P (chargeAtPoll p target t) := by
  unfold chargeAtPoll
  exact k.after_chargeRefresh (k.view h rfl)

theorem Sustained.after_handToCharge {p : PackId} (h : P t) : P (handToCharge p t) := by
  unfold handToCharge
  exact k.after_chargeRefresh (k.view h rfl)

theorem Sustained.after_judgePolicy {recharge : Bool} (h : P t) : P (judgePolicy recharge t) := by
  unfold judgePolicy
  exact k.after_chargeRefresh (k.view h rfl)

theorem Sustained.after_restEnded {p : PackId} (h : P t) : P (restEnded p t) := by
  unfold restEnded
  exact holds_ite (k.after_chargeRefresh (k.view h rfl)) h

theorem Sustained.after_limitExpired {p : PackId} (h : P t) : P (limitExpired p t) := by
  unfold limitExpired
  exact holds_ite
    (holds_ite (k.after_detectMild rfl (k.after_chargeRefresh (k.view h rfl))) (k.after_chargeRefresh (k.view h rfl))) h

/-! ## Fans (R77 to R84) -/

theorem Sustained.after_cancelOverride {i : FanId} (h : P t) : P (cancelOverride i t) := by
  unfold cancelOverride
  exact holds_ite h (k.after_setOverride h)

theorem Sustained.after_applyDerate (h : P t) : P (applyDerate t) := by
  unfold applyDerate
  exact holds_ite h (k.after_raise (k.after_chargeRefresh (k.view h rfl)))

/-! ## Keys (R94 to R124) -/

theorem Sustained.after_queueEvent {kind : KeyKind} {code : Byte} {fn synthetic : Bool} {p : Position} {stamp : Stamp}
    (h : P t) : P (queueEvent kind code fn synthetic p stamp t) :=
  k.after_offerKey h

theorem Sustained.after_typeExpired (h : P t) : P (typeExpired t) := by
  unfold typeExpired
  exact holds_ite h (k.view (k.after_queueEvent h) rfl)

theorem Sustained.after_keyboardWakes {n : Nat} (h : P t) : P (keyboardWakes n t) := by
  induction n generalizing t with
  | zero => exact h
  | succ n ih => exact ih (k.after_settingEvent h)

theorem Sustained.after_passEnds {raw : Samples} (h : P t) : P (passEnds raw t) := by
  unfold passEnds
  have h1 : P { t with inputs.matrix := raw } := k.view h rfl
  exact holds_ite (k.after_keyboardWakes (k.after_evaluatePass h1)) h1

/-! ## Sensors (R69 to R75) -/

theorem Sustained.after_convertSensor {i : Fin 8} {v : Int} (h : P t) : P (convertSensor i v t) := by
  unfold convertSensor
  exact holds_ite (k.after_detectMild rfl (k.view h rfl)) (k.view h rfl)

theorem Sustained.after_convertBoard {cpu charger skin ambient : Int} (h : P t) :
    P (convertBoard cpu charger skin ambient t) := by
  unfold convertBoard
  extract_lets t1
  have h1 : P t1 :=
    k.after_convertSensor (k.after_convertSensor (k.after_convertSensor (k.after_convertSensor h)))
  exact holds_ite h1 (k.after_endFault h1)

theorem Sustained.after_judgeSupplyStale (h : P t) : P (judgeSupplyStale t) := by
  unfold judgeSupplyStale
  exact holds_ite h (k.after_endFault h)

theorem Sustained.after_goStale {i : Fin 8} (h : P t) : P (goStale i t) := by
  unfold goStale
  exact k.after_judgeSupplyStale (k.after_detectMild rfl (k.after_raise (k.view h rfl)))

theorem Sustained.after_judgeTripEnd (h : P t) : P (judgeTripEnd t) := by
  unfold judgeTripEnd
  exact holds_ite (k.after_endFault (k.view h rfl)) h

theorem Sustained.after_judgeTrip (h : P t) : P (judgeTrip t) := by
  unfold judgeTrip
  exact holds_ite (k.after_raise (k.after_detect (k.view h rfl))) (k.after_judgeTripEnd h)

theorem Sustained.after_judgeWakeCondition (h : P t) : P (judgeWakeCondition t) := by
  unfold judgeWakeCondition
  exact holds_ite h (holds_ite (k.after_settingEvent (k.view h rfl)) (k.view h rfl))

theorem Sustained.after_judgeDerate {before : ThermalUnit} (h : P t) : P (judgeDerate before t) := by
  unfold judgeDerate
  exact holds_ite h (k.after_applyDerate (k.view h rfl))

theorem Sustained.after_boardConverted {cpu charger skin ambient : Int} (h : P t) :
    P (boardConverted cpu charger skin ambient t) := by
  unfold boardConverted
  exact k.after_judgeDerate
    (k.after_judgeWakeCondition (k.after_judgeTrip (k.after_convertBoard (k.view h rfl))))

theorem Sustained.after_freshnessReached {i : Fin 8} (h : P t) : P (freshnessReached i t) := by
  unfold freshnessReached
  exact holds_ite (k.after_judgeTrip (k.after_goStale h)) h

theorem Sustained.after_supplyField {i : Fin 8} {v : Int} (h : P t) : P (supplyField i v t) := by
  unfold supplyField applySupply
  exact holds_ite h (k.after_judgeSupplyStale (k.view h rfl))

/-! ## Fan events (R77, R81 to R83) -/

theorem Sustained.after_evaluateFans (h : P t) : P (evaluateFans t) := by
  unfold evaluateFans
  exact k.after_evaluateFan (k.after_evaluateFan (k.view h rfl))

theorem Sustained.after_overrideExpired {i : FanId} (h : P t) : P (overrideExpired i t) := by
  unfold overrideExpired
  exact holds_ite (k.after_cancelOverride h) h

/-! ## The platform (R129 to R161) -/

theorem Sustained.after_offerAtOff {before : State} (h : P t) : P (offerAtOff before t) := by
  unfold offerAtOff
  exact holds_ite (k.after_offerWake h) h

theorem Sustained.after_beginGrace (h : P t) : P (beginGrace t) := by
  unfold beginGrace
  have begun (g : Option Nat) : P { t with psq.grace := g } := k.view h rfl
  exact k.view (k.after_markSource (i := .lowEnergy) (k.after_raise (begun _))) rfl

theorem Sustained.after_endGrace {event : Nat} {off : Bool} (h : P t) : P (endGrace event off t) := by
  unfold endGrace
  split
  · exact h
  · have ended : P { t with psq.grace := none } := k.view h rfl
    exact k.view (k.after_raise ended) rfl

theorem Sustained.after_judgeCritical (h : P t) : P (judgeCritical t) := by
  unfold judgeCritical startGrace
  have judged (b : Bool) : P { t with psq.critical := b } := k.view h rfl
  have begun := k.after_beginGrace (judged true)
  exact holds_ite h (holds_ite (holds_ite (holds_ite (k.after_offerWake begun) begun) (judged true))
    (k.after_endGrace (judged false)))

theorem Sustained.after_railFail {detail : Byte} (h : P t) : P (railFail detail t) :=
  k.after_detect (k.after_forcedStop h)

theorem Sustained.after_takeExtSettings {i : WakeSource} {old new : ExtSettings} {high : Bool} (h : P t) :
    P (takeExtSettings i old new high t) := by
  unfold takeExtSettings
  exact holds_ite (k.after_settingEvent h) h

theorem Sustained.after_takeWakeConfig {standby off ext : Nat} (h : P t) :
    P (takeWakeConfig (withButton standby) (withButton off) ext t) := by
  unfold takeWakeConfig
  replace h := k.after_putEnables (standby := standby) (off := off) h
  exact holds_ite (k.after_offerWake (k.after_takeExtSettings (k.after_takeExtSettings (k.view h rfl))))
    (k.after_takeExtSettings (k.after_takeExtSettings (k.view h rfl)))

theorem Sustained.after_eventIfHeld {i : WakeSource} (h : P t) : P (eventIfHeld t i) := by
  unfold eventIfHeld
  exact holds_ite (k.after_settingEvent h) h

theorem Sustained.after_takeWakeStatus {mask : Nat} (h : P t) : P (takeWakeStatus mask t) := by
  unfold takeWakeStatus
  exact holds_foldl (P := P) _ k.after_eventIfHeld (holds_foldl (P := P) _ k.after_clearSource h)

theorem Sustained.after_wakeTimerRunsOut (h : P t) : P (wakeTimerRunsOut t) := by
  unfold wakeTimerRunsOut
  exact k.after_settingEvent (k.view h rfl)

theorem Sustained.after_wakeTimerExpired (h : P t) : P (wakeTimerExpired t) := by
  unfold wakeTimerExpired
  exact holds_ite (k.after_wakeTimerRunsOut h) h

theorem Sustained.after_lidInput {closed : Bool} (h : P t) : P (lidInput closed t) := by
  unfold lidInput
  exact holds_ite h (k.view h rfl)

theorem Sustained.after_lidSettled (h : P t) : P (lidSettled t) := by
  unfold lidSettled
  exact holds_ite h (holds_ite (k.view h rfl) (k.after_lidChanged (k.view h rfl)))

theorem Sustained.after_hingeInput {i : HingeId} {active : Bool} (h : P t) :
    P (hingeInput i active t) := by
  cases i with
  | h1 => exact holds_ite h (k.view h rfl)
  | h2 => exact holds_ite h (k.view h rfl)

theorem Sustained.after_hingeSettled {i : HingeId} (h : P t) : P (hingeSettled i t) := by
  cases i with
  | h1 => exact holds_ite h (k.after_hingeDecoded (k.view h rfl))
  | h2 => exact holds_ite h (k.after_hingeDecoded (k.view h rfl))

theorem Sustained.after_extInput {i : ExtId} {high : Bool} (h : P t) : P (extInput i high t) := by
  cases i with
  | ext0 => exact holds_ite h (holds_ite (k.after_settingEvent (k.view h rfl)) (k.view h rfl))
  | ext1 => exact holds_ite h (holds_ite (k.after_settingEvent (k.view h rfl)) (k.view h rfl))

theorem Sustained.after_overrideTaken (h : P t) : P (overrideTaken t) := by
  unfold overrideTaken
  exact holds_ite (k.view h rfl) (k.after_detectMild rfl (k.after_forcedStop (k.view h rfl)))

theorem Sustained.after_takeSeqSettings {x : SeqSettings} (h : P t) : P (takeSeqSettings x t) := by
  unfold takeSeqSettings
  exact k.after_judgeCritical (holds_ite (k.after_overrideTaken (k.view h rfl)) (k.view h rfl))

theorem Sustained.after_stepWaitExpired (h : P t) : P (stepWaitExpired t) := by
  unfold stepWaitExpired
  split
  case h_4 => exact h
  all_goals exact k.after_railFail h

theorem Sustained.after_powerGoodFalls {i : GoodId} (h : P t) : P (powerGoodFalls i t) := by
  cases i with
  | spg => exact holds_ite (k.after_railFail (k.view h rfl)) (k.view h rfl)
  | mpg => exact holds_ite (k.after_railFail (k.view h rfl)) (k.view h rfl)

theorem Sustained.after_buttonInput {pressed : Bool} (h : P t) : P (buttonInput pressed t) := by
  unfold buttonInput
  exact holds_ite h (k.view h rfl)

theorem Sustained.after_buttonReleased (h : P t) : P (buttonReleased t) := by
  unfold buttonReleased
  exact holds_ite (k.after_raise (k.view h rfl)) (k.view h rfl)

theorem Sustained.after_buttonSettled (h : P t) : P (buttonSettled t) := by
  unfold buttonSettled buttonPressed
  exact holds_ite h
    (holds_ite (k.view h rfl) (holds_ite (k.after_settingEvent (k.view h rfl)) (k.after_buttonReleased (k.view h rfl))))

theorem Sustained.after_overrideTimeReached (h : P t) : P (overrideTimeReached t) := by
  unfold overrideTimeReached
  exact holds_ite (k.after_overrideTaken (k.view h rfl)) h

theorem Sustained.after_graceExpired (h : P t) : P (graceExpired t) := by
  unfold graceExpired
  have h1 : P { t with psq.grace := some 0 } := k.view h rfl
  exact holds_ite h
    (k.after_detectMild rfl (k.after_forcedStop (k.after_endGrace h1)))

theorem Sustained.after_restartHoldEnded (h : P t) : P (restartHoldEnded t) := by
  unfold restartHoldEnded
  exact holds_ite h (k.after_judgeCritical (k.view h rfl))

/-! ## The link (R178 to R184) -/

theorem Sustained.after_countError {detail : Byte} (h : P t) : P (countError detail t) := by
  unfold countError
  exact holds_ite h (holds_ite (k.after_detectMild rfl (k.view h rfl)) (k.view h rfl))

theorem Sustained.after_countErrors {detail : Byte} {n : Nat} (h : P t) :
    P (countErrors detail n t) := by
  induction n generalizing t with
  | zero => exact h
  | succ n ih => exact ih (k.after_countError h)

theorem Sustained.after_deliver {o : Outgoing} (h : P t) : P (deliver o t) := by
  unfold deliver
  exact holds_ite (k.view h rfl) (k.view h rfl)

theorem Sustained.after_answerPassthrough {payload : List Byte} (h : P t) :
    P (answerPassthrough payload t) := by
  unfold answerPassthrough
  split
  · exact holds_ite (k.view h rfl) (k.after_deliver h)
  · exact h

theorem Sustained.after_disposeFrame {f : Frame} (h : P t) : P (disposeFrame f t) := by
  unfold disposeFrame
  exact holds_ite (k.view h rfl) (k.view h rfl)

theorem Sustained.after_receive {type : Byte} {payload : List Byte} {serve : State → State}
    (hs : ∀ {u}, P u → P (serve u)) (h : P t) :
    P (receive type payload serve t) := by
  unfold receive
  exact holds_ite (k.after_countErrors h) (holds_ite (hs (k.view h rfl)) (k.after_disposeFrame h))

theorem Sustained.after_request {type : Byte} {payload : List Byte} {serve : List Byte → State → State × List Byte}
    (hs : ∀ {p u}, P u → P (serve p u).1) (h : P t) :
    P (request type serve payload t) := by
  unfold request
  exact k.after_receive (fun hu => k.after_deliver (hs hu)) h

theorem Sustained.after_faultyFrame {detail : Byte} {bytes : Nat} {f : Frame} (h : P t) :
    P (faultyFrame detail bytes f t) := by
  unfold faultyFrame
  exact holds_ite (k.after_countErrors h) (k.after_disposeFrame (k.after_countError h))

theorem Sustained.after_takeByte {b : Byte} (h : P t) : P (takeByte t b) := by
  unfold takeByte
  split
  · exact holds_ite (k.view h rfl) (k.after_countError h)
  · exact k.view h rfl
  · exact holds_ite (k.after_faultyFrame h) (k.view h rfl)
  · exact k.view h rfl
  · exact k.view h rfl
  · exact k.after_countError h

theorem Sustained.after_gapRunsOut (h : P t) : P (gapRunsOut t) := by
  unfold gapRunsOut
  exact holds_ite (k.after_countError (k.view h rfl)) h

theorem Sustained.after_gapTimesOut {taken : List Byte} (h : P t) : P (gapTimesOut taken t) := by
  unfold gapTimesOut
  exact k.after_gapRunsOut (holds_foldl (P := P) _ k.after_takeByte h)

theorem Sustained.after_takeRoom (h : P t) : P (takeRoom t) := by
  unfold takeRoom
  split
  · exact k.after_deliver h
  · split
    · exact k.after_disposeFrame h
    · exact h

theorem Sustained.after_framingErrors (h : P t) : P (framingErrors t) := by
  unfold framingErrors
  exact k.after_countError (holds_ite h (k.view h rfl))

theorem Sustained.after_byteOverruns (h : P t) : P (byteOverruns t) := by
  unfold byteOverruns
  exact holds_ite (k.after_countError h) h

/-! ## Packs (R23 to R37) -/

theorem Sustained.after_setSwitches (h : P t) : P (setSwitches t) := k.view h rfl

theorem Sustained.after_updateRsoc (h : P t) : P (updateRsoc t) := by
  unfold updateRsoc
  exact k.after_judgeCritical (k.view h rfl)

theorem Sustained.after_endPackFault {f : FaultKind} {holds : PackRecord → Bool} {p : PackId} (h : P t) :
    P (endPackFault f holds p t) := by
  unfold endPackFault
  exact holds_ite h (k.after_endFault h)

theorem Sustained.after_endCommLost {p : PackId} (h : P t) : P (endCommLost p t) := by
  unfold endCommLost
  exact holds_ite h (k.after_endPackFault h)

theorem Sustained.after_handToThermal {p : PackId} (h : P t) : P (handToThermal p t) := k.view h rfl

theorem Sustained.after_handRecord {p : PackId} (h : P t) : P (handRecord p t) := by
  unfold handRecord
  exact k.after_updateRsoc (k.after_setSwitches (k.after_handToThermal (k.after_handToCharge h)))

theorem Sustained.after_handPoll {p : PackId} {target : Nat} (h : P t) : P (handPoll p target t) := by
  unfold handPoll
  exact k.after_updateRsoc (k.after_setSwitches (k.after_handToThermal (k.after_chargeAtPoll (k.view h rfl))))

theorem Sustained.after_modRecord {p : PackId} {f : PackRecord → PackRecord} (h : P t) :
    P (modRecord p f t) := k.view h rfl

theorem Sustained.after_modSchedule {p : PackId} {f : PackSchedule → PackSchedule} (h : P t) :
    P (modSchedule p f t) := k.view h rfl

theorem Sustained.after_judged {p : PackId} (h : P t) : P (judged p t) := k.view h rfl

theorem Sustained.after_settleReady {p : PackId} (h : P t) : P (settleReady p t) := by
  unfold settleReady
  exact holds_ite (k.after_raise (k.after_modRecord h)) h

theorem Sustained.after_settleFaulted {p : PackId} (h : P t) : P (settleFaulted p t) := by
  unfold settleFaulted
  exact holds_ite (k.after_raise (k.after_modRecord h)) h

theorem Sustained.after_judgeOverCharge {p : PackId} (h : P t) : P (judgeOverCharge p t) := by
  unfold judgeOverCharge
  exact holds_ite
    (k.after_settingEvent (k.after_settleFaulted (k.after_detect (k.after_modRecord h)))) h

theorem Sustained.after_judgeOverTemp {p : PackId} (h : P t) : P (judgeOverTemp p t) := by
  unfold judgeOverTemp
  exact holds_ite
    (k.after_settingEvent (k.after_settleFaulted (k.after_detect (k.after_modRecord h)))) h

theorem Sustained.after_judgeAlarm {p : PackId} {old : AlarmFlags} (h : P t) : P (judgeAlarm p old t) := by
  unfold judgeAlarm
  induction alarmsRisen old (t.pks.record.get p).alarm with
  | zero => exact h
  | succ n ih => exact k.after_settingEvent (k.after_raise ih)

theorem Sustained.after_dropOverCharge {p : PackId} (h : P t) : P (dropOverCharge p t) := by
  unfold dropOverCharge
  exact holds_ite h (k.after_modRecord h)

theorem Sustained.after_dropOverTemp {p : PackId} (h : P t) : P (dropOverTemp p t) := by
  unfold dropOverTemp
  exact holds_ite h (k.after_modRecord h)

theorem Sustained.after_endAlarms {p : PackId} (h : P t) : P (endAlarms p t) := by
  unfold endAlarms
  exact holds_ite (holds_ite h (k.after_endPackFault h))
    (k.after_endPackFault (holds_ite h (k.after_endPackFault h)))

theorem Sustained.after_clearCauses {charged hot : Bool} {p : PackId} (h : P t) :
    P (clearCauses charged hot p t) := by
  unfold clearCauses
  extract_lets before t1 t2
  have h1 : P t1 := holds_ite (k.after_dropOverCharge h) h
  have h2 : P t2 := holds_ite (k.after_dropOverTemp h1) h1
  exact holds_ite h2 (k.after_handRecord (k.after_settleReady h2))

theorem Sustained.after_schedulePoll {p : PackId} (h : P t) : P (schedulePoll p t) := k.view h rfl

theorem Sustained.after_goodPoll {p : PackId} {ws : List Word16} (h : P t) : P (goodPoll p ws t) := by
  unfold goodPoll
  extract_lets target old t1 t2 t3 t4
  have h1 : P t1 := k.after_judged (k.after_modRecord h)
  have h2 : P t2 := k.after_settleReady (k.after_endCommLost h1)
  have h3 : P t3 := k.after_judgeAlarm (k.after_judgeOverTemp (k.after_judgeOverCharge h2))
  have h4 : P t4 :=
    k.after_settleReady (k.after_dropOverTemp (k.after_dropOverCharge (k.after_endAlarms h3)))
  exact k.after_schedulePoll (k.after_handPoll h4)

theorem Sustained.after_goodIdentification {p : PackId} {ws : List Word16} (h : P t) :
    P (goodIdentification p ws t) := by
  unfold goodIdentification
  exact k.after_goodPoll (k.after_modRecord h)

theorem Sustained.after_judgeAtFailure {p : PackId} (h : P t) : P (judgeAtFailure p t) := by
  unfold judgeAtFailure
  have h1 {c : Prop} [Decidable c] : P (if c then t else endFault .packOverCharged t) :=
    holds_ite h (k.after_endFault h)
  exact holds_ite (k.after_judged (holds_ite h1 (k.after_endFault h1))) h

theorem Sustained.after_failedPoll {p : PackId} (h : P t) : P (failedPoll p t) := by
  unfold failedPoll
  exact holds_ite (k.after_handRecord (k.after_settleFaulted (k.after_detectMild rfl
    (k.after_judgeAtFailure (k.after_modRecord (k.after_modRecord h)))))) (k.after_modRecord h)

theorem Sustained.after_packInserted {p : PackId} (h : P t) : P (packInserted p t) := by
  unfold packInserted
  exact k.after_handRecord (k.after_raise (k.after_modSchedule (k.after_modRecord h)))

theorem Sustained.after_removePassthrough {p : PackId} (h : P t) : P (removePassthrough p t) := by
  unfold removePassthrough
  split
  · exact h
  · exact holds_ite h (holds_ite (k.view h rfl) (k.after_answerPassthrough (k.view h rfl)))

theorem Sustained.after_packRemoved {p : PackId} (h : P t) : P (packRemoved p t) := by
  unfold packRemoved
  exact k.after_raise (k.after_endCommLost (k.after_endAlarms
    (k.after_handRecord (k.after_removePassthrough (k.view h rfl)))))

theorem Sustained.after_presenceChanges {p : PackId} {active : Bool} (h : P t) :
    P (presenceChanges p active t) := by
  unfold presenceChanges
  exact holds_ite (k.view h rfl) (holds_ite (k.after_packInserted (k.view h rfl)) (k.after_packRemoved (k.view h rfl)))

theorem Sustained.after_identificationFalls {p : PackId} (h : P t) :
    P (identificationFalls p t) := by
  unfold identificationFalls
  exact holds_ite (k.after_modSchedule h) h

theorem Sustained.after_pollFalls {p : PackId} (h : P t) : P (pollFalls p t) := by
  unfold pollFalls
  exact holds_ite (k.after_modSchedule h) h

theorem Sustained.after_channelFails {p : PackId} (h : P t) : P (channelFails p t) := by
  unfold channelFails
  exact holds_ite (k.after_chargeRefresh (k.after_detect (k.view h rfl))) (k.after_chargeRefresh h)

theorem Sustained.after_channelRecovers {p : PackId} (h : P t) : P (channelRecovers p t) := by
  unfold channelRecovers
  exact k.after_chargeRefresh (holds_ite (k.view h rfl) (k.after_endFault (k.view h rfl)))

theorem Sustained.after_channelFaultChanges {p : PackId} {active : Bool} (h : P t) :
    P (channelFaultChanges p active t) := by
  unfold channelFaultChanges
  exact holds_ite h (holds_ite (k.after_channelFails (k.view h rfl)) (k.after_channelRecovers (k.view h rfl)))

/-! ## Sources (R4 to R15) -/

theorem Sustained.after_judgeThrottle (h : P t) : P (judgeThrottle t) := k.view h rfl

theorem Sustained.after_endOverload (h : P t) : P (endOverload t) := by
  unfold endOverload
  exact k.after_judgeThrottle (k.after_endFault (k.after_raise (k.view h rfl)))

theorem Sustained.after_beginOverload (h : P t) : P (beginOverload t) := by
  unfold beginOverload
  exact k.after_judgeThrottle (k.after_detectMild rfl (k.after_raise (k.view h rfl)))

theorem Sustained.after_judgeOverload (h : P t) : P (judgeOverload t) := by
  unfold judgeOverload
  exact holds_ite h (holds_ite (k.view h rfl)
    (holds_ite (k.view h rfl) (holds_ite (k.after_endOverload h) (k.after_beginOverload h))))

theorem Sustained.after_handSource (h : P t) : P (handSource t) := by
  unfold handSource
  exact k.after_judgeCritical (k.after_setSwitches (k.after_chargeRefresh h))

theorem Sustained.after_changeActive {new : Option SourceId} (h : P t) :
    P (changeActive new t) := by
  unfold changeActive
  extract_lets old x t1 t2 t3
  have h1 : P t1 := k.view h rfl
  have h2 : P t2 := by
    unfold t2
    split
    · exact k.after_settingEvent h1
    · exact h1
  have h3 : P t3 := k.after_handSource (k.after_raise h2)
  clear_value t3
  exact holds_ite (k.after_endOverload h3) (k.view h3 rfl)

theorem Sustained.after_selectSource (h : P t) : P (selectSource t) := by
  unfold selectSource
  exact holds_ite h (k.after_changeActive h)

theorem Sustained.after_setSource {i : SourceId} {r : SourceRecord} (h : P t) : P (setSource i r t) := k.view h rfl

theorem Sustained.after_judgeInvalid {i : SourceId} {old new : SourceRecord} (h : P t) :
    P (judgeInvalid i old new t) :=
  by
  unfold judgeInvalid
  split
  · exact k.after_detectMild rfl h
  · split
    · exact h
    · exact k.after_endFault h

theorem Sustained.after_updateSource {i : SourceId} {new : SourceRecord} (h : P t) :
    P (updateSource i new t) := by
  unfold updateSource
  extract_lets old t1 t2
  have h1 : P t1 := k.after_judgeInvalid (k.after_setSource h)
  have h2 : P t2 := holds_ite (k.after_selectSource h1) h1
  exact holds_ite (k.after_chargeRefresh h2) h2

theorem Sustained.after_contractDelivered {p : PortId} {block : List Byte} (h : P t) :
    P (contractDelivered p block t) := by
  unfold contractDelivered
  exact k.after_updateSource (k.view h rfl)

theorem Sustained.after_sourceSettled {i : SourceId} (h : P t) : P (sourceSettled i t) := by
  unfold sourceSettled
  exact holds_ite
    (holds_ite (k.after_selectSource (k.after_setSource h)) (k.after_setSource h)) h

theorem Sustained.after_switchingExpired (h : P t) : P (switchingExpired t) := by
  unfold switchingExpired
  exact holds_ite (k.view h rfl) (holds_ite (k.after_selectSource (k.after_chargeRefresh (k.view h rfl))) h)

theorem Sustained.after_requestRead {p : PortId} (h : P t) : P (requestRead p t) := k.view h rfl

theorem Sustained.after_portIntervalEnds {p : PortId} (h : P t) : P (portIntervalEnds p t) := by
  unfold portIntervalEnds
  exact holds_ite (k.after_requestRead (k.view h rfl)) h

theorem Sustained.after_barrelDetect {active : Bool} {reading : AdapterReading} (h : P t) :
    P (barrelDetect active reading t) := by
  unfold barrelDetect
  exact holds_ite h (holds_ite (k.view h rfl) (k.after_updateSource (k.view h rfl)))

theorem Sustained.after_adapterChanges {reading : AdapterReading} (h : P t) :
    P (adapterChanges reading t) := by
  unfold adapterChanges
  exact holds_ite (k.after_updateSource (k.view h rfl)) (k.view h rfl)

theorem Sustained.after_pSysSampled {reading : Nat} (h : P t) : P (pSysSampled reading t) := by
  unfold pSysSampled
  exact k.after_judgeOverload (k.after_chargeRefresh (k.view h rfl))

/-! ## The pack bus (R19 to R35) -/

theorem Sustained.after_lineFound (h : P t) : P (lineFound t) := by
  have found : P { t with pbc.recoveryFails := 0 } := k.view h rfl
  exact k.after_endFault found

theorem Sustained.after_lineLevel {high : Bool} (h : P t) : P (lineLevel high t) := k.view h rfl

theorem Sustained.after_startAttempt {x : Transaction} (h : P t) : P (startAttempt x t) := by
  unfold startAttempt
  exact holds_ite (k.after_lineFound (k.view h rfl)) (k.view h rfl)

theorem Sustained.after_startTransaction {device : BusDevice} {passthrough : Bool} {op : BusOp} (h : P t) :
    P (startTransaction device passthrough op t) := by
  unfold startTransaction
  exact k.after_startAttempt h

theorem Sustained.after_beginTurn {poller : BusDevice} {work : TurnWork} {ops : List BusOp} (h : P t) :
    P (beginTurn poller work ops t) := by
  cases ops with
  | nil => exact h
  | cons op rest => exact k.after_startTransaction (k.view h rfl)

theorem Sustained.after_beginPackTurn {p : PackId} (h : P t) : P (beginPackTurn p t) := by
  unfold beginPackTurn
  exact k.after_beginTurn (k.after_modSchedule h)

theorem Sustained.after_beginPortTurn {p : PortId} (h : P t) : P (beginPortTurn p t) := by
  unfold beginPortTurn
  exact k.after_beginTurn (k.view h rfl)

theorem Sustained.after_beginPollerTurn {d : BusDevice} (h : P t) : P (beginPollerTurn d t) := by
  cases d with
  | packA | packB => exact k.after_beginPackTurn h
  | port1 | port2 => exact k.after_beginPortTurn h

theorem Sustained.after_grantPoller (h : P t) : P (grantPoller t) := by
  unfold grantPoller
  split
  · exact k.after_beginPollerTurn h
  · exact h

theorem Sustained.after_grantTurn (h : P t) : P (grantTurn t) := by
  unfold grantTurn
  split
  · split
    · exact k.after_startTransaction (k.view h rfl)
    · exact k.after_grantPoller (k.view h rfl)
  · exact k.after_grantPoller h

theorem Sustained.after_busGrant (h : P t) : P (busGrant t) := by
  unfold busGrant
  refine holds_ite h ?_
  split
  · exact holds_ite (k.after_grantTurn h) (k.after_startTransaction (k.view h rfl))
  · exact k.after_grantTurn h

theorem Sustained.after_endTurn (h : P t) : P (endTurn t) := k.view h rfl

theorem Sustained.after_switchWritten {p : PackId} {w : Word16} {good : Bool} (h : P t) :
    P (switchWritten p w good t) := by
  unfold switchWritten
  exact holds_ite (k.after_modRecord h) h

theorem Sustained.after_readsGood {p : PackId} {work : TurnWork} {ws : List Word16} (h : P t) :
    P (readsGood p work ws t) := by
  unfold readsGood
  split
  · exact k.after_goodIdentification h
  · exact k.after_goodPoll h

theorem Sustained.after_readsFailed {p : PackId} {work : TurnWork} (h : P t) :
    P (readsFailed p work t) := by
  unfold readsFailed
  split
  · exact k.after_modSchedule (k.after_failedPoll h)
  · exact k.after_schedulePoll (k.after_failedPoll h)

theorem Sustained.after_packOutcome {p : PackId} {x : Turn} {op : BusOp} {result : Option (List Byte)}
    (h : P t) : P (packOutcome p x op result t) := by
  unfold packOutcome
  split
  · exact holds_ite (k.after_endTurn (k.after_switchWritten h)) (k.after_switchWritten h)
  · split
    · exact k.after_readsFailed (k.after_endTurn h)
    · exact holds_ite (k.after_readsGood (k.after_endTurn h)) (k.view h rfl)

theorem Sustained.after_portOutcome {p : PortId} {result : Option (List Byte)} (h : P t) :
    P (portOutcome p result t) := by
  cases result with
  | none => exact k.after_endTurn h
  | some block => exact k.after_contractDelivered (k.after_endTurn h)

theorem Sustained.after_pollerOutcome {d : BusDevice} {op : BusOp} {result : Option (List Byte)} (h : P t) :
    P (pollerOutcome d op result t) := by
  unfold pollerOutcome
  split
  · exact h
  · cases d with
    | packA | packB => exact k.after_packOutcome h
    | port1 | port2 => exact k.after_portOutcome h

theorem Sustained.after_passthroughOutcome {result : Option (List Byte)} (h : P t) :
    P (passthroughOutcome result t) := by
  unfold passthroughOutcome
  split
  · exact h
  · exact k.after_answerPassthrough (k.view h rfl)

theorem Sustained.after_endTransaction {x : Transaction} {result : Option (List Byte)} (h : P t) :
    P (endTransaction x result t) := by
  unfold endTransaction
  exact holds_ite (k.after_passthroughOutcome (k.view h rfl))
    (holds_ite (k.view h rfl) (k.after_pollerOutcome (k.view h rfl)))

theorem Sustained.after_attemptFails {x : Transaction} (h : P t) : P (attemptFails x t) := by
  unfold attemptFails
  exact holds_ite (k.after_endTransaction h) (k.after_startAttempt h)

theorem Sustained.after_attemptEnded {result : AttemptResult} (h : P t) :
    P (attemptEnded result t) := by
  unfold attemptEnded
  split
  · exact h
  · refine holds_ite h ?_
    cases result with
    | notAcked => exact k.after_attemptFails h
    | acked data => exact holds_ite (k.after_endTransaction h) (k.after_attemptFails h)

theorem Sustained.after_recoveryFailed {x : Transaction} (h : P t) : P (recoveryFailed x t) := by
  unfold recoveryFailed
  exact k.after_attemptFails (holds_ite (k.after_detectMild rfl (k.view h rfl)) (k.view h rfl))

theorem Sustained.after_recoveryEnded {lineHigh : Bool} (h : P t) : P (recoveryEnded lineHigh t) := by
  unfold recoveryEnded
  split
  · exact h
  · exact holds_ite h (holds_ite (k.after_lineFound (k.view h rfl)) (k.after_recoveryFailed h))

theorem Sustained.after_busAttemptEnds {result : AttemptResult} {lineHigh : Bool} (h : P t) :
    P (busAttemptEnds result lineHigh t) := by
  unfold busAttemptEnds
  exact k.after_attemptEnded (k.after_lineLevel h)

theorem Sustained.after_attemptTimesOut {lineHigh : Bool} (h : P t) :
    P (attemptTimesOut lineHigh t) := by
  unfold attemptTimesOut
  exact k.after_attemptEnded (k.after_lineLevel h)

theorem Sustained.after_busRecovers {lineHigh : Bool} (h : P t) : P (busRecovers lineHigh t) := by
  unfold busRecovers
  exact k.after_recoveryEnded (k.after_lineLevel h)

/-! ## Indicators and fault clearing (R167 to R173) -/

theorem Sustained.after_refreshChargeLed (h : P t) : P (refreshChargeLed t) := k.view h rfl

theorem Sustained.after_refreshPowerLed (h : P t) : P (refreshPowerLed t) := k.view h rfl

theorem Sustained.after_chargePhaseEnds (h : P t) : P (chargePhaseEnds t) := by
  unfold chargePhaseEnds
  exact holds_ite (holds_ite (k.after_refreshChargeLed (k.view h rfl)) (k.view h rfl)) (k.view h rfl)

theorem Sustained.after_phaseEnds {led : LedId} (h : P t) : P (phaseEnds led t) := by
  cases led with
  | power => exact holds_ite (k.view h rfl) h
  | charge => exact holds_ite (k.after_chargePhaseEnds h) h

theorem Sustained.after_setLed {power invert : Bool} {override : Option Show} (h : P t) :
    P (setLed power override invert t) := by
  unfold setLed
  exact holds_ite (k.after_refreshPowerLed (k.view h rfl)) (k.after_refreshChargeLed (k.view h rfl))

theorem Sustained.after_redetect {mask : Nat} {f : FaultKind} (h : P t) : P (redetect mask t f) := by
  unfold redetect
  exact holds_ite (k.after_detect h) h

theorem Sustained.after_clearPackCauses {mask : Nat} (h : P t) : P (clearPackCauses mask t) := by
  unfold clearPackCauses
  exact k.after_clearCauses (k.after_clearCauses h)

theorem Sustained.after_clearAndRedetect {mask : Nat} (h : P t) : P (clearAndRedetect mask t) := by
  unfold clearAndRedetect
  exact holds_foldl (P := P) _ k.after_redetect (k.after_clearPackCauses (k.after_clearNamed h))

/-! ## Requests: the state after a request has been served -/

theorem Sustained.after_serveLinkStart {p : List Byte} (h : P t) : P (serveLinkStart p t).1 := by
  unfold serveLinkStart
  exact holds_fst_ite h (k.view h rfl)

theorem Sustained.after_serveRestart {p : List Byte} (h : P t) : P (serveRestart p t) := by
  unfold serveRestart
  exact holds_ite (k.after_deliver h) (k.after_deliver h)

theorem Sustained.after_serveSourcePolicy {p : List Byte} (h : P t) :
    P (serveSourcePolicy p t).1 := by
  unfold serveSourcePolicy
  exact holds_fst_ite h (holds_fst_ite h
    (holds_fst_ite h (k.after_selectSource (k.after_chargeRefresh (k.view h rfl)))))

theorem Sustained.after_servePackSnapshot {p : List Byte} (h : P t) :
    P (servePackSnapshot p t).1 := by
  unfold servePackSnapshot
  exact holds_fst_ite h (k.view h rfl)

theorem Sustained.after_servePassthrough {type : Byte} {device : Option BusDevice} {op : Option BusOp} {adjusted : Bool}
    (h : P t) : P (servePassthrough type device op adjusted t) := by
  unfold servePassthrough
  split
  · exact holds_ite (k.view h rfl) (k.after_deliver h)
  · exact k.after_deliver h

theorem Sustained.after_servePackRead {p : List Byte} (h : P t) : P (servePackRead p t) := by
  unfold servePackRead
  exact holds_ite (k.after_deliver h) (k.after_servePassthrough h)

theorem Sustained.after_servePackWrite {p : List Byte} (h : P t) : P (servePackWrite p t) := by
  unfold servePackWrite
  exact holds_ite (k.after_deliver h) (k.after_servePassthrough h)

theorem Sustained.after_putContext {p : PackId} {c : ChargeContext} (h : P t) :
    P (putContext p c t) := by
  unfold putContext
  exact k.after_chargeRefresh (k.view h rfl)

theorem Sustained.after_serveProfileLoad {p : List Byte} (h : P t) : P (serveProfileLoad p t).1 := by
  unfold serveProfileLoad
  refine holds_fst_ite h ?_
  split
  · exact h
  · exact h
  · exact k.after_putContext h

theorem Sustained.after_serveProfileExtend {p : List Byte} (h : P t) :
    P (serveProfileExtend p t).1 := by
  unfold serveProfileExtend
  refine holds_fst_ite h ?_
  split
  · exact h
  · exact h
  · exact holds_fst_ite h (k.after_putContext h)

theorem Sustained.after_serveProfileAbort {p : List Byte} (h : P t) :
    P (serveProfileAbort p t).1 := by
  unfold serveProfileAbort
  refine holds_fst_ite h ?_
  split
  · exact h
  · exact k.after_putContext h

theorem Sustained.after_serveChargePolicy {p : List Byte} (h : P t) :
    P (serveChargePolicy p t).1 := by
  unfold serveChargePolicy
  refine holds_fst_ite h (holds_fst_ite h ?_)
  split
  · exact h
  · exact k.after_judgePolicy (k.view h rfl)

theorem Sustained.after_serveTempSupply {p : List Byte} (h : P t) : P (serveTempSupply p t).1 := by
  unfold serveTempSupply
  exact holds_fst_ite h (k.after_judgeTrip (k.after_supplyField (k.after_supplyField h)))

theorem Sustained.after_serveThermalConfig {p : List Byte} (h : P t) :
    P (serveThermalConfig p t).1 := by
  unfold serveThermalConfig
  exact holds_fst_ite h (holds_fst_ite h (holds_fst_ite h (k.after_takeThermal h)))

theorem Sustained.after_serveFanCurveSet {p : List Byte} (h : P t) : P (serveFanCurveSet p t).1 := by
  unfold serveFanCurveSet
  exact holds_fst_ite h (holds_fst_ite h (holds_fst_ite h (holds_fst_ite h
    (holds_fst_ite h (k.after_takeCurve h)))))

theorem Sustained.after_serveFanOverride {p : List Byte} (h : P t) : P (serveFanOverride p t).1 := by
  unfold serveFanOverride
  exact holds_fst_ite h (holds_fst_ite h (holds_fst_ite h (holds_fst_ite h
    (holds_foldl (P := P) _ k.after_setOverride h))))

theorem Sustained.after_serveKeymapSet {p : List Byte} (h : P t) : P (serveKeymapSet p t).1 := by
  unfold serveKeymapSet
  exact holds_fst_ite h (holds_fst_ite h (holds_fst_ite h (k.view h rfl)))

theorem Sustained.after_serveBacklightSet {p : List Byte} (h : P t) :
    P (serveBacklightSet p t).1 := by
  unfold serveBacklightSet
  exact holds_fst_ite h (holds_fst_ite h (k.view h rfl))

theorem Sustained.after_serveWakeConfig {p : List Byte} (h : P t) : P (serveWakeConfig p t).1 := by
  unfold serveWakeConfig
  exact holds_fst_ite h (holds_fst_ite h (holds_fst_ite h (k.after_takeWakeConfig h)))

theorem Sustained.after_serveWakeStatus {p : List Byte} (h : P t) : P (serveWakeStatus p t).1 := by
  unfold serveWakeStatus
  exact holds_fst_ite h (holds_fst_ite h (k.after_takeWakeStatus h))

theorem Sustained.after_serveWakeTimerSet {p : List Byte} (h : P t) :
    P (serveWakeTimerSet p t).1 := by
  unfold serveWakeTimerSet
  exact holds_fst_ite h (k.view h rfl)

theorem Sustained.after_servePlatformSettings {p : List Byte} (h : P t) :
    P (servePlatformSettings p t).1 := by
  unfold servePlatformSettings
  exact holds_fst_ite h (holds_fst_ite (k.after_serveTransition h)
    (holds_fst_ite h (k.after_takeSeqSettings h)))

theorem Sustained.after_serveFaultClear {p : List Byte} (h : P t) : P (serveFaultClear p t).1 := by
  unfold serveFaultClear
  exact holds_fst_ite h (holds_fst_ite h
    (k.after_releaseAtClear (k.after_refreshChargeLed (k.after_clearAndRedetect h))))

theorem Sustained.after_serveContainmentSet {p : List Byte} (h : P t) :
    P (serveContainmentSet p t).1 := by
  unfold serveContainmentSet
  refine holds_fst_ite h (holds_fst_ite h ?_)
  split
  · exact h
  · exact k.view h rfl

theorem Sustained.after_serveIndicatorSet {p : List Byte} (h : P t) :
    P (serveIndicatorSet p t).1 := by
  unfold serveIndicatorSet
  exact holds_fst_ite h (holds_fst_ite h (k.after_setLed h))

/-! ## Bring-up and the controller restart (R188) -/

theorem Sustained.after_replySent (h : P t) : P (replySent t) := by
  unfold replySent
  split
  · exact h
  · exact holds_ite (k.after_controllerRestart h) (k.after_takeRoom (k.view h rfl))

theorem Sustained.after_lineBreaks (h : P t) : P (lineBreaks t) := by
  unfold lineBreaks
  exact holds_ite (k.after_controllerRestart h) (k.view h rfl)

/-! ## The expiries of an idle millisecond (log 1, log 36) -/

theorem Sustained.after_whenDue {due : State → Bool} {act : State → State}
    (ha : ∀ {u}, P u → P (act u)) (h : P t) : P (whenDue due act t) := by
  unfold whenDue
  exact holds_ite (k.after_offerAtOff (ha h)) h

theorem Sustained.after_sourceExpiries (h : P t) : P (sourceExpiries t) := by
  unfold sourceExpiries
  exact holds_foldl (P := P) _ (k.after_whenDue k.after_portIntervalEnds)
    (k.after_whenDue k.after_switchingExpired
      (holds_foldl (P := P) _ (k.after_whenDue k.after_sourceSettled) h))

theorem Sustained.after_packExpiries (h : P t) : P (packExpiries t) := by
  unfold packExpiries
  exact holds_foldl (P := P) _
    (fun hu => k.after_whenDue k.after_pollFalls (k.after_whenDue k.after_identificationFalls hu))
    (k.after_whenDue k.after_attemptTimesOut h)

theorem Sustained.after_chargeExpiries (h : P t) : P (chargeExpiries t) := by
  unfold chargeExpiries
  exact holds_foldl (P := P) _
    (fun hu => k.after_whenDue k.after_limitExpired (k.after_whenDue k.after_restEnded hu)) h

theorem Sustained.after_keyExpiries (h : P t) : P (keyExpiries t) := by
  unfold keyExpiries
  exact k.after_whenDue k.after_typeExpired (k.after_whenDue k.after_passStarts h)

theorem Sustained.after_inputExpiries (h : P t) : P (inputExpiries t) := by
  unfold inputExpiries
  extract_lets t1 t2 t3 t4 t5
  have h1 : P t1 := k.after_whenDue k.after_lidSettled h
  have h2 : P t2 := k.after_whenDue k.after_hingeSettled h1
  have h3 : P t3 := k.after_whenDue k.after_hingeSettled h2
  have h4 : P t4 := k.after_whenDue k.after_buttonSettled h3
  have h5 : P t5 := k.after_whenDue k.after_wakeTimerRunsOut h4
  exact k.after_whenDue k.after_overrideTimeReached h5

theorem Sustained.after_sequencerExpiries (h : P t) : P (sequencerExpiries t) := by
  unfold sequencerExpiries
  extract_lets t1 t2 t3 t4
  have h1 : P t1 := k.after_whenDue k.after_stepWaitExpired h
  have h2 : P t2 := k.after_whenDue k.after_resetHoldExpired h1
  have h3 : P t3 := k.after_whenDue k.after_standbyDelayExpired h2
  have h4 : P t4 := k.after_whenDue k.after_offDelayExpired h3
  exact k.after_whenDue k.after_restartHoldEnded (k.after_whenDue k.after_graceExpired h4)

theorem Sustained.after_lineExpiries (h : P t) : P (lineExpiries t) := by
  unfold lineExpiries
  exact k.after_whenDue k.after_gapRunsOut
    (k.after_whenDue k.after_phaseEnds (k.after_whenDue k.after_phaseEnds h))

/-- The expiries before the fans' (R5 to R50), in the model's order. -/
theorem Sustained.after_earlyExpiries (h : P t) : P (chargeExpiries (packExpiries (sourceExpiries t))) :=
  k.after_chargeExpiries (k.after_packExpiries (k.after_sourceExpiries h))

/-- And those after them (R92 to R179). -/
theorem Sustained.after_lateExpiries (h : P t) :
    P (lineExpiries (sequencerExpiries (inputExpiries (keyExpiries t)))) :=
  k.after_lineExpiries (k.after_sequencerExpiries (k.after_inputExpiries (k.after_keyExpiries h)))

omit k in
/-- An idle millisecond: a claim `Q` may stand in from the counts to the fans' expiries, which make `P` again. -/
theorem tick_sustained {Q : State → Prop} (kq : Sustained Q) (kp : Sustained P) (counted : Q (advance t))
    (fans : ∀ {u}, Q u → P (thermalExpiries u)) : P (tick t) :=
  kp.after_busGrant (kp.after_lateExpiries (fans (kq.after_earlyExpiries counted)))

/-! ## Commands -/

/-- What every command leaves for its end keeps the claim too (R21, R138). -/
theorem Sustained.after_conclude {before : State} (h : P t) : P (conclude before t) :=
  k.after_busGrant (k.after_offerAtOff h)

/-- A meaning whose next state meets the claim. -/
def EndsIn (P : State → Prop) (o : Host.Outcome State Fault Refusal) : Prop := ∀ t, o = .next t → P t

theorem Sustained.ends_finish (h : P t) : EndsIn P (finish s t) := by
  intro u hu
  injection hu with hu
  subst hu
  exact k.after_conclude h

theorem Sustained.ends_request {type : Byte} {payload : List Byte} {serve : List Byte → State → State × List Byte}
    (h : P s) (hs : ∀ {p u}, P u → P (serve p u).1) : EndsIn P (finish s (request type serve payload s)) :=
  k.ends_finish (k.after_request hs h)

theorem Sustained.ends_reading {type : Byte} {payload : List Byte} {serve : List Byte → State → State × List Byte}
    (h : P s) (reads : Reads serve) : EndsIn P (finish s (request type serve payload s)) :=
  k.ends_request h fun hu => by rwa [reads]

/-- Every command keeps the claim: one arm for each row of the table. -/
theorem Sustained.exec_ends (c : Instr) (h : P s) : EndsIn P (exec c s) := by
  cases c with
  | powerOnReset straps inputs =>
    intro t ht
    injection ht with ht
    subst ht
    exact k.after_busGrant (k.after_powerOn straps inputs s.pending)
  | ping p => exact k.ends_reading h reads_servePing
  | linkStart p => exact k.ends_request h k.after_serveLinkStart
  | statusGet p => exact k.ends_reading h reads_serveStatusGet
  | controllerRestart p => exact k.ends_finish (k.after_receive k.after_serveRestart h)
  | linkSetup p => exact k.ends_request h k.after_serveLinkSetup
  | queueRead p => exact k.ends_request h k.after_serveQueueRead
  | attnLevelSet p => exact k.ends_request h k.after_serveAttnLevelSet
  | sourcePolicy p => exact k.ends_request h k.after_serveSourcePolicy
  | sourceStatusGet p => exact k.ends_reading h reads_serveSourceStatusGet
  | packStatusGet p => exact k.ends_reading h reads_servePackStatusGet
  | packSnapshot p => exact k.ends_request h k.after_servePackSnapshot
  | packRead p => exact k.ends_finish (k.after_receive k.after_servePackRead h)
  | packWrite p => exact k.ends_finish (k.after_receive k.after_servePackWrite h)
  | profileLoad p => exact k.ends_request h k.after_serveProfileLoad
  | profileExtend p => exact k.ends_request h k.after_serveProfileExtend
  | profileGet p => exact k.ends_reading h reads_serveProfileGet
  | profileAbort p => exact k.ends_request h k.after_serveProfileAbort
  | chargePolicy p => exact k.ends_request h k.after_serveChargePolicy
  | budgetGet p => exact k.ends_reading h reads_serveBudgetGet
  | tempSupply p => exact k.ends_request h k.after_serveTempSupply
  | thermalConfig p => exact k.ends_request h k.after_serveThermalConfig
  | fanCurveSet p => exact k.ends_request h k.after_serveFanCurveSet
  | fanOverride p => exact k.ends_request h k.after_serveFanOverride
  | thermalStatusGet p => exact k.ends_reading h reads_serveThermalStatusGet
  | keyConfig p => exact k.ends_request h k.after_serveKeyConfig
  | keyStateGet p => exact k.ends_reading h reads_serveKeyStateGet
  | keymapSet p => exact k.ends_request h k.after_serveKeymapSet
  | keymapGet p => exact k.ends_reading h reads_serveKeymapGet
  | backlightSet p => exact k.ends_request h k.after_serveBacklightSet
  | wakeConfig p => exact k.ends_request h k.after_serveWakeConfig
  | wakeStatus p => exact k.ends_request h k.after_serveWakeStatus
  | wakeTimerSet p => exact k.ends_request h k.after_serveWakeTimerSet
  | platformRequestTransition value => exact k.ends_request h k.after_serveTransition
  | platformRequestSettings p => exact k.ends_request h k.after_servePlatformSettings
  | faultGet p => exact k.ends_reading h reads_serveFaultGet
  | faultClear p => exact k.ends_request h k.after_serveFaultClear
  | faultMaskSet p => exact k.ends_request h k.after_serveFaultMaskSet
  | containmentSet p => exact k.ends_request h k.after_serveContainmentSet
  | indicatorSet p => exact k.ends_request h k.after_serveIndicatorSet
  | unknownType type p => exact k.ends_reading h reads_serveUnknown
  | framingError => exact k.ends_finish (k.after_framingErrors h)
  | byteOverrun => exact k.ends_finish (k.after_byteOverruns h)
  | skippedByte value => exact k.ends_finish (k.after_countError h)
  | gapTimeout taken => exact k.ends_finish (k.after_gapTimesOut h)
  | lengthFault type length => exact k.ends_finish (k.after_faultyFrame h)
  | checkFault type p check => exact k.ends_finish (k.after_faultyFrame h)
  | replySent => exact k.ends_finish (k.after_replySent h)
  | lineBreak => exact k.ends_finish (k.after_lineBreaks h)
  | barrelDetectChange active reading => exact k.ends_finish (k.after_barrelDetect h)
  | adapterIdentificationChange reading => exact k.ends_finish (k.after_adapterChanges h)
  | portAlert port => exact k.ends_finish (k.after_requestRead h)
  | portReadInterval port => exact k.ends_finish (k.after_portIntervalEnds h)
  | settleTimeReached source => exact k.ends_finish (k.after_sourceSettled h)
  | switchingExpiry => exact k.ends_finish (k.after_switchingExpired h)
  | pSysSample reading => exact k.ends_finish (k.after_pSysSampled h)
  | busAttemptEnd result lineHigh => exact k.ends_finish (k.after_busAttemptEnds h)
  | attemptTimeout lineHigh => exact k.ends_finish (k.after_attemptTimesOut h)
  | busRecoveryEnd lineHigh => exact k.ends_finish (k.after_busRecovers h)
  | packPresenceChange pack active => exact k.ends_finish (k.after_presenceChanges h)
  | identificationDue pack => exact k.ends_finish (k.after_identificationFalls h)
  | pollDue pack => exact k.ends_finish (k.after_pollFalls h)
  | channelFaultInputChange pack active => exact k.ends_finish (k.after_channelFaultChanges h)
  | restEnd pack => exact k.ends_finish (k.after_restEnded h)
  | stageLimitExpiry pack => exact k.ends_finish (k.after_limitExpired h)
  | boardConversion cpu charger skin ambient => exact k.ends_finish (k.after_boardConverted h)
  | freshnessTimeReached sensor => exact k.ends_finish (k.after_freshnessReached h)
  | fanEvaluation => exact k.ends_finish (k.after_evaluateFans h)
  | spinUpEnd fan => exact k.ends_finish (k.after_spinUpEnded h)
  | tachWindowEnd fan pulses => exact k.ends_finish (k.after_tachEnded h)
  | overrideExpiry fan => exact k.ends_finish (k.after_overrideExpired h)
  | scanPassStart => exact k.ends_finish (k.after_passStarts h)
  | scanPassEnd samples => exact k.ends_finish (k.after_passEnds h)
  | typematicExpiry => exact k.ends_finish (k.after_typeExpired h)
  | lidInputChange closed => exact k.ends_finish (k.after_lidInput h)
  | lidSettleExpiry => exact k.ends_finish (k.after_lidSettled h)
  | hingeInputChange hinge active => exact k.ends_finish (k.after_hingeInput h)
  | hingeSettleExpiry hinge => exact k.ends_finish (k.after_hingeSettled h)
  | extInputChange input high => exact k.ends_finish (k.after_extInput h)
  | wakeTimerExpiry => exact k.ends_finish (k.after_wakeTimerExpired h)
  | buttonInputChange pressed => exact k.ends_finish (k.after_buttonInput h)
  | buttonSettleExpiry => exact k.ends_finish (k.after_buttonSettled h)
  | overrideTimeReached => exact k.ends_finish (k.after_overrideTimeReached h)
  | spgRise => exact k.ends_finish (k.after_spgRises h)
  | mpgRise => exact k.ends_finish (k.after_mpgRises h)
  | stepWaitExpiry => exact k.ends_finish (k.after_stepWaitExpired h)
  | powerGoodLoss input => exact k.ends_finish (k.after_powerGoodFalls h)
  | resetHoldExpiry => exact k.ends_finish (k.after_resetHoldExpired h)
  | standbyDelayExpiry => exact k.ends_finish (k.after_standbyDelayExpired h)
  | offDelayExpiry => exact k.ends_finish (k.after_offDelayExpired h)
  | graceExpiry => exact k.ends_finish (k.after_graceExpired h)
  | restartHoldEnd => exact k.ends_finish (k.after_restartHoldEnded h)
  | ledPhaseEnd led => exact k.ends_finish (k.after_phaseEnds h)

/-- And so does every step, where an idle millisecond does. -/
theorem Sustained.step (idle : P s → P (tick s)) (h : P s) (hs : step s = .next t) : P t := by
  cases hp : s.pending with
  | nil =>
    rw [step_idle hp] at hs
    injection hs with hs
    subst hs
    exact idle h
  | cons c rest =>
    rw [step_command hp] at hs
    exact k.exec_ends c (k.view (t := { s with pending := rest }) h rfl) t hs

end Sys2Proof.Machine
end

section
/-! The duty and the applied duty of a fan (R80, R81), as a claim that every command keeps. What makes a duty again
makes the claim from any state, so an operation that changes what R80 reads carries it where FNC follows it. -/

namespace Sys2Proof.Machine

open Sys2Proof.Safety

/-! ## The claim -/

/-- A fan's duty is R80's, and its applied duty R81's. While the count of an idle millisecond is not yet followed by the
end of a spin-up period (`strict` is false), a fan with a duty may have run out of the period and still be driven by it.
-/
def DutyHeld (strict : Bool) (i : FanId) (s : State) : Prop :=
  let f := s.fnc.fan.get i
  f.populated = true →
    f.duty = dutyOf s f ∧ (0 < f.spinLeft → 0 < f.duty ∧ f.applied = max f.duty 500) ∧
      (f.spinLeft = 0 → f.applied = f.duty ∨ (strict = false ∧ 0 < f.duty))

/-- What the claim reads of a fan: all but its curve, its override's time and its tachometer. -/
def dutyPart (f : FanRecord) : Bool × Int × Nat × OverrideMode × Nat × Nat × Nat × Nat × Bool :=
  (f.populated, f.controlTemp, f.curveValue, f.mode, f.overrideDuty, f.duty, f.applied, f.spinLeft, f.failed)

/-- What the claim reads beside the fan itself. -/
def dutyInputs (s : State) : ThermalSettings × ContainmentLevel × PlatformState :=
  (s.thu.settings, s.flt.level, s.psq.state)

variable {strict : Bool} {i j : FanId} {s t u : State}

theorem dutyOk_iff (s : State) (i : FanId) : dutyOk s i = true ↔ DutyHeld true i s := by
  simp only [dutyOk, DutyHeld, Bool.or_eq_true, Bool.not_eq_true', Bool.and_eq_true, beq_iff_eq, decide_eq_true_eq]
  generalize s.fnc.fan.get i = f
  cases f.populated with
  | false => simp
  | true =>
    by_cases spins : 0 < f.spinLeft
    · have spinning : f.spinLeft ≠ 0 := by omega
      simp [spins, spinning]
      tauto
    · have still : f.spinLeft = 0 := by omega
      simp [still]

/-- The duty of a fan is made from those parts alone. -/
theorem dutyOf_congr {f g : FanRecord} (hf : dutyPart g = dutyPart f) (hs : dutyInputs t = dutyInputs s) :
    dutyOf t g = dutyOf s f := by
  simp only [dutyPart, dutyInputs, Prod.mk.injEq] at hf hs
  obtain ⟨-, temp, curve, mode, override, -, -, -, failed⟩ := hf
  obtain ⟨settings, level, state⟩ := hs
  simp only [dutyOf, forcedFull, baseDuty, isOn, temp, curve, mode, override, failed, settings, level, state]
  rfl

theorem DutyHeld.congr (h : DutyHeld strict i s) (hf : dutyPart (t.fnc.fan.get i) = dutyPart (s.fnc.fan.get i))
    (hs : dutyInputs t = dutyInputs s) : DutyHeld strict i t := by
  have duty := dutyOf_congr hf hs
  simp only [dutyPart, Prod.mk.injEq] at hf
  obtain ⟨populated, -, -, -, -, made, applied, spin, -⟩ := hf
  unfold DutyHeld at h ⊢
  simp only [populated, made, applied, spin, duty]
  exact h

/-- An operation that touches neither the fans nor what R80 reads. -/
theorem DutyHeld.untouched (h : DutyHeld strict i s) (e : (t.fnc.fan, dutyInputs t) = (s.fnc.fan, dutyInputs s)) :
    DutyHeld strict i t := by
  obtain ⟨fan, inputs⟩ := Prod.mk.inj e
  exact h.congr (by rw [fan]) inputs

theorem OnlyCharge.dutyHeld (g : OnlyCharge t u) (h : DutyHeld strict i t) : DutyHeld strict i u :=
  h.untouched (by rw [g]; rfl)

/-! ## Making a duty again (R77, R81) -/

/-- What is applied is read by no rule of R80. -/
theorem dutyOf_applyDuty (d : Nat) (f : FanRecord) : dutyOf s (applyDuty d f) = dutyOf s f := by
  unfold applyDuty
  split_ifs <;> rfl

/-- What R81 makes of a duty, from any record. -/
theorem applyDuty_applied (d : Nat) (f : FanRecord) :
    (applyDuty d f).duty = d ∧ (0 < (applyDuty d f).spinLeft → 0 < d ∧ (applyDuty d f).applied = max d 500) ∧
      ((applyDuty d f).spinLeft = 0 → (applyDuty d f).applied = d) := by
  unfold applyDuty
  split_ifs with stopped resting spins
  · simp [stopped]
  · exact ⟨rfl, fun _ => ⟨Nat.pos_of_ne_zero stopped, rfl⟩, fun h => absurd h (by simp [Config.spinUpMs])⟩
  · exact ⟨rfl, fun _ => ⟨Nat.pos_of_ne_zero stopped, rfl⟩, fun h => absurd h spins.ne'⟩
  · exact ⟨rfl, fun h => absurd h spins, fun _ => rfl⟩

theorem remakeFan_get_ne (h : i ≠ j) : (remakeFan j t).fnc.fan.get i = t.fnc.fan.get i := by
  unfold remakeFan
  dsimp only
  split
  · exact PerFan.get_set_ne _ _ h
  · rfl

theorem remakeFan_dutyInputs : dutyInputs (remakeFan j t) = dutyInputs t := by
  unfold remakeFan
  dsimp only
  split <;> rfl

/-- A fan whose duty is made again meets the claim, whatever was before. -/
theorem dutyHeld_remakeFan_same : DutyHeld strict i (remakeFan i t) := by
  by_cases populated : (t.fnc.fan.get i).populated = true
  · have made : (remakeFan i t).fnc.fan.get i = applyDuty (dutyOf t (t.fnc.fan.get i)) (t.fnc.fan.get i) := by
      simp [remakeFan, populated]
    have rule := dutyOf_congr (f := t.fnc.fan.get i) rfl (remakeFan_dutyInputs (j := i) (t := t))
    obtain ⟨duty, spins, rests⟩ := applyDuty_applied (dutyOf t (t.fnc.fan.get i)) (t.fnc.fan.get i)
    intro _
    simp only [made, dutyOf_applyDuty, rule, duty]
    exact ⟨trivial, spins, fun h => .inl (rests h)⟩
  · have stands : remakeFan i t = t := by simp [remakeFan, populated]
    rw [stands]
    exact fun h => absurd h populated

theorem dutyHeld_remakeFan (h : DutyHeld strict i t) : DutyHeld strict i (remakeFan j t) := by
  by_cases same : i = j
  · subst same
    exact dutyHeld_remakeFan_same
  · exact h.congr (by rw [remakeFan_get_ne same]) remakeFan_dutyInputs

/-- A fan record is replaced and its duty made again, as evaluations, curves and overrides do. -/
theorem dutyHeld_remakeFan_set {f : FanRecord} (h : DutyHeld strict i t) :
    DutyHeld strict i (remakeFan j { t with fnc.fan := t.fnc.fan.set j f }) := by
  by_cases same : i = j
  · subst same
    exact dutyHeld_remakeFan_same
  · refine dutyHeld_remakeFan (h.congr ?_ rfl)
    show dutyPart ((t.fnc.fan.set j f).get i) = _
    rw [PerFan.get_set_ne _ _ same]

/-- FNC's handling of a new level, platform state or settings meets the claim, whatever was before. -/
theorem dutyHeld_remakeDuties : DutyHeld strict i (remakeDuties t) := by
  cases i with
  | fan0 => exact dutyHeld_remakeFan dutyHeld_remakeFan_same
  | fan1 => exact dutyHeld_remakeFan_same

/-! ## Reports and charge -/

theorem dutyHeld_raise {n : Notice} (h : DutyHeld strict i t) : DutyHeld strict i (raise n t) :=
  (raise_frame n t).onlyCharge.dutyHeld h

theorem dutyHeld_raiseAll {ns : List Notice} (h : DutyHeld strict i t) : DutyHeld strict i (raiseAll ns t) :=
  (raiseAll_frame ns t).onlyCharge.dutyHeld h

theorem dutyHeld_detectMild {k : FaultKind} {detail : Byte} (h : DutyHeld strict i t) :
    DutyHeld strict i (detectMild k detail t) :=
  (detectMild_frame k detail t).onlyCharge.dutyHeld h

theorem dutyHeld_takeReports {ds : Reports} (h : DutyHeld strict i t) : DutyHeld strict i (takeReports ds t) :=
  (takeReports_frame ds t).onlyCharge.dutyHeld h

theorem dutyHeld_chargeRefresh {force : Bool} {ns : List Notice} (h : DutyHeld strict i t) :
    DutyHeld strict i (chargeRefresh force ns t) :=
  (chargeRefresh_frame force ns t).dutyHeld h

/-! ## Fans -/

theorem dutyHeld_setOverride {mode : OverrideMode} {duty : Nat} {left : Option Nat} (h : DutyHeld strict i t) :
    DutyHeld strict i (setOverride j mode duty left t) := by
  unfold setOverride
  exact dutyHeld_raiseAll (dutyHeld_remakeFan_set h)

theorem dutyHeld_evaluateFan (h : DutyHeld strict i t) : DutyHeld strict i (evaluateFan j t) := by
  unfold evaluateFan
  exact holds_ite (dutyHeld_remakeFan_set h) h

theorem dutyHeld_takeCurve {curve : List CurvePoint} {hysteresis : Nat} {mask : Byte} (h : DutyHeld strict i t) :
    DutyHeld strict i (takeCurve j curve hysteresis mask t) := by
  unfold takeCurve
  exact dutyHeld_remakeFan_set h

theorem dutyHeld_toggleBoost (h : DutyHeld strict i t) : DutyHeld strict i (toggleBoost t).1 := by
  unfold toggleBoost endBoost startBoost
  have ended {u : State} {j : FanId} {c : Prop} [Decidable c] (hu : DutyHeld strict i u) :
      DutyHeld strict i (if c then setOverride j .auto 0 (some 0) u else u) := holds_ite (dutyHeld_setOverride hu) hu
  have started {u : State} {j : FanId} {c : Prop} [Decidable c] (hu : DutyHeld strict i u) :
      DutyHeld strict i (if c then setOverride j .boost Config.boostDuty (some Config.boostSeconds) u else u) :=
    holds_ite (dutyHeld_setOverride hu) hu
  exact holds_fst_ite (ended (ended h)) (started (started h))

theorem dutyHeld_applyDerate (h : DutyHeld strict i t) : DutyHeld strict i (applyDerate t) := by
  unfold applyDerate
  exact holds_ite h (dutyHeld_raise (dutyHeld_chargeRefresh (h.untouched rfl)))

/-- One fan record is replaced by one that differs in nothing the claim reads. -/
theorem dutyHeld_setFan {f : FanRecord} (same : i = j → dutyPart f = dutyPart (t.fnc.fan.get j))
    (h : DutyHeld strict i t) : DutyHeld strict i { t with fnc.fan := t.fnc.fan.set j f } := by
  refine h.congr ?_ rfl
  show dutyPart ((t.fnc.fan.set j f).get i) = _
  by_cases e : i = j
  · subst e
    rw [PerFan.get_set_same, same rfl]
  · rw [PerFan.get_set_ne _ _ e]

theorem dutyHeld_spinUpEnded (h : DutyHeld strict i t) : DutyHeld strict i (spinUpEnded j t) := by
  unfold spinUpEnded modFan
  by_cases e : i = j
  · subst e
    dsimp only
    split
    next spins =>
      intro populated
      simp only [PerFan.get_set_same] at populated ⊢
      obtain ⟨duty, -, -⟩ := h populated
      exact ⟨duty, fun impossible => absurd impossible (lt_irrefl 0), by simp⟩
    next => exact dutyHeld_setFan (fun _ => rfl) h
  · exact dutyHeld_setFan (fun same => absurd same e) h

/-- A window that leaves a fan's health as it was leaves its duty's inputs. -/
theorem dutyPart_windowEnded {pulses : Nat} {f : FanRecord} (same : (windowEnded pulses f).failed = f.failed) :
    dutyPart (windowEnded pulses f) = dutyPart f := by
  have counted : dutyPart (windowEnded pulses f) = dutyPart { f with failed := (windowEnded pulses f).failed } := by
    unfold windowEnded countWindow
    dsimp only
    split_ifs <;> rfl
  rw [counted, same]

theorem dutyHeld_judgeStallEnd (h : DutyHeld strict i t) : DutyHeld strict i (judgeStallEnd t) := by
  unfold judgeStallEnd
  exact holds_ite h (h.untouched rfl)

theorem dutyHeld_tachEnded {pulses : Nat} (h : DutyHeld strict i t) : DutyHeld strict i (tachEnded j pulses t) := by
  unfold tachEnded modFan healthChanged
  refine holds_ite ?_ h
  dsimp only
  split
  next same => exact dutyHeld_judgeStallEnd (dutyHeld_setFan (fun _ => dutyPart_windowEnded same) h)
  next =>
    by_cases e : i = j
    · subst e
      exact dutyHeld_remakeFan_same
    · have counted := dutyHeld_setFan (f := windowEnded pulses (t.fnc.fan.get j)) (fun same => absurd same e) h
      exact dutyHeld_remakeFan (dutyHeld_applyDerate (holds_ite (dutyHeld_raise (dutyHeld_detectMild counted))
        (dutyHeld_raise (dutyHeld_judgeStallEnd counted))))

theorem dutyHeld_takeThermal {settings : ThermalSettings} {table : Vector DerateEntry 4} :
    DutyHeld strict i (takeThermal settings table t) := dutyHeld_remakeDuties

theorem dutyHeld_cancelOverride (h : DutyHeld strict i t) : DutyHeld strict i (cancelOverride j t) := by
  unfold cancelOverride
  exact holds_ite h (dutyHeld_setOverride h)

/-- FNC makes both duties at every change of the platform state, whatever was before (R77). -/
theorem dutyHeld_fansTakeState {leaving : Bool} : DutyHeld strict i (fansTakeState leaving t) := by
  unfold fansTakeState
  exact dutyHeld_remakeDuties

/-! ## Containment (R167) -/

theorem dutyHeld_setLevel {l : ContainmentLevel} (h : DutyHeld strict i t) : DutyHeld strict i (setLevel l t) := by
  unfold setLevel
  exact holds_ite h ((dutyHeld_remakeDuties (t := chargeRefresh true [] { t with flt.level := l })).untouched rfl)

theorem dutyHeld_raiseLevel (h : DutyHeld strict i t) : DutyHeld strict i (raiseLevel t) := by
  unfold raiseLevel
  exact holds_ite (dutyHeld_setLevel h) h

theorem dutyHeld_releaseAtStart (h : DutyHeld strict i t) : DutyHeld strict i (releaseAtStart t) := by
  unfold releaseAtStart
  exact holds_ite h (dutyHeld_setLevel h)

/-! ## The keyboard (R92 to R124) -/

theorem dutyHeld_offerKey {e : KeyEvent} (h : DutyHeld strict i t) : DutyHeld strict i (offerKey e t) := by
  unfold offerKey
  exact holds_ite (h.untouched rfl) (h.untouched rfl)

theorem dutyHeld_handRelease {synthetic : Bool} {p : Position} {code : Byte} {layer : Bool}
    (h : DutyHeld strict i t) : DutyHeld strict i (handRelease synthetic p code layer t) := by
  have queued : DutyHeld strict i (queueEvent .release code layer synthetic p t.uptime t) := dutyHeld_offerKey h
  unfold handRelease typeRelease
  exact holds_ite (holds_ite (queued.untouched rfl) queued) h

theorem dutyHeld_setScanMode {m : ScanMode} (h : DutyHeld strict i t) : DutyHeld strict i (setScanMode m t) := by
  unfold setScanMode
  exact holds_ite h (h.untouched rfl)

theorem dutyHeld_withScanner {k : Scanner} (h : DutyHeld strict i t) : DutyHeld strict i { t with kbs := k } :=
  h.untouched rfl

theorem dutyHeld_syntheticRelease {p : Position} (h : DutyHeld strict i t) :
    DutyHeld strict i (syntheticRelease t p) := by
  unfold syntheticRelease
  exact dutyHeld_handRelease (dutyHeld_withScanner h)

theorem dutyHeld_beginSuppression {m : ScanMode} (h : DutyHeld strict i t) :
    DutyHeld strict i (beginSuppression m t) := by
  have released := holds_foldl (P := DutyHeld strict i) (f := syntheticRelease) (reportedSet (setScanMode m t).kbs)
    dutyHeld_syntheticRelease (dutyHeld_setScanMode (m := m) h)
  exact released.untouched rfl

theorem dutyHeld_endSuppression {m : ScanMode} (h : DutyHeld strict i t) : DutyHeld strict i (endSuppression m t) :=
  (dutyHeld_setScanMode (m := m) h).untouched rfl

theorem dutyHeld_updateKeyboard (h : DutyHeld strict i t) : DutyHeld strict i (updateKeyboard t) := by
  unfold updateKeyboard
  exact holds_ite (dutyHeld_beginSuppression (dutyHeld_withScanner h))
    (holds_ite (dutyHeld_endSuppression (dutyHeld_withScanner h)) (dutyHeld_setScanMode (dutyHeld_withScanner h)))

theorem dutyHeld_passStarts (h : DutyHeld strict i t) : DutyHeld strict i (passStarts t) := by
  unfold passStarts
  exact holds_ite (h.untouched rfl) h

theorem dutyHeld_typePress {p : Position} {code : Byte} {layer : Bool} (h : DutyHeld strict i t) :
    DutyHeld strict i (typePress p code layer t) := by
  unfold typePress
  exact holds_ite h (h.untouched rfl)

theorem dutyHeld_runAction {code : Byte} {p : Position} {layer : Bool} (h : DutyHeld strict i t) :
    DutyHeld strict i (runAction code p layer t) := by
  unfold runAction
  split
  · exact dutyHeld_raise (h.untouched rfl)
  · exact dutyHeld_raise (dutyHeld_toggleBoost h)
  · exact dutyHeld_raise (dutyHeld_chargeRefresh (h.untouched rfl))
  · exact dutyHeld_raise (h.untouched rfl)
  · exact h

theorem dutyHeld_handPress {p : Position} {code : Byte} {layer : Bool} {stamp : Stamp} (h : DutyHeld strict i t) :
    DutyHeld strict i (handPress p code layer stamp t) := by
  unfold handPress queueEvent
  exact holds_ite (dutyHeld_typePress (dutyHeld_offerKey h)) (holds_ite (dutyHeld_runAction h) h)

theorem dutyHeld_completePress {p : Position} (h : DutyHeld strict i t) : DutyHeld strict i (completePress p t) := by
  unfold completePress handRollover queueEvent
  exact holds_ite (dutyHeld_withScanner h)
    (holds_ite (dutyHeld_offerKey (dutyHeld_withScanner h)) (dutyHeld_handPress (dutyHeld_withScanner h)))

theorem dutyHeld_evaluatePosition {mode : ScanMode} {wakes : Nat} {p : Position} (h : DutyHeld strict i t) :
    DutyHeld strict i (evaluatePosition mode (t, wakes) p).1 := by
  have moved (k : Scanner) : DutyHeld strict i { t with kbs := k } := dutyHeld_withScanner h
  unfold evaluatePosition
  dsimp only
  split
  case h_1 | h_2 =>
    exact holds_fst_ite (holds_fst_ite (holds_fst_ite (dutyHeld_completePress (moved _)) (moved _)) (moved _)) (moved _)
  case h_3 | h_4 => exact holds_fst_ite (moved _) (holds_fst_ite (dutyHeld_handRelease (moved _)) (moved _))
  case h_5 | h_6 => exact holds_fst_ite (moved _) (holds_fst_ite (moved _) (moved _))

theorem dutyHeld_evaluatePass {raw : Samples} (h : DutyHeld strict i t) : DutyHeld strict i (evaluatePass raw t).1 := by
  have folded (mode : ScanMode) (ps : List Position) {u : State} {wakes : Nat} (hu : DutyHeld strict i u) :
      DutyHeld strict i (ps.foldl (evaluatePosition mode) (u, wakes)).1 := by
    induction ps generalizing u wakes with
    | nil => exact hu
    | cons p ps ih => exact ih (dutyHeld_evaluatePosition hu)
  unfold evaluatePass
  exact folded _ _ (dutyHeld_withScanner h)

/-! ## The platform (R133 to R160) -/

theorem dutyHeld_clearPending (h : DutyHeld strict i t) : DutyHeld strict i (clearPending t) := by
  unfold clearPending resetHeld markSource
  exact holds_foldl _ (fun hu => holds_ite (hu.untouched rfl) hu) (h.untouched rfl)

theorem dutyHeld_judgeTripEnd (h : DutyHeld strict i t) : DutyHeld strict i (judgeTripEnd t) := by
  unfold judgeTripEnd
  exact holds_ite (h.untouched rfl) h

/-- A change of the platform state makes both duties, whatever was before: what follows leaves them (R147). -/
theorem dutyHeld_changeState {new : PlatformState} : DutyHeld strict i (changeState new t) := by
  unfold changeState thermalLeaveOn
  extract_lets old last t1 t2 t3 t4 t5
  have made : DutyHeld strict i t3 := dutyHeld_fansTakeState
  clear_value t3
  have left := dutyHeld_judgeTripEnd (made.untouched (t := endFault .supplyStale
    (setSensor 5 (leaveOnSensor t3.thu.sensors[5]) (setSensor 4 (leaveOnSensor t3.thu.sensors[4]) t3))) rfl)
  have h4 : DutyHeld strict i t4 := holds_ite left (holds_ite (made.untouched rfl) made)
  exact holds_ite (h4.untouched rfl) (h4.untouched rfl)

theorem dutyHeld_endGrace {event : Nat} {off : Bool} (h : DutyHeld strict i t) :
    DutyHeld strict i (endGrace event off t) := by
  unfold endGrace
  split
  · exact h
  · exact (dutyHeld_raise (h.untouched (t := { t with psq.grace := none }) rfl)).untouched rfl

theorem dutyHeld_markSource {w : WakeSource} (h : DutyHeld strict i t) : DutyHeld strict i (markSource w t) :=
  h.untouched rfl

theorem dutyHeld_refreshChargeLed (h : DutyHeld strict i t) : DutyHeld strict i (refreshChargeLed t) := h.untouched rfl

theorem dutyHeld_beginGrace (h : DutyHeld strict i t) : DutyHeld strict i (beginGrace t) := by
  unfold beginGrace
  have begun : DutyHeld strict i { t with psq.grace := some (t.psq.settings.grace * 1000) } := h.untouched rfl
  exact dutyHeld_refreshChargeLed (dutyHeld_markSource (dutyHeld_raise begun))

theorem dutyHeld_enterMpgWait (h : DutyHeld strict i t) : DutyHeld strict i (enterMpgWait t) := by
  unfold enterMpgWait
  exact holds_ite (h.untouched rfl) (h.untouched rfl)

theorem dutyHeld_takeStart : DutyHeld strict i (takeStart t) := by
  unfold takeStart
  extract_lets t0 wake t1 t2 t3
  have h2 : DutyHeld strict i t2 := dutyHeld_releaseAtStart (dutyHeld_clearPending dutyHeld_changeState)
  clear_value t2
  have h3 : DutyHeld strict i t3 := holds_ite (dutyHeld_beginGrace h2) h2
  exact holds_ite (dutyHeld_enterMpgWait h3) h3

theorem dutyHeld_offerWake (h : DutyHeld strict i t) : DutyHeld strict i (offerWake t) := by
  unfold offerWake
  refine holds_ite h ?_
  split
  · exact dutyHeld_enterMpgWait (dutyHeld_clearPending dutyHeld_changeState)
  · exact holds_ite dutyHeld_takeStart (h.untouched rfl)
  · exact h

theorem dutyHeld_settingEvent {w : WakeSource} (h : DutyHeld strict i t) : DutyHeld strict i (settingEvent w t) := by
  unfold settingEvent
  exact holds_ite (dutyHeld_offerWake (dutyHeld_markSource h)) (dutyHeld_markSource h)

theorem dutyHeld_arriveOff : DutyHeld strict i (arriveOff t) := by
  unfold arriveOff
  extract_lets sequencer t1
  have h1 : DutyHeld strict i t1 := dutyHeld_changeState
  exact dutyHeld_endGrace (dutyHeld_raise (h1.untouched rfl))

theorem dutyHeld_forcedStop {cause : StopCause} (h : DutyHeld strict i t) : DutyHeld strict i (forcedStop cause t) := by
  unfold forcedStop
  exact holds_ite h dutyHeld_arriveOff

theorem dutyHeld_contain {k : FaultKind} (h : DutyHeld strict i t) : DutyHeld strict i (contain k t) := by
  unfold contain
  split
  · exact h
  · exact dutyHeld_raiseLevel h
  · exact dutyHeld_setLevel h
  · exact dutyHeld_raiseLevel (dutyHeld_forcedStop h)

theorem dutyHeld_detect {k : FaultKind} {detail : Byte} (h : DutyHeld strict i t) :
    DutyHeld strict i (detect k detail t) := by
  unfold detect detectWith
  have recorded : DutyHeld strict i { t with flt := t.flt.set k (recordedFault k detail t.uptime (t.flt.get k)) } :=
    h.untouched rfl
  have shown := (dutyHeld_contain (k := k) recorded).untouched (t := refreshChargeLed _) rfl
  exact holds_ite (holds_ite (dutyHeld_contain recorded) (holds_ite shown (dutyHeld_raise shown)))
    (dutyHeld_detectMild h)

theorem dutyHeld_judgeTrip (h : DutyHeld strict i t) : DutyHeld strict i (judgeTrip t) := by
  unfold judgeTrip
  exact holds_ite (dutyHeld_raise (dutyHeld_detect (h.untouched rfl))) (dutyHeld_judgeTripEnd h)

theorem dutyHeld_judgeWakeCondition (h : DutyHeld strict i t) : DutyHeld strict i (judgeWakeCondition t) := by
  unfold judgeWakeCondition
  have judged : DutyHeld strict i { t with thu.wakeCondition := wakeHolds t.thu } := h.untouched rfl
  exact holds_ite h (holds_ite (dutyHeld_settingEvent judged) judged)

theorem dutyHeld_arriveOn : DutyHeld strict i (arriveOn t) := by
  unfold arriveOn
  exact dutyHeld_judgeTrip (dutyHeld_raise (dutyHeld_raise dutyHeld_changeState))

theorem dutyHeld_postureChanged {old : Posture} (h : DutyHeld strict i t) :
    DutyHeld strict i (postureChanged old t) := by
  unfold postureChanged
  exact holds_ite h (dutyHeld_updateKeyboard (dutyHeld_raise h))

theorem dutyHeld_lidChanged {closed : Bool} (h : DutyHeld strict i t) : DutyHeld strict i (lidChanged closed t) := by
  unfold lidChanged
  extract_lets posture unit t1
  have told : DutyHeld strict i t1 := dutyHeld_raise (h.untouched rfl)
  exact dutyHeld_postureChanged (holds_ite told (dutyHeld_settingEvent told))

theorem dutyHeld_hingeDecoded {oldPair : Option Posture} (h : DutyHeld strict i t) :
    DutyHeld strict i (hingeDecoded oldPair t) := by
  unfold hingeDecoded
  extract_lets pair hinge unit t1 t2
  have decoded : DutyHeld strict i t1 := h.untouched rfl
  have judged : DutyHeld strict i t2 :=
    holds_ite (dutyHeld_detectMild decoded) (holds_ite (decoded.untouched rfl) decoded)
  exact dutyHeld_postureChanged judged

theorem dutyHeld_serveTransition {p : List Byte} (h : DutyHeld strict i t) :
    DutyHeld strict i (serveTransition p t).1 := by
  unfold serveTransition takeTransition
  exact holds_fst_ite h (holds_fst_ite h (holds_ite dutyHeld_changeState dutyHeld_changeState))

/-! ## Reporting memory and bring-up (R90, R193 to R197) -/

theorem dutyHeld_serveLinkSetup {p : List Byte} (h : DutyHeld strict i t) :
    DutyHeld strict i (serveLinkSetup p t).1 := by
  unfold serveLinkSetup layOut
  exact holds_fst_ite h (holds_fst_ite h (holds_fst_ite h
    (holds_ite (dutyHeld_detectMild (h.untouched rfl)) (h.untouched rfl))))

theorem dutyHeld_readWords {queue : Byte} {words : List WordCheck} (h : DutyHeld strict i t) :
    DutyHeld strict i (readWords queue words t).1 :=
  dutyHeld_takeReports (h.untouched rfl)

theorem dutyHeld_readKeys {fuel want : Nat} (h : DutyHeld strict i t) :
    DutyHeld strict i (readKeys fuel want t).1 := by
  induction fuel generalizing want t with
  | zero => exact h
  | succ fuel ih =>
    cases want with
    | zero => exact h
    | succ want =>
      unfold readKeys
      split
      · exact h
      · exact holds_fst_ite (ih (dutyHeld_readWords (h.untouched rfl))) (ih (dutyHeld_readWords (h.untouched rfl)))

theorem dutyHeld_readNotices {fuel want : Nat} (h : DutyHeld strict i t) :
    DutyHeld strict i (readNotices fuel want t).1 := by
  induction fuel generalizing want t with
  | zero => exact h
  | succ fuel ih =>
    cases want with
    | zero => exact h
    | succ want =>
      unfold readNotices
      split
      · exact h
      · exact holds_fst_ite (ih (dutyHeld_readWords (h.untouched rfl))) (ih (dutyHeld_readWords (h.untouched rfl)))

theorem dutyHeld_serveQueueRead {p : List Byte} (h : DutyHeld strict i t) :
    DutyHeld strict i (serveQueueRead p t).1 := by
  unfold serveQueueRead readKeyQueue readNoticeQueue
  exact holds_fst_ite h (holds_fst_ite h (holds_fst_ite ((dutyHeld_readKeys h).untouched rfl)
    ((dutyHeld_readNotices h).untouched rfl)))

theorem dutyHeld_bringFan_same : DutyHeld strict i (bringFan i t) := by
  unfold bringFan
  dsimp only
  split
  · exact dutyHeld_remakeFan_same
  · next unpopulated => exact fun populated => absurd populated unpopulated

theorem dutyHeld_bringFan (h : DutyHeld strict i t) : DutyHeld strict i (bringFan j t) := by
  unfold bringFan
  exact holds_ite (dutyHeld_remakeFan_set h) h

/-- The bring-up makes both duties, from any first values (R90). -/
theorem dutyHeld_bringUp : DutyHeld strict i (bringUp t) := by
  unfold bringUp bringConditions
  extract_lets t1 t2 t3 t4
  have made : DutyHeld strict i t3 := by
    cases i with
    | fan0 => exact dutyHeld_bringFan dutyHeld_bringFan_same
    | fan1 => exact dutyHeld_bringFan_same
  clear_value t3
  have told : DutyHeld strict i t4 := holds_ite (made.untouched rfl) (made.untouched rfl)
  exact dutyHeld_judgeWakeCondition (dutyHeld_judgeTrip (told.untouched rfl))

/-! ## Every command -/

theorem sustained_dutyHeld : Sustained (DutyHeld strict i) where
  view h e := h.untouched (congrArg (fun v : ClaimView => (v.fan, v.thermal, v.level, v.state)) e)
  after_raise h := dutyHeld_raise h
  after_endFault h := h.untouched rfl
  after_detect h := dutyHeld_detect h
  after_offerKey h := dutyHeld_offerKey h
  after_markSource h := h.untouched rfl
  after_clearSource h := h.untouched rfl
  after_putEnables h := h.untouched rfl
  after_offerWake h := dutyHeld_offerWake h
  after_forcedStop h := dutyHeld_forcedStop h
  after_lidChanged h := dutyHeld_lidChanged h
  after_hingeDecoded h := dutyHeld_hingeDecoded h
  after_evaluatePass h := dutyHeld_evaluatePass h
  after_passStarts h := dutyHeld_passStarts h
  after_serveKeyConfig h := by
    unfold serveKeyConfig takeKeySettings
    exact holds_fst_ite h (holds_fst_ite h (holds_fst_ite h (holds_fst_ite h
      (holds_ite (h.untouched rfl) (h.untouched rfl)))))
  after_setOverride h := dutyHeld_setOverride h
  after_evaluateFan h := dutyHeld_evaluateFan h
  after_takeCurve h := dutyHeld_takeCurve h
  after_spinUpEnded h := dutyHeld_spinUpEnded h
  after_tachEnded h := dutyHeld_tachEnded h
  after_takeThermal _ := dutyHeld_takeThermal
  after_serveLinkSetup h := dutyHeld_serveLinkSetup h
  after_serveQueueRead h := dutyHeld_serveQueueRead h
  after_serveAttnLevelSet h := by
    unfold serveAttnLevelSet
    exact holds_fst_ite h (holds_fst_ite h (h.untouched rfl))
  after_resetHoldExpired h := by
    unfold resetHoldExpired
    exact holds_ite dutyHeld_arriveOn h
  after_standbyDelayExpired h := by
    unfold standbyDelayExpired arriveStandby
    exact holds_ite (dutyHeld_offerWake (dutyHeld_raise dutyHeld_changeState)) h
  after_offDelayExpired h := by
    unfold offDelayExpired
    exact holds_ite dutyHeld_arriveOff h
  after_spgRises h := by
    unfold spgRises
    exact holds_ite (dutyHeld_enterMpgWait (h.untouched rfl)) (h.untouched rfl)
  after_mpgRises h := by
    unfold mpgRises
    exact holds_ite (h.untouched rfl) (h.untouched rfl)
  after_serveTransition h := dutyHeld_serveTransition h
  after_clearNamed h := h.untouched rfl
  after_releaseAtClear h := by
    unfold releaseAtClear
    exact holds_ite h (dutyHeld_setLevel h)
  after_serveFaultMaskSet h := by
    unfold serveFaultMaskSet
    exact holds_fst_ite h (holds_fst_ite h (holds_fst_ite h (h.untouched rfl)))
  after_controllerRestart _ := dutyHeld_bringUp
  after_powerOn _ _ _ := dutyHeld_bringUp

/-! ## An idle millisecond (R81, log 1) -/

/-- The count may run a spin-up period out, and moves nothing else that the claim reads. -/
theorem dutyHeld_advance (h : DutyHeld true i t) : DutyHeld false i (advance t) := by
  have counted : (advance t).fnc.fan.get i = countFan (t.fnc.fan.get i) := by cases i <;> rfl
  have part (f : FanRecord) : dutyPart (countFan f) = dutyPart { f with spinLeft := f.spinLeft - 1 } := by
    unfold countFan
    dsimp only
    split_ifs <;> rfl
  have run : DutyHeld false i (modFan i (fun f => { f with spinLeft := f.spinLeft - 1 }) t) := by
    unfold modFan
    intro populated
    simp only [PerFan.get_set_same] at populated ⊢
    obtain ⟨duty, spins, rests⟩ := h populated
    refine ⟨duty, fun left => spins (by omega), fun out => ?_⟩
    by_cases left : 0 < (t.fnc.fan.get i).spinLeft
    · exact .inr (by simpa using (spins left).1)
    · exact .inl ((rests (by omega)).resolve_right (by simp))
  refine run.congr ?_ rfl
  rw [counted, part]
  unfold modFan
  simp only [PerFan.get_set_same]

theorem dutyHeld_overrideExpired (h : DutyHeld strict i t) : DutyHeld strict i (overrideExpired j t) := by
  unfold overrideExpired
  exact holds_ite (dutyHeld_cancelOverride h) h

/-- A fan that is driven above a duty out of its spin-up period. -/
theorem spinUpDue_iff : spinUpDue i t = true ↔
    0 < (t.fnc.fan.get i).duty ∧ (t.fnc.fan.get i).spinLeft = 0 ∧
      (t.fnc.fan.get i).applied ≠ (t.fnc.fan.get i).duty := by
  simp [spinUpDue, and_assoc]

theorem dutyHeld_spinUpRunsOut_ne (e : i ≠ j) (h : DutyHeld strict i t) : DutyHeld strict i (spinUpRunsOut j t) := by
  unfold spinUpRunsOut modFan
  exact dutyHeld_setFan (fun same => absurd same e) h

/-- The end of a spin-up period that has run out. -/
theorem dutyHeld_spinUpRunsOut_same (still : (t.fnc.fan.get i).spinLeft = 0) (h : DutyHeld false i t) :
    DutyHeld true i (spinUpRunsOut i t) := by
  intro populated
  simp only [spinUpRunsOut, modFan, PerFan.get_set_same] at populated ⊢
  obtain ⟨duty, -, -⟩ := h populated
  exact ⟨duty, fun spins => absurd still spins.ne', by simp⟩

/-- The spin-up expiry, taken where it is due, closes what the count left open. -/
theorem dutyHeld_whenSpinUpDue (h : DutyHeld false i t) :
    DutyHeld true i (whenDue (spinUpDue i) (spinUpRunsOut i) t) := by
  unfold whenDue
  split
  next due =>
    obtain ⟨-, still, -⟩ := spinUpDue_iff.mp due
    exact sustained_dutyHeld.after_offerAtOff (dutyHeld_spinUpRunsOut_same still h)
  next settled =>
    intro populated
    obtain ⟨duty, spins, rests⟩ := h populated
    refine ⟨duty, spins, fun still => .inl ?_⟩
    by_contra driven
    rcases rests still with equal | ⟨-, turning⟩
    · exact driven equal
    · exact settled (spinUpDue_iff.mpr ⟨turning, still, driven⟩)

/-- The expiries of one fan: its spin-up period, then its override. -/
def fanExpiries (j : FanId) (s : State) : State :=
  whenDue (overrideDue j) (overrideExpired j) (whenDue (spinUpDue j) (spinUpRunsOut j) s)

theorem dutyHeld_fanExpiries_same (h : DutyHeld false i t) : DutyHeld true i (fanExpiries i t) :=
  sustained_dutyHeld.after_whenDue dutyHeld_overrideExpired (dutyHeld_whenSpinUpDue h)

theorem dutyHeld_fanExpiries_ne (e : i ≠ j) (h : DutyHeld strict i t) : DutyHeld strict i (fanExpiries j t) :=
  sustained_dutyHeld.after_whenDue dutyHeld_overrideExpired
    (sustained_dutyHeld.after_whenDue (dutyHeld_spinUpRunsOut_ne e) h)

theorem dutyHeld_thermalExpiries (h : DutyHeld false i t) : DutyHeld true i (thermalExpiries t) := by
  have k : Sustained (DutyHeld false i) := sustained_dutyHeld
  unfold thermalExpiries
  extract_lets t1 t2
  have evaluated : DutyHeld false i t2 := k.after_whenDue k.after_evaluateFans
    (holds_foldl (P := DutyHeld false i) _ (k.after_whenDue k.after_freshnessReached) h)
  clear_value t2
  show DutyHeld true i (fanExpiries .fan1 (fanExpiries .fan0 t2))
  cases i with
  | fan0 => exact dutyHeld_fanExpiries_ne (by simp) (dutyHeld_fanExpiries_same evaluated)
  | fan1 => exact dutyHeld_fanExpiries_same (dutyHeld_fanExpiries_ne (by simp) evaluated)

theorem dutyHeld_tick (h : DutyHeld true i t) : DutyHeld true i (tick t) :=
  tick_sustained (sustained_dutyHeld (strict := false)) sustained_dutyHeld (dutyHeld_advance h) dutyHeld_thermalExpiries

theorem dutyHeld_step (h : DutyHeld true i s) (hs : step s = .next t) : DutyHeld true i t :=
  sustained_dutyHeld.step dutyHeld_tick h hs

end Sys2Proof.Machine
end

section
namespace Sys2Proof.Proofs

open Sys2Proof.Machine Sys2Proof.Safety

/-- Settles O11: what makes a duty again meets R80 and R81 from any state (`dutyHeld_remakeFan_same`), every other
operation leaves what they read (`sustained_dutyHeld`), and an idle millisecond ends the spin-up periods it runs out. -/
theorem fanDutyFollowsTheState : Obligations.FanDutyFollowsTheState := by
  unfold Obligations.FanDutyFollowsTheState
  intro s t h hs i
  exact (dutyOk_iff t i).mpr (dutyHeld_step ((dutyOk_iff s i).mp (h i)) hs)

end Sys2Proof.Proofs
end

section
/-! The reads of the platform records (R86, R89, R105, R107, R113, R127, R141, R161, R172, R174, R175). -/

namespace Sys2Proof.Proofs

open Sys2Proof.Machine Sys2Proof.Safety

theorem byte_ne_zero {b : Byte} (h : b ≠ 0) : b.toNat ≠ 0 := fun z => h (BitVec.eq_of_toNat_eq z)

theorem serve_keymapGet {first most : Byte} {s : State} (hf : first.toNat < positionCount s) (hm : most ≠ 0) :
    serveKeymapGet [first, most] s =
      (s, [doneStatus (decide (min (min 16 most.toNat) (positionCount s - first.toNat) < most.toNat)), first,
        byteOf (min (min 16 most.toNat) (positionCount s - first.toNat))] ++
        (((s.kbs.map.toList.drop first.toNat).take (min (min 16 most.toNat) (positionCount s - first.toNat))).map
          mapEntryBytes).flatten) := by
  simp [serveKeymapGet, byteAt, byteOf_toNat, Nat.not_le.mpr hf, byte_ne_zero hm]

theorem serve_faultGet {first most : Byte} {s : State} (hf : first.toNat ≤ 19) (hm : most ≠ 0) :
    serveFaultGet [first, most] s =
      (s, doneStatus (decide (min (min 5 most.toNat) (20 - first.toNat) < most.toNat)) :: faultSummary s ++
        [first, byteOf (min (min 5 most.toNat) (20 - first.toNat))] ++
        (((s.flt.record.toList.drop first.toNat).take (min (min 5 most.toNat) (20 - first.toNat))).map
          faultBytes).flatten) := by
  simp [serveFaultGet, byteAt, byteOf_toNat, Nat.not_lt.mpr hf, byte_ne_zero hm]

/-- The status byte of a request that is done, with the bytes adjusted or not. -/
theorem doneStatus_decide {p : Prop} [Decidable p] : doneStatus (decide p) = if p then 1 else 0 := by
  by_cases h : p <;> simp [doneStatus, h] <;> rfl

/-- Settles O33: each request by what it serves. -/
theorem platformRecordsAreReadWithoutEffect : Obligations.PlatformRecordsAreReadWithoutEffect := by
  intro first most s h
  refine ⟨?thermal, ?keys, fun hf hm => ?map, fun hf hm => ?faults, ?summary, ?thermalConfig, ?keyConfig, ?backlight,
    ?wake, ?platform, ?masks, ?containment, ?charge⟩
  case map =>
    refine finish_read h ((serve_keymapGet (s := huntAgain s) hf hm).trans ?_)
    rw [doneStatus_decide]
    rfl
  case faults =>
    refine finish_read h ((serve_faultGet (s := huntAgain s) hf hm).trans ?_)
    rw [doneStatus_decide]
    rfl
  all_goals exact finish_read h rfl

end Sys2Proof.Proofs
end

section
/-! What FNC's operations do to a fan record and to the rest of the state (R77 to R83). -/

namespace Sys2Proof.Machine

open Sys2Proof.Safety

variable {i j : FanId} {s t u : State} {f : FanRecord}

@[simp] theorem PerFan.set_set {α : Type} (x : PerFan α) (i : FanId) (v w : α) : (x.set i v).set i w = x.set i w := by
  cases i <;> rfl

/-! ## The duty (R80, R81) -/

/-- A new duty moves the duty, what is applied, the spin-up period and the window in progress. -/
theorem applyDuty_eq (d : Nat) (f : FanRecord) :
    applyDuty d f =
      { f with
        duty := d, applied := (applyDuty d f).applied, spinLeft := (applyDuty d f).spinLeft
        windowSpin := (applyDuty d f).windowSpin, windowDriven := (applyDuty d f).windowDriven } := by
  unfold applyDuty
  split_ifs with stopped
  · rw [stopped]
  all_goals rfl

theorem remakeFan_eq (populated : (t.fnc.fan.get i).populated = true) :
    remakeFan i t =
      { t with fnc.fan := t.fnc.fan.set i (applyDuty (dutyOf t (t.fnc.fan.get i)) (t.fnc.fan.get i)) } :=
  if_pos populated

theorem remakeFan_unpopulated (h : (t.fnc.fan.get i).populated = false) : remakeFan i t = t := by
  simp [remakeFan, h]

/-- A fan's record becomes `f`, and its duty is made again. -/
theorem remakeFan_set (populated : f.populated = true) :
    remakeFan i { t with fnc.fan := t.fnc.fan.set i f } =
      { t with fnc.fan := t.fnc.fan.set i (applyDuty (dutyOf t f) f) } := by
  rw [remakeFan_eq (by simpa using populated)]
  simp only [PerFan.get_set_same, PerFan.set_set]
  rfl

/-! ## Evaluations (R77 to R79) -/

/-- The highest value among those that count, or the one to start with. -/
theorem foldl_highest {α : Type} (counts : α → Bool) (value : α → Int) (xs : List α) (t : Int) :
    let r := xs.foldl (fun t x => if counts x then max t (value x) else t) t
    t ≤ r ∧ (∀ x ∈ xs, counts x = true → value x ≤ r) ∧ (r = t ∨ ∃ x ∈ xs, counts x = true ∧ value x = r) := by
  induction xs generalizing t with
  | nil => simp
  | cons x xs ih =>
    obtain ⟨above, each, found⟩ := ih (if counts x then max t (value x) else t)
    simp only [List.foldl_cons, List.forall_mem_cons]
    generalize xs.foldl _ _ = r at above each found ⊢
    cases hx : counts x with
    | false =>
      simp only [hx, Bool.false_eq_true, if_false] at above found
      refine ⟨above, ⟨by simp, each⟩, ?_⟩
      simpa [hx] using found
    | true =>
      simp only [hx, if_true] at above found
      refine ⟨le_trans (le_max_left ..) above, ⟨fun _ => le_trans (le_max_right ..) above, each⟩, ?_⟩
      rcases found with same | ⟨y, hy, rest⟩
      · rcases max_choice t (value x) with e | e <;> rw [e] at same
        · exact .inl same
        · exact .inr ⟨x, by simp, hx, same.symm⟩
      · exact .inr ⟨y, by simp [hy], rest⟩

/-- The control temperature is the highest value that counts, or -400 (R78). -/
theorem controlTempOf_spec (sensors : Vector SensorRecord 8) (mask : Byte) :
    (∀ k : Fin 8, mask.getLsbD k.val = true → sensors[k].takesPart = true →
      sensors[k].value ≤ controlTempOf sensors mask) ∧
      (controlTempOf sensors mask = -400 ∨
        ∃ k : Fin 8, mask.getLsbD k.val = true ∧ sensors[k].takesPart = true ∧
          sensors[k].value = controlTempOf sensors mask) := by
  have all (k : Fin 8) : k ∈ sensorIndexes := by
    revert k
    decide
  obtain ⟨-, each, found⟩ := foldl_highest (fun k : Fin 8 => mask.getLsbD k.val && sensors[k].takesPart)
    (fun k => sensors[k].value) sensorIndexes (-400)
  refine ⟨fun k hk part => each k (all k) (by rw [hk, part]; rfl), found.imp_right ?_⟩
  rintro ⟨k, -, counts, value⟩
  obtain ⟨hk, part⟩ := Bool.and_eq_true_iff.mp counts
  exact ⟨k, hk, part, value⟩

/-- A populated fan's record after an evaluation, before its duty is made again. -/
def fanJudged (s : State) (f : FanRecord) : FanRecord :=
  { f with
    controlTemp := controlTempOf s.thu.sensors f.mask
    curveValue := nextCurveValue f (controlTempOf s.thu.sensors f.mask) }

/-- A fan's record after an evaluation (R77). -/
def fanEvaluated (s : State) (f : FanRecord) : FanRecord :=
  if f.populated then applyDuty (dutyOf s (fanJudged s f)) (fanJudged s f) else f

theorem evaluateFan_eq (i : FanId) (s : State) :
    evaluateFan i s = { s with fnc.fan := s.fnc.fan.set i (fanEvaluated s (s.fnc.fan.get i)) } := by
  unfold evaluateFan fanEvaluated
  dsimp only
  split
  next populated => exact remakeFan_set (f := fanJudged s (s.fnc.fan.get i)) populated
  next => rw [PerFan.set_get]

/-- Each fan is evaluated by itself. -/
theorem evaluateFans_eq (s : State) :
    evaluateFans s =
      { s with
        fnc := { fan := ⟨fanEvaluated s s.fnc.fan.fan0, fanEvaluated s s.fnc.fan.fan1⟩, evalLeft := 500 } } := by
  unfold evaluateFans
  rw [evaluateFan_eq, evaluateFan_eq]
  rfl

theorem evaluateFans_get (i : FanId) (s : State) :
    (evaluateFans s).fnc.fan.get i = fanEvaluated s (s.fnc.fan.get i) := by
  rw [evaluateFans_eq]
  cases i <;> rfl

/-- What an evaluation gives a populated fan, by R78, R79 and R80. -/
theorem fanEvaluated_spec (populated : f.populated = true) :
    let g := fanEvaluated s f
    g.controlTemp = controlTempOf s.thu.sensors f.mask ∧ g.curveValue = nextCurveValue f g.controlTemp ∧
      g.duty = dutyOf s g ∧ g.mode = f.mode ∧ g.curve = f.curve := by
  have e : fanEvaluated s f = applyDuty (dutyOf s (fanJudged s f)) (fanJudged s f) := if_pos populated
  rw [e, applyDuty_eq]
  exact ⟨rfl, rfl, rfl, rfl, rfl⟩

/-! ## Tachometer windows (R82) -/

/-- What a window makes of a fan that is OK and does not fail by it. -/
theorem windowEnded_ok {pulses : Nat} (ok : f.failed = false)
    (h : windowJudged f = false ∨ 300 ≤ pulses * 30 ∨ f.stallRun < 2) :
    windowEnded pulses f =
      { f with
        rpm := pulses * 30, windowSpin := false, windowDriven := decide (0 < f.applied)
        stallRun := if windowJudged f && decide (pulses * 30 < 300) then f.stallRun + 1 else 0 } := by
  by_cases stalls : windowJudged f = true ∧ pulses * 30 < 300
  · obtain ⟨judged, slow⟩ := stalls
    have run : ¬3 ≤ f.stallRun + 1 := by
      rcases h with h | h | h
      · simp [judged] at h
      · omega
      · omega
    simp [windowEnded, countWindow, ok, judged, Config.stallRpm, slow, run, Nat.not_le.mpr slow]
  · have counts : (windowJudged f && !decide (Config.stallRpm ≤ pulses * 30)) = false := by
      show (windowJudged f && !decide (300 ≤ pulses * 30)) = false
      simpa using stalls
    simp [windowEnded, countWindow, ok, counts, stalls]

/-- The third judged and stalled window in a row. -/
theorem windowEnded_fails {pulses : Nat} (ok : f.failed = false) (judged : windowJudged f = true)
    (slow : pulses * 30 < 300) (run : 2 ≤ f.stallRun) :
    windowEnded pulses f =
      { f with
        rpm := pulses * 30, windowSpin := false, windowDriven := decide (0 < f.applied), failed := true, stallRun := 0
        recoveryRun := 0 } := by
  have third : 3 ≤ f.stallRun + 1 := by omega
  simp [windowEnded, countWindow, ok, judged, Config.stallRpm, Nat.not_le.mpr slow, third]

/-- What a window makes of a FAILED fan that does not recover by it. -/
theorem windowEnded_failed {pulses : Nat} (failed : f.failed = true)
    (h : windowJudged f = false ∨ pulses * 30 < 300 ∨ f.recoveryRun < 2) :
    windowEnded pulses f =
      { f with
        rpm := pulses * 30, windowSpin := false, windowDriven := decide (0 < f.applied)
        recoveryRun := if windowJudged f && decide (300 ≤ pulses * 30) then f.recoveryRun + 1 else 0 } := by
  by_cases turns : windowJudged f = true ∧ 300 ≤ pulses * 30
  · obtain ⟨judged, fast⟩ := turns
    have run : ¬3 ≤ f.recoveryRun + 1 := by
      rcases h with h | h | h
      · simp [judged] at h
      · omega
      · omega
    simp [windowEnded, countWindow, failed, judged, Config.stallRpm, fast, run]
  · have counts : (windowJudged f && decide (Config.stallRpm ≤ pulses * 30)) = false := by
      show (windowJudged f && decide (300 ≤ pulses * 30)) = false
      simpa using turns
    simp [windowEnded, countWindow, failed, counts, turns]

/-- The third judged and turning window in a row. -/
theorem windowEnded_recovers {pulses : Nat} (failed : f.failed = true) (judged : windowJudged f = true)
    (fast : 300 ≤ pulses * 30) (run : 2 ≤ f.recoveryRun) :
    windowEnded pulses f =
      { f with
        rpm := pulses * 30, windowSpin := false, windowDriven := decide (0 < f.applied), failed := false, stallRun := 0
        recoveryRun := 0 } := by
  have third : 3 ≤ f.recoveryRun + 1 := by omega
  simp [windowEnded, countWindow, failed, judged, Config.stallRpm, fast, third]

/-! ## What follows a window (R75, R82) -/

theorem anyFanFailed_iff (c : FanController) :
    anyFanFailed c = true ↔ ∃ j, (c.fan.get j).populated = true ∧ (c.fan.get j).failed = true := by
  simp only [anyFanFailed, Bool.or_eq_true, Bool.and_eq_true]
  constructor
  · rintro (h | h)
    · exact ⟨.fan0, h⟩
    · exact ⟨.fan1, h⟩
  · rintro ⟨j, h⟩
    cases j with
    | fan0 => exact .inl h
    | fan1 => exact .inr h

/-- What a change of the derate factor leaves: THU's other fields, the fans, and all that no notice touches. -/
theorem applyDerate_frame (t : State) :
    OnlyCharge { t with thu.derate := derateOf t } (applyDerate t) := by
  unfold applyDerate
  split
  next same => rw [same]; exact .refl t
  next => exact (chargeRefresh_frame true [] _).trans (raise_frame _ _).onlyCharge

theorem sameBus_applyDerate (t : State) : SameBus t (applyDerate t) := by
  unfold applyDerate
  split
  · exact ⟨rfl, rfl, fun _ => rfl⟩
  · have bus := sameBus_chargeRefresh true [] { t with thu.derate := derateOf t }
    have told : SameBus t { t with thu.derate := derateOf t } := ⟨rfl, rfl, fun _ => rfl⟩
    exact (told.trans bus).trans (raise_frame _ _).sameBus

/-- The fault records of all kinds but RPM's own stand through a change of the derate factor. -/
theorem applyDerate_fault {k : FaultKind} (hk : k ∉ memoryKinds) (t : State) :
    (applyDerate t).flt.get k = t.flt.get k := by
  unfold applyDerate
  split
  · rfl
  · obtain ⟨ns, e⟩ := chargeRefresh_eq [] { t with thu.derate := derateOf t }
    rw [(keepsBeside_raise _ _).fault k hk, e, (keepsBeside_raiseAll _ _).fault k hk]
    rfl

end Sys2Proof.Machine
end

section
/-! A change of fan health (R82, R75), and the statement about the events of FNC. -/

namespace Sys2Proof.Machine

open Sys2Proof.Safety

variable {i : FanId} {s t u : State} {f : FanRecord}

/-! ## A change of health -/

/-- What a window of one fan can touch: its record, and what follows a new derate factor. -/
def OnlyFan (i : FanId) (s t : State) : Prop :=
  t = { s with
        fnc.fan := s.fnc.fan.set i (t.fnc.fan.get i), thu.derate := t.thu.derate
        chc.context := t.chc.context, chc.budget := t.chc.budget, pks.schedule := t.pks.schedule
        ind := t.ind, rpm := t.rpm, flt := t.flt }

theorem OnlyFan.trans (h : OnlyFan i s t) (g : OnlyFan i t u) : OnlyFan i s u := by
  unfold OnlyFan at *
  rw [h] at g
  simpa only [PerFan.set_set] using g

theorem OnlyCharge.onlyFan (h : OnlyCharge s t) : OnlyFan i s t := by
  unfold OnlyFan
  rw [h]
  simp only [PerFan.set_get]

theorem onlyFan_setFan {f : FanRecord} : OnlyFan i s { s with fnc.fan := s.fnc.fan.set i f } := by
  unfold OnlyFan
  simp only [PerFan.get_set_same]

theorem onlyFan_applyDerate : OnlyFan i s (applyDerate s) := by
  have told : OnlyFan i s { s with thu.derate := derateOf s } := by
    unfold OnlyFan
    simp only [PerFan.set_get]
  exact told.trans (applyDerate_frame s).onlyFan

/-- What is reported of a change of health, before the derate factor and the duty (R82). -/
def healthTold (i : FanId) (failed : Bool) (s : State) : State :=
  if failed then raise (.fan i 0) (detectMild .fanStall (byteOf i.code) s) else raise (.fan i 1) (judgeStallEnd s)

/-- The report is a matter of the fault records and the report memory. -/
theorem healthTold_frame (i : FanId) (failed : Bool) (s : State) :
    healthTold i failed s =
      { s with
        flt := { s.flt with record := (healthTold i failed s).flt.record }, rpm := (healthTold i failed s).rpm
        ind := (healthTold i failed s).ind } := by
  unfold healthTold
  split
  · rw [(detectMild_frame _ _ s).trans (raise_frame _ _)]
  · have ended : judgeStallEnd s = { s with flt.record := (judgeStallEnd s).flt.record } := by
      unfold judgeStallEnd
      split <;> rfl
    rw [raise_frame, ended]

theorem healthTold_fault (i : FanId) (failed : Bool) (s : State) :
    (healthTold i failed s).flt.get .fanStall =
      if failed then recordedFault .fanStall (byteOf i.code) s.uptime (s.flt.get .fanStall)
      else (judgeStallEnd s).flt.get .fanStall := by
  have other : FaultKind.fanStall ∉ memoryKinds := by decide
  unfold healthTold
  cases failed with
  | true =>
    simp only [if_true]
    rw [(keepsBeside_raise _ _).fault _ other, detectMild_get other]
  | false =>
    simp only [Bool.false_eq_true, if_false]
    rw [(keepsBeside_raise _ _).fault _ other]

theorem healthChanged_eq (i : FanId) (failed : Bool) (s : State) :
    healthChanged i failed s = remakeFan i (applyDerate (healthTold i failed s)) := rfl

theorem applyDerate_derate (s : State) : (applyDerate s).thu.derate = derateOf s := by
  rw [applyDerate_frame]

theorem applyDerate_fan (s : State) : (applyDerate s).fnc = s.fnc := by
  rw [applyDerate_frame]

/-- What follows a change of health: the derate factor of R75, the duty of R80, and the report. -/
theorem healthChanged_spec {failed : Bool} (populated : (s.fnc.fan.get i).populated = true) :
    let t := healthChanged i failed s
    OnlyFan i s t ∧ SameBus s t ∧ t.thu.derate = derateOf s ∧
      t.flt.get .fanStall = (healthTold i failed s).flt.get .fanStall ∧
      t.fnc.fan.get i = applyDuty (dutyOf t (s.fnc.fan.get i)) (s.fnc.fan.get i) := by
  have told := healthTold_frame i failed s
  have fan : (applyDerate (healthTold i failed s)).fnc.fan = s.fnc.fan := by rw [applyDerate_fan, told]
  have fault := applyDerate_fault (k := .fanStall) (by decide) (healthTold i failed s)
  have derate : (applyDerate (healthTold i failed s)).thu.derate = derateOf s := by
    rw [applyDerate_derate, told]
    rfl
  have toldFan : OnlyFan i s (healthTold i failed s) := by
    unfold OnlyFan
    rw [told]
    simp only [PerFan.set_get]
  have toldBus : SameBus s (healthTold i failed s) := by
    rw [told]
    exact ⟨rfl, rfl, fun _ => rfl⟩
  have frame := toldFan.trans onlyFan_applyDerate
  have bus := toldBus.trans (sameBus_applyDerate (healthTold i failed s))
  rw [healthChanged_eq]
  generalize applyDerate (healthTold i failed s) = v at *
  rw [remakeFan_eq (by rw [fan]; exact populated), fan]
  refine ⟨frame.trans ?_, bus.trans ⟨rfl, rfl, fun _ => rfl⟩, derate, fault, ?_⟩
  · rw [← fan]
    exact onlyFan_setFan
  · simp only [PerFan.get_set_same]
    rfl

/-- A window that leaves the fan's health. -/
theorem tachEnded_same {pulses : Nat} (populated : (s.fnc.fan.get i).populated = true)
    (same : (windowEnded pulses (s.fnc.fan.get i)).failed = (s.fnc.fan.get i).failed) :
    tachEnded i pulses s = judgeStallEnd (modFan i (windowEnded pulses) s) := by
  simp [tachEnded, populated, same]

/-- A window that changes it. -/
theorem tachEnded_changed {pulses : Nat} {failed : Bool} (populated : (s.fnc.fan.get i).populated = true)
    (now : (windowEnded pulses (s.fnc.fan.get i)).failed = failed) (was : (s.fnc.fan.get i).failed = !failed) :
    tachEnded i pulses s = healthChanged i failed (modFan i (windowEnded pulses) s) := by
  simp [tachEnded, populated, now, was]

theorem judgeStallEnd_failed (h : ∃ j, (s.fnc.fan.get j).populated = true ∧ (s.fnc.fan.get j).failed = true) :
    judgeStallEnd s = s := if_pos ((anyFanFailed_iff s.fnc).mpr h)

theorem judgeStallEnd_frame (s : State) : judgeStallEnd s = { s with flt := (judgeStallEnd s).flt } := by
  unfold judgeStallEnd
  split <;> rfl

end Sys2Proof.Machine

namespace Sys2Proof.Proofs

open Sys2Proof.Machine Sys2Proof.Safety

variable {i : FanId} {s : State}

/-! ## The statement -/

/-- A command that touches neither the bus, the packs nor the platform state ends as its own effect leaves it. -/
theorem finish_still {t : State} (hs : busSettled s = true) (pbc : t.pbc = s.pbc) (pks : t.pks = s.pks)
    (state : t.psq.state = s.psq.state) : finish s t = .next t :=
  finish_settled hs ⟨pbc, by rw [pks], fun _ => by rw [pks]⟩ state

/-- A window that leaves the fan's health ends with the record and the judgement of FAN_STALL. -/
theorem finish_window_same {pulses : Nat} {g : FanRecord} (hs : busSettled s = true)
    (populated : (s.fnc.fan.get i).populated = true) (made : windowEnded pulses (s.fnc.fan.get i) = g)
    (same : g.failed = (s.fnc.fan.get i).failed) :
    exec (.tachWindowEnd i pulses) s = .next (judgeStallEnd { s with fnc.fan := s.fnc.fan.set i g }) := by
  have ended : tachEnded i pulses s = judgeStallEnd { s with fnc.fan := s.fnc.fan.set i g } := by
    rw [tachEnded_same populated (by rw [made, same]), modFan, made]
  show finish s (tachEnded i pulses s) = _
  rw [ended]
  exact finish_still hs (by rw [judgeStallEnd_frame]) (by rw [judgeStallEnd_frame]) (by rw [judgeStallEnd_frame])

/-- A window that changes it ends with what follows the change. -/
theorem finish_window_changed {pulses : Nat} {failed : Bool} {g : FanRecord} (hs : busSettled s = true)
    (populated : (s.fnc.fan.get i).populated = true) (made : windowEnded pulses (s.fnc.fan.get i) = g)
    (now : g.failed = failed) (was : (s.fnc.fan.get i).failed = !failed) (gp : g.populated = true) :
    let u : State := { s with fnc.fan := s.fnc.fan.set i g }
    ∃ t, exec (.tachWindowEnd i pulses) s = .next t ∧ OnlyFan i s t ∧ t.thu.derate = derateOf u ∧
      t.flt.get .fanStall = (healthTold i failed u).flt.get .fanStall ∧
      t.fnc.fan.get i = applyDuty (dutyOf t g) g := by
  intro u
  have ended : tachEnded i pulses s = healthChanged i failed u := by
    rw [tachEnded_changed populated (by rw [made, now]) was, modFan, made]
  obtain ⟨frame, bus, derate, fault, duty⟩ :=
    healthChanged_spec (s := u) (i := i) (failed := failed) (by simpa [u] using gp)
  have own : u.fnc.fan.get i = g := by simp [u]
  have only : OnlyFan i s (healthChanged i failed u) := onlyFan_setFan.trans frame
  have told : SameBus s u := ⟨rfl, rfl, fun _ => rfl⟩
  rw [own] at duty
  refine ⟨_, ?_, only, derate, fault, duty⟩
  show finish s (tachEnded i pulses s) = _
  rw [ended]
  exact finish_settled hs (told.trans bus) (by rw [only])

/-- A FAILED fan caps the derate factor at 50 (R75). -/
theorem derateOf_failed (h : ∃ j, (s.fnc.fan.get j).populated = true ∧ (s.fnc.fan.get j).failed = true) :
    derateOf s = min 50 s.thu.table[s.thu.heldEntry].factor := if_pos ((anyFanFailed_iff s.fnc).mpr h)

theorem derateOf_sound (h : ¬∃ j, (s.fnc.fan.get j).populated = true ∧ (s.fnc.fan.get j).failed = true) :
    derateOf s = s.thu.table[s.thu.heldEntry].factor := if_neg (mt (anyFanFailed_iff s.fnc).mp h)

/-- With a fan that is OK again, the FAILED ones are the others. -/
theorem failed_others {g : FanRecord} (ok : g.failed = false) :
    (∃ j, ((s.fnc.fan.set i g).get j).populated = true ∧ ((s.fnc.fan.set i g).get j).failed = true) ↔
      ∃ j, j ≠ i ∧ (s.fnc.fan.get j).populated = true ∧ (s.fnc.fan.get j).failed = true := by
  refine exists_congr fun j => ?_
  by_cases e : j = i
  · subst e
    simp [ok]
  · simp [PerFan.get_set_ne _ _ e, e]

/-- The third judged and stalled window in a row (R82). -/
theorem fanFails {pulses : Nat} (hs : busSettled s = true) (populated : (s.fnc.fan.get i).populated = true)
    (ok : (s.fnc.fan.get i).failed = false) (judged : windowJudged (s.fnc.fan.get i) = true) (slow : pulses * 30 < 300)
    (run : 2 ≤ (s.fnc.fan.get i).stallRun) :
    ∃ t, exec (.tachWindowEnd i pulses) s = .next t ∧ OnlyFan i s t ∧ recorded .fanStall (byteOf i.code) s t ∧
      (t.fnc.fan.get i).failed = true ∧ (t.fnc.fan.get i).stallRun = 0 ∧ (t.fnc.fan.get i).recoveryRun = 0 ∧
      (t.fnc.fan.get i).rpm = pulses * 30 ∧ (t.fnc.fan.get i).duty = 1000 ∧ t.thu.derate ≤ 50 := by
  obtain ⟨t, ended, only, derate, fault, own⟩ :=
    finish_window_changed hs populated (windowEnded_fails ok judged slow run) rfl ok populated
  rw [healthTold_fault, if_pos rfl] at fault
  rw [derateOf_failed ⟨i, by simpa using populated, by simp⟩] at derate
  refine ⟨t, ended, only, ?recorded, ?_⟩
  case recorded =>
    unfold recorded
    rw [fault]
    exact ⟨rfl, rfl, rfl, rfl⟩
  rw [own, applyDuty_eq]
  refine ⟨rfl, rfl, rfl, rfl, ?_, derate.trans_le (min_le_left ..)⟩
  simp [dutyOf, forcedFull]

/-- The third judged and turning window in a row (R82). -/
theorem fanRecovers {pulses : Nat} (hs : busSettled s = true) (populated : (s.fnc.fan.get i).populated = true)
    (failed : (s.fnc.fan.get i).failed = true) (judged : windowJudged (s.fnc.fan.get i) = true)
    (fast : 300 ≤ pulses * 30) (run : 2 ≤ (s.fnc.fan.get i).recoveryRun) :
    let others := ∃ j, j ≠ i ∧ (s.fnc.fan.get j).populated = true ∧ (s.fnc.fan.get j).failed = true
    let factor := s.thu.table[s.thu.heldEntry].factor
    ∃ t, exec (.tachWindowEnd i pulses) s = .next t ∧ OnlyFan i s t ∧
      (let g := t.fnc.fan.get i
       g.failed = false ∧ g.stallRun = 0 ∧ g.recoveryRun = 0 ∧ g.rpm = pulses * 30 ∧ g.duty = dutyOf t g) ∧
      (others → (t.flt.get .fanStall).active = (s.flt.get .fanStall).active ∧ t.thu.derate = min 50 factor) ∧
      (¬others → (t.flt.get .fanStall).active = false ∧ t.thu.derate = factor) := by
  intro others factor
  have made := windowEnded_recovers failed judged fast run
  have others_iff := failed_others (s := s) (i := i) (congrArg FanRecord.failed made)
  obtain ⟨t, ended, only, derate, fault, own⟩ :=
    finish_window_changed hs populated rfl (congrArg FanRecord.failed made) failed (by rw [made]; exact populated)
  rw [healthTold_fault, if_neg (by simp)] at fault
  refine ⟨t, ended, only, ?own, fun other => ?_, fun alone => ?_⟩
  case own =>
    rw [own, applyDuty_eq, made]
    exact ⟨rfl, rfl, rfl, rfl, rfl⟩
  · have still := others_iff.mpr other
    rw [judgeStallEnd_failed still] at fault
    exact ⟨congrArg FaultRecord.active fault, derate.trans (derateOf_failed still)⟩
  · have none := mt others_iff.mp alone
    refine ⟨?_, derate.trans (derateOf_sound none)⟩
    rw [fault, judgeStallEnd, if_neg (mt (anyFanFailed_iff _).mp none)]
    simp [endFault]

/-- Settles O48: each event by the branch of its rule; the runs are counted in `windowEnded`'s lemmas. -/
theorem fanEventsFollowTheirRules : Obligations.FanEventsFollowTheirRules := by
  intro i pulses s hs f
  refine ⟨⟨evaluateFans s, ?evaluated, ?frame, fun h => ?unpopulated, fun h => ?populated⟩, fun spins => ?spinUp,
    fun still => ?still, fun h => ?none, ?windows⟩
  case evaluated => exact finish_still hs (by rw [evaluateFans_eq]) (by rw [evaluateFans_eq]) (by rw [evaluateFans_eq])
  case frame => rw [evaluateFans_eq]
  case unpopulated =>
    rw [evaluateFans_get, fanEvaluated, if_neg (by simp [f] at h; simp [h])]
  case populated =>
    obtain ⟨temp, value, duty, mode, curve⟩ := fanEvaluated_spec (s := s) h
    obtain ⟨highest, found⟩ := controlTempOf_spec s.thu.sensors f.mask
    rw [evaluateFans_get]
    refine ⟨?_, ?_, value, duty, mode, curve⟩
    · rw [temp]; exact highest
    · rw [temp]; exact found
  case spinUp =>
    have ended : spinUpEnded i s =
        { s with fnc.fan := s.fnc.fan.set i { f with spinLeft := 0, applied := f.duty } } := by
      simp only [spinUpEnded, modFan]
      rw [if_pos spins]
    show finish s (spinUpEnded i s) = _
    rw [ended]
    exact finish_still hs rfl rfl rfl
  case still =>
    have ended : spinUpEnded i s = s := by
      simp only [spinUpEnded, modFan]
      rw [if_neg (by simp [f] at still; simp [still]), PerFan.set_get]
    show finish s (spinUpEnded i s) = _
    rw [ended]
    exact finish_same hs
  case none =>
    have ended : tachEnded i pulses s = s := if_neg (by simp [f] at h; simp [h])
    show finish s (tachEnded i pulses s) = _
    rw [ended]
    exact finish_same hs
  case windows =>
    refine ⟨fun populated ok => ⟨fun h => ?kept, fanFails hs populated ok⟩,
      fun populated failed => ⟨fun h => ?stays, fanRecovers hs populated failed⟩⟩
    case kept =>
      exact ⟨_, finish_window_same hs populated (windowEnded_ok ok h) rfl, judgeStallEnd_frame _⟩
    case stays =>
      have still := finish_window_same hs populated (windowEnded_failed failed h) rfl
      rwa [judgeStallEnd_failed ⟨i, by simpa using populated, by simpa using failed⟩] at still

end Sys2Proof.Proofs
end

section
/-! Fields of a payload read back as they were written (R179), and requests that end with their answer. -/

namespace Sys2Proof.Machine

open Sys2Proof.Safety

/-! ## Fields -/

theorem wordBytes_toNat (w : Word16) : (w.extractLsb' 0 8).toNat + 256 * (w.extractLsb' 8 8).toNat = w.toNat := by
  have bound := w.isLt
  simp only [BitVec.extractLsb'_toNat, Nat.shiftRight_eq_div_pow]
  omega

theorem byteAt_append_right (p q : List Byte) (n : Nat) : byteAt (p ++ q) (p.length + n) = byteAt q n := by
  simp [byteAt, List.getD_eq_getElem?_getD, List.getElem?_append_right]

/-- A two-byte field is read back from where it stands. -/
theorem le16At_wordBytes (p q : List Byte) (w : Word16) : le16At (p ++ wordBytes w ++ q) p.length = w.toNat := by
  rw [List.append_assoc]
  have low := byteAt_append_right p (wordBytes w ++ q) 0
  have high := byteAt_append_right p (wordBytes w ++ q) 1
  rw [Nat.add_zero] at low
  rw [le16At, low, high]
  exact wordBytes_toNat w

theorem le16_eq {n : Nat} (h : n < 65536) : le16 n = wordBytes (BitVec.ofNat 16 n) := by
  simp only [le16, h, if_true]

theorem le16At_le16 (p q : List Byte) {n : Nat} (h : n < 65536) : le16At (p ++ le16 n ++ q) p.length = n := by
  rw [le16_eq h, le16At_wordBytes]
  exact Nat.mod_eq_of_lt h

theorem signed16At_les16 (p q : List Byte) {v : Int} (lo : -32768 ≤ v) (hi : v < 32768) :
    signed16At (p ++ les16 v ++ q) p.length = v := by
  rw [signed16At, les16, le16At_wordBytes, BitVec.ofNat_toNat, BitVec.setWidth_eq, BitVec.toInt_ofInt]
  exact Int.bmod_eq_of_le_mul_two (by omega) (by omega)

theorem byteOf_toNat_lt {n : Nat} (h : n < 256) : (byteOf n).toNat = n := by
  simpa [byteOf] using h

theorem clampInt_eq {lo hi v : Int} (h : lo ≤ hi) : clampInt lo hi v = max lo (min hi v) := by
  unfold clampInt
  split_ifs <;> omega

theorem clampNat_eq {lo hi n : Nat} (h : lo ≤ hi) : clampNat lo hi n = max lo (min hi n) := by
  unfold clampNat
  split_ifs <;> omega

end Sys2Proof.Machine

namespace Sys2Proof.Proofs

open Sys2Proof.Machine Sys2Proof.Safety

variable {s u : State}

/-- A request that is served at once and makes no work for the bus: its answer is in the queue, and beside the link
stands what it served. -/
theorem finish_answered {type : Byte} {serve : List Byte → State → State × List Byte} {p reply : List Byte}
    (hq : quiet s = true) (served : serve p (huntAgain s) = (u, reply)) (link : KeepsLink (huntAgain s) u)
    (bus : SameBus s u) (state : u.psq.state = s.psq.state) :
    ∃ t, finish s (request type serve p s) = .next t ∧ answers type reply s t ∧ t = { u with lkp := t.lkp } := by
  have idle := quiet_linkIdle hq
  refine ⟨deliver (replyTo type reply) u, ?_, deliver_answers idle link, deliver_frame _ _⟩
  rw [request_idle _ _ _ _ idle, served]
  refine finish_settled (quiet_busSettled hq) (bus.trans (sameBus_deliver _ _)) ?_
  rw [deliver_frame]
  exact state

end Sys2Proof.Proofs
end

section
/-! FAN_CURVE_SET and FAN_OVERRIDE (R83, R87, R88): what they serve, and what overrides leave. -/

namespace Sys2Proof.Machine

open Sys2Proof.Safety

variable {i j : FanId} {s t u : State} {f : FanRecord} {mode : OverrideMode} {duty : Nat} {left : Option Nat}

/-! ## Overrides (R83) -/

/-- The overrides of these fans have been set, their duties made, and notices raised. -/
structure OverridesSet (fans : List FanId) (mode : OverrideMode) (duty : Nat) (left : Option Nat) (s t : State) :
    Prop where
  frame : t = { s with
    fnc.fan := t.fnc.fan, rpm := t.rpm, flt := { s.flt with record := t.flt.record }, ind := t.ind }
  other : ∀ j, j ∉ fans → t.fnc.fan.get j = s.fnc.fan.get j
  named : ∀ j ∈ fans, ∃ g : FanRecord, t.fnc.fan.get j =
    { withOverride mode duty left (s.fnc.fan.get j) with
      duty := g.duty, applied := g.applied, spinLeft := g.spinLeft, windowSpin := g.windowSpin
      windowDriven := g.windowDriven }
  made : ∀ j ∈ fans, (s.fnc.fan.get j).populated = true → (t.fnc.fan.get j).duty = dutyOf t (t.fnc.fan.get j)

theorem OverridesSet.nil : OverridesSet [] mode duty left s s :=
  ⟨rfl, fun _ _ => rfl, fun _ h => absurd h List.not_mem_nil, fun _ h => absurd h List.not_mem_nil⟩

theorem withOverride_populated (f : FanRecord) : (withOverride mode duty left f).populated = f.populated := by
  cases mode <;> rfl

/-- Reports leave the fans and what R80 reads. -/
theorem OnlyReports.fans (h : OnlyReports s t) : t.fnc = s.fnc ∧ dutyInputs t = dutyInputs s := by
  rw [h]
  exact ⟨rfl, rfl⟩

theorem setOverride_set (i : FanId) (mode : OverrideMode) (duty : Nat) (left : Option Nat) (s : State) :
    OverridesSet [i] mode duty left s (setOverride i mode duty left s) := by
  let g := withOverride mode duty left (s.fnc.fan.get i)
  let v := remakeFan i { s with fnc.fan := s.fnc.fan.set i g }
  have reports : OnlyReports v (setOverride i mode duty left s) := raiseAll_frame _ _
  obtain ⟨fans, inputs⟩ := reports.fans
  have known : g.populated = (s.fnc.fan.get i).populated := withOverride_populated _
  have made : v = { s with fnc.fan := s.fnc.fan.set i (if g.populated then applyDuty (dutyOf s g) g else g) } := by
    cases populated : g.populated with
    | true => exact remakeFan_set populated
    | false => exact remakeFan_unpopulated (by simpa using populated)
  refine ⟨?_, fun j hj => ?_, fun j hj => ?_, fun j hj populated => ?_⟩
  · rw [reports, made]
  · rw [fans, made]
    exact PerFan.get_set_ne _ _ (by simpa using hj)
  · obtain rfl := List.mem_singleton.mp hj
    rw [fans, made]
    simp only [PerFan.get_set_same]
    split
    · exact ⟨{ applyDuty (dutyOf s g) g with duty := dutyOf s g }, applyDuty_eq _ _⟩
    · exact ⟨g, rfl⟩
  · obtain rfl := List.mem_singleton.mp hj
    have own : (setOverride j mode duty left s).fnc.fan.get j = applyDuty (dutyOf s g) g := by
      rw [fans, made, if_pos (known.trans populated)]
      exact PerFan.get_set_same _ _ _
    have same : dutyOf (setOverride j mode duty left s) g = dutyOf s g :=
      dutyOf_congr rfl (by rw [inputs, made]; rfl)
    rw [own, dutyOf_applyDuty, same]
    exact (applyDuty_applied _ _).1

/-- One more fan is taken after the others. -/
theorem OverridesSet.cons {fans : List FanId} (fresh : i ∉ fans) (h : OverridesSet [i] mode duty left s t)
    (g : OverridesSet fans mode duty left t u) : OverridesSet (i :: fans) mode duty left s u := by
  have first : u.fnc.fan.get i = t.fnc.fan.get i := g.other i fresh
  have inputs : dutyInputs u = dutyInputs t := by
    rw [g.frame]
    rfl
  have rest (j : FanId) (hj : j ∈ fans) : t.fnc.fan.get j = s.fnc.fan.get j :=
    h.other j (by rintro e; exact fresh ((List.mem_singleton.mp e) ▸ hj))
  refine ⟨?_, fun j hj => ?_, fun j hj => ?_, fun j hj populated => ?_⟩
  · have frame := g.frame
    rw [h.frame] at frame
    exact frame
  · obtain ⟨ne, out⟩ := List.ne_and_not_mem_of_not_mem_cons hj
    rw [g.other j out, h.other j (by simpa using ne)]
  · rcases List.mem_cons.mp hj with rfl | later
    · rw [first]
      exact h.named j List.mem_cons_self
    · obtain ⟨r, e⟩ := g.named j later
      exact ⟨r, by rw [e, rest j later]⟩
  · rcases List.mem_cons.mp hj with rfl | later
    · rw [first, h.made j List.mem_cons_self populated]
      exact (dutyOf_congr rfl inputs).symm
    · exact g.made j later (by rw [rest j later]; exact populated)

theorem overrides_set (fans : List FanId) (distinct : fans.Nodup) (mode : OverrideMode) (duty : Nat)
    (left : Option Nat) (s : State) :
    OverridesSet fans mode duty left s (fans.foldl (fun u i => setOverride i mode duty left u) s) := by
  induction fans generalizing s with
  | nil => exact .nil
  | cons i fans ih =>
    obtain ⟨fresh, rest⟩ := List.nodup_cons.mp distinct
    exact (setOverride_set i mode duty left s).cons fresh (ih rest _)

theorem OverridesSet.sameBus {fans : List FanId} (h : OverridesSet fans mode duty left s t) : SameBus s t := by
  rw [h.frame]
  exact ⟨rfl, rfl, fun _ => rfl⟩

theorem OverridesSet.kept {fans : List FanId} (h : OverridesSet fans mode duty left s t) :
    t.lkp = s.lkp ∧ t.psq = s.psq := by
  rw [h.frame]
  exact ⟨rfl, rfl⟩

/-- Of the fans' records only that of the one named has changed. -/
theorem OverridesSet.single (h : OverridesSet [i] mode duty left s t) :
    t = { s with fnc.fan := s.fnc.fan.set i (t.fnc.fan.get i), rpm := t.rpm, flt := t.flt, ind := t.ind } := by
  have fan : t.fnc.fan = s.fnc.fan.set i (t.fnc.fan.get i) := by
    have other := h.other
    cases i with
    | fan0 =>
      have same := other .fan1 (by decide)
      exact congrArg (PerFan.mk t.fnc.fan.fan0) same
    | fan1 =>
      have same := other .fan0 (by decide)
      exact congrArg (PerFan.mk · t.fnc.fan.fan1) same
  have flt : { s.flt with record := t.flt.record } = t.flt := (congrArg State.flt h.frame).symm
  rw [← fan, ← flt]
  exact h.frame

/-- What an override gives a fan by its mode (R83). -/
theorem OverridesSet.record {fans : List FanId} (h : OverridesSet fans mode duty left s t) (hj : j ∈ fans) :
    (t.fnc.fan.get j).mode = mode ∧ (t.fnc.fan.get j).curveValue = (s.fnc.fan.get j).curveValue ∧
      (mode ≠ .auto → (t.fnc.fan.get j).overrideDuty = duty ∧ (t.fnc.fan.get j).overrideLeft = left) := by
  obtain ⟨g, e⟩ := h.named j hj
  rw [e]
  cases mode <;> simp [withOverride]

end Sys2Proof.Machine
end

section
/-! What FAN_CURVE_SET and FAN_OVERRIDE serve (R87, R88), and the statement about them. -/

namespace Sys2Proof.Proofs

open Sys2Proof.Machine Sys2Proof.Safety

variable {i : FanId} {s t u : State}

/-! ## The payload of a FAN_CURVE_SET -/

/-- The payload of a FAN_CURVE_SET for a list of points (R87). -/
def curvePayload (fan hysteresis mask : Byte) (points : List CurvePoint) : List Byte :=
  [fan, hysteresis, mask, byteOf points.length] ++ (points.map pointBytes).flatten

theorem pointBytes_length (c : CurvePoint) : (pointBytes c).length = 4 := rfl

theorem points_length (points : List CurvePoint) : (points.map pointBytes).flatten.length = 4 * points.length := by
  induction points with
  | nil => rfl
  | cons c cs ih =>
    rw [List.map_cons, List.flatten_cons, List.length_append, ih, pointBytes_length, List.length_cons]
    omega

/-- A point that a payload can carry unchanged (R87). -/
def PointInRange (c : CurvePoint) : Prop := -400 ≤ c.temp ∧ c.temp ≤ 1500 ∧ c.duty ≤ 1000

theorem clampPoint_inRange {c : CurvePoint} (h : PointInRange c) : clampPoint c = c := by
  obtain ⟨lo, hi, duty⟩ := h
  have temp : clampInt (-400) 1500 c.temp = c.temp := by
    rw [clampInt_eq (by decide)]
    omega
  simp only [clampPoint, temp, min_eq_right duty]

/-- Each point is read back from its place. -/
theorem givenPoint_append {p : List Byte} {n : Nat} (hp : p.length = 4 + 4 * n) {c : CurvePoint} (hc : PointInRange c)
    (q : List Byte) : givenPoint (p ++ pointBytes c ++ q) n = c := by
  obtain ⟨lo, hi, duty⟩ := hc
  have temp := signed16At_les16 p (le16 c.duty ++ q) (v := c.temp) (by omega) (by omega)
  have level := le16At_le16 (p ++ les16 c.temp) q (n := c.duty) (by omega)
  have place : (p ++ les16 c.temp).length = 6 + 4 * n := by
    rw [List.length_append, hp]
    show 4 + 4 * n + 2 = _
    omega
  rw [place] at level
  rw [hp] at temp
  have bytes : p ++ pointBytes c ++ q = p ++ les16 c.temp ++ (le16 c.duty ++ q) := by simp [pointBytes]
  have bytes' : p ++ pointBytes c ++ q = p ++ les16 c.temp ++ le16 c.duty ++ q := by simp [pointBytes]
  unfold givenPoint
  congr 1
  · rw [bytes]; exact temp
  · rw [bytes']; exact level

theorem givenPoints (p : List Byte) (points : List CurvePoint) (hc : ∀ c ∈ points, PointInRange c) (n : Nat)
    (hp : p.length = 4 + 4 * n) :
    (List.range' n points.length).map (givenPoint (p ++ (points.map pointBytes).flatten)) = points := by
  induction points generalizing p n with
  | nil => rfl
  | cons c cs ih =>
    obtain ⟨first, rest⟩ := List.forall_mem_cons.mp hc
    have bytes : p ++ ((c :: cs).map pointBytes).flatten = p ++ pointBytes c ++ (cs.map pointBytes).flatten := by simp
    have place : (p ++ pointBytes c).length = 4 + 4 * (n + 1) := by
      rw [List.length_append, hp, pointBytes_length]
      omega
    rw [List.length_cons, List.range'_succ, List.map_cons, bytes, givenPoint_append hp first, ih _ rest _ place]

/-- The points of the payload are those it was made of. -/
theorem givenPoints_payload {fan hysteresis mask : Byte} {points : List CurvePoint}
    (hc : ∀ c ∈ points, PointInRange c) :
    (List.range points.length).map (givenPoint (curvePayload fan hysteresis mask points)) = points := by
  rw [List.range_eq_range']
  exact givenPoints [fan, hysteresis, mask, byteOf points.length] points hc 0 rfl

theorem curvePayload_length (fan hysteresis mask : Byte) (points : List CurvePoint) :
    (curvePayload fan hysteresis mask points).length = 4 + 4 * points.length := by
  rw [curvePayload, List.length_append, points_length]
  rfl

/-! ## FAN_CURVE_SET -/

theorem fanOf_code (i : FanId) : fanOf (byteOf i.code).toNat = i := by
  cases i <;> rfl

theorem fanCode_inRange (i : FanId) : ¬1 < (byteOf i.code).toNat := by
  cases i <;> decide

/-- What a FAN_CURVE_SET with two to six points in range serves (R87). -/
theorem serve_fanCurveSet {hysteresis mask : Byte} {points : List CurvePoint}
    (populated : (s.fnc.fan.get i).populated = true) (two : 2 ≤ points.length) (six : points.length ≤ 6)
    (hc : ∀ c ∈ points, PointInRange c) :
    serveFanCurveSet (curvePayload (byteOf i.code) hysteresis mask points) s =
      if mask = 0 ∨ curveSound points = false then (s, [5])
      else
        let t := takeCurve i points (min 100 hysteresis.toNat) mask s
        (t, doneStatus (decide (100 < hysteresis.toNat)) :: curveBytes i (t.fnc.fan.get i)) := by
  have count : byteAt (curvePayload (byteOf i.code) hysteresis mask points) 3 = points.length := by
    exact byteOf_toNat_lt (by omega)
  have fan : byteAt (curvePayload (byteOf i.code) hysteresis mask points) 0 = (byteOf i.code).toNat := rfl
  have given := givenPoints_payload (fan := byteOf i.code) (hysteresis := hysteresis) (mask := mask) hc
  have held : points.map clampPoint = points := by
    rw [List.map_congr_left fun c h => clampPoint_inRange (hc c h), List.map_id']
  have length := curvePayload_length (byteOf i.code) hysteresis mask points
  have lengthOk : ¬(4 + 4 * points.length ≠ 1 ∧
      (4 + 4 * points.length < 12 ∨ 4 + 4 * points.length ≠ 4 + 4 * points.length ∨ points.length < 2 ∨
        6 < points.length)) := by omega
  have long : ¬4 + 4 * points.length = 1 := by omega
  have maskByte : byteOf (byteAt (curvePayload (byteOf i.code) hysteresis mask points) 2) = mask := byteOf_toNat mask
  have hyst : byteAt (curvePayload (byteOf i.code) hysteresis mask points) 1 = hysteresis.toNat := rfl
  simp only [serveFanCurveSet, count, fan, fanOf_code, fanCode_inRange i, length, lengthOk, long, given, held, maskByte,
    hyst, populated, bne_self_eq_false, Bool.or_false, Bool.true_eq_false, if_false]
  rfl

/-- The answer of a FAN_CURVE_SET that is taken. -/
theorem fanCurve_taken {hysteresis mask : Byte} {points : List CurvePoint} (hq : quiet s = true)
    (populated : (s.fnc.fan.get i).populated = true) (two : 2 ≤ points.length) (six : points.length ≤ 6)
    (hc : ∀ c ∈ points, PointInRange c) (masked : mask ≠ 0) (sound : curveSound points = true) :
    ∃ t, exec (.fanCurveSet (curvePayload (byteOf i.code) hysteresis mask points)) s = .next t ∧
      t = { s with fnc.fan := s.fnc.fan.set i (t.fnc.fan.get i), lkp := t.lkp } ∧
      (let g := t.fnc.fan.get i
       g.curve = points ∧ g.hysteresis = min 100 hysteresis.toNat ∧ g.mask = mask ∧
        g.controlTemp = controlTempOf s.thu.sensors mask ∧ g.curveValue = curveAt points g.controlTemp ∧
        g.duty = dutyOf t g ∧ g.mode = (s.fnc.fan.get i).mode ∧
        answers 0x42
          ([if 100 < hysteresis.toNat then 1 else 0, byteOf i.code, byteOf g.hysteresis, mask, byteOf points.length] ++
            (points.map pointBytes).flatten ++ le16 g.curveValue) s t) := by
  have served := serve_fanCurveSet (s := huntAgain s) (hysteresis := hysteresis) (mask := mask) populated two six hc
  rw [if_neg (not_or.mpr ⟨masked, by simp [sound]⟩)] at served
  let temp := controlTempOf s.thu.sensors mask
  let judged : FanRecord := { s.fnc.fan.get i with
    curve := points, hysteresis := min 100 hysteresis.toNat, mask
    controlTemp := temp, curveValue := curveAt points temp }
  have taken : takeCurve i points (min 100 hysteresis.toNat) mask (huntAgain s) =
      { huntAgain s with fnc.fan := s.fnc.fan.set i (applyDuty (dutyOf s judged) judged) } :=
    remakeFan_set (t := huntAgain s) (f := judged) populated
  rw [taken] at served
  obtain ⟨t, ended, answer, frame⟩ := finish_answered hq served rfl ⟨rfl, rfl, fun _ => rfl⟩ rfl
  have own : t.fnc.fan.get i = applyDuty (dutyOf s judged) judged := by
    rw [frame]
    exact PerFan.get_set_same _ _ _
  have duty : dutyOf t (t.fnc.fan.get i) = dutyOf s judged := by
    rw [own, dutyOf_applyDuty]
    refine dutyOf_congr rfl ?_
    rw [frame]
    rfl
  refine ⟨t, ended, ?_, ?_⟩
  · rw [own, frame]
    rfl
  · dsimp only
    rw [duty, own, applyDuty_eq]
    refine ⟨rfl, rfl, rfl, rfl, rfl, rfl, rfl, ?_⟩
    simp only [doneStatus_decide, PerFan.get_set_same] at answer
    rw [applyDuty_eq] at answer
    exact answer

/-! ## FAN_OVERRIDE -/

/-- The payload of a FAN_OVERRIDE (R88). -/
def overridePayload (named mode lo hi : Byte) (time : Nat) : List Byte := [named, mode, lo, hi] ++ le16 time

theorem overridePayload_time {named mode lo hi : Byte} {time : Nat} (h : time < 65536) :
    le16At (overridePayload named mode lo hi time) 4 = time := by
  have read := le16At_le16 [named, mode, lo, hi] [] h
  rwa [List.append_nil] at read

/-- The override of a FAN_OVERRIDE's fans, taken one after another. -/
def overridesTaken (fans : List FanId) (mode : OverrideMode) (duty seconds : Nat) (s : State) : State :=
  fans.foldl (fun u i => setOverride i mode duty (if seconds = 0 then none else some seconds) u) s

section

variable {named mode lo hi : Byte} {time : Nat} (ht : time < 65536) (fan : named.toNat ≤ 2) (kind : mode.toNat ≤ 2)
  (present : ¬(named.toNat = 1 ∧ s.fnc.fan.fan1.populated = false))

include ht fan kind present

/-- What a FAN_OVERRIDE serves (R88). -/
theorem serve_fanOverride :
    let given := lo.toNat + 256 * hi.toNat
    let m := modeOf mode.toNat
    let fans := namedFans s named.toNat
    let t := overridesTaken fans m (min 1000 given) (min 3600 time) s
    serveFanOverride (overridePayload named mode lo hi time) s =
      if m ≠ .auto ∧ isOn s = false then (s, [6])
      else
        (t, [if 1000 < given ∨ 3600 < time then 1 else 0, named, byteOf m.code] ++
          overrideFields m (min 1000 given) (min 3600 time) ++
          (fans.map fun i => le16 (t.fnc.fan.get i).duty).flatten) := by
  have length : (overridePayload named mode lo hi time).length = 6 := rfl
  have bad : ¬(2 < named.toNat ∨ 2 < mode.toNat) := by omega
  have duty : le16At (overridePayload named mode lo hi time) 2 = lo.toNat + 256 * hi.toNat := rfl
  have byte0 : byteAt (overridePayload named mode lo hi time) 0 = named.toNat := rfl
  have byte1 : byteAt (overridePayload named mode lo hi time) 1 = mode.toNat := rfl
  have status : (decide (1000 < lo.toNat + 256 * hi.toNat) || decide (3600 < time)) =
      decide (1000 < lo.toNat + 256 * hi.toNat ∨ 3600 < time) := (Bool.decide_or _ _).symm
  simp only [serveFanOverride, length, byte0, byte1, bad, present, overridePayload_time ht, duty, status,
    doneStatus_decide, byteOf_toNat, if_false, ne_eq, not_true_eq_false]
  rfl

/-- The end of a FAN_OVERRIDE that is taken. -/
theorem fanOverride_taken (hq : quiet s = true) (on : modeOf mode.toNat ≠ .auto → s.psq.state = .on) :
    let given := lo.toNat + 256 * hi.toNat
    let m := modeOf mode.toNat
    let fans := namedFans s named.toNat
    ∃ t v, exec (.fanOverride (overridePayload named mode lo hi time)) s = .next t ∧ t = { v with lkp := t.lkp } ∧
      OverridesSet fans m (min 1000 given) (if min 3600 time = 0 then none else some (min 3600 time)) (huntAgain s) v ∧
      answers 0x43 ([if 1000 < given ∨ 3600 < time then 1 else 0, named, byteOf m.code] ++
          overrideFields m (min 1000 given) (min 3600 time) ++
          (fans.map fun i => le16 (t.fnc.fan.get i).duty).flatten) s t := by
  intro given m fans
  have allowed : ¬(m ≠ .auto ∧ isOn (huntAgain s) = false) := by
    rintro ⟨driven, off⟩
    simp only [isOn, beq_eq_false_iff_ne] at off
    exact off (on driven)
  have served := (serve_fanOverride (s := huntAgain s) (lo := lo) (hi := hi) ht fan kind present).trans (if_neg allowed)
  have distinct : fans.Nodup := by
    show (namedFans s named.toNat).Nodup
    unfold namedFans
    split
    · exact List.Nodup.filter _ (by decide)
    · exact List.nodup_singleton _
  let v := overridesTaken fans m (min 1000 given) (min 3600 time) (huntAgain s)
  have set : OverridesSet fans m (min 1000 given) (if min 3600 time = 0 then none else some (min 3600 time))
      (huntAgain s) v := overrides_set fans distinct _ _ _ _
  obtain ⟨lkp, psq⟩ := set.kept
  have link : KeepsLink (huntAgain s) v := by
    unfold KeepsLink
    rw [lkp]
  have hunt : SameBus s (huntAgain s) := ⟨rfl, rfl, fun _ => rfl⟩
  obtain ⟨t, ended, answer, frame⟩ := finish_answered (u := v) hq served link (hunt.trans set.sameBus)
    (congrArg Sequencer.state psq)
  have fan : t.fnc.fan = v.fnc.fan := by rw [frame]
  refine ⟨t, _, ended, frame, set, ?_⟩
  rw [fan]
  exact answer

end

theorem namedFans_one (i : FanId) (s : State) : namedFans s (byteOf i.code).toNat = [i] := by
  cases i <;> rfl

theorem mem_namedFans_all (j : FanId) (s : State) : j ∈ namedFans s 2 ↔ (s.fnc.fan.get j).populated = true := by
  cases j <;> simp [namedFans]

theorem fanPresent (populated : (s.fnc.fan.get i).populated = true) :
    ¬((byteOf i.code).toNat = 1 ∧ s.fnc.fan.fan1.populated = false) := by
  rintro ⟨named, absent⟩
  cases i with
  | fan0 => exact absurd named (by decide)
  | fan1 => exact absurd (populated.symm.trans absent) (by decide)

/-- What an override of one fan leaves, for a reader who does not ask for the level (R83). -/
theorem override_answered {mode : OverrideMode} {duty : Nat} {left : Option Nat} {v : State}
    (h : OverridesSet [i] mode duty left (huntAgain s) v) (frame : t = { v with lkp := t.lkp }) :
    t = { s with
      fnc.fan := s.fnc.fan.set i (t.fnc.fan.get i), lkp := t.lkp, rpm := t.rpm, flt := t.flt, ind := t.ind } := by
  have single := h.single
  rw [frame, single]
  simp only [PerFan.get_set_same]
  rfl

/-- A duty that was made before the reply is made so after it. -/
theorem dutyOf_answered {v : State} (frame : t = { v with lkp := t.lkp }) (f : FanRecord) : dutyOf t f = dutyOf v f :=
  dutyOf_congr rfl (by rw [frame]; rfl)

theorem modeOf_code {mode : Byte} (h : mode = 0 ∨ mode = 1 ∨ mode = 2) : byteOf (modeOf mode.toNat).code = mode := by
  rcases h with rfl | rfl | rfl <;> rfl

theorem secondsLeft (time : Nat) :
    (if min 3600 time = 0 then none else some (min 3600 time)) = if time = 0 then none else some (min 3600 time) := by
  by_cases h : time = 0
  · simp [h]
  · have h' : min 3600 time ≠ 0 := by omega
    simp [h]

/-- Settles O47: a curve and an override each by what it serves, the fans named by `overrides_set`. -/
theorem fanSettingsAreTaken : Obligations.FanSettingsAreTaken := by
  intro i hysteresis mask points mode lo hi time s f fan payload
  refine ⟨fun hq populated two six inRange => ⟨fun unsound => ?badCurve, fun masked sound => ?curve⟩,
    fun hq ht => ?overrides, fun hs driven timed => ?expires, fun hs stands => ?stays⟩
  case badCurve =>
    have ranges : ∀ c ∈ points, PointInRange c := by simpa [List.all_eq_true, PointInRange] using inRange
    have served := serve_fanCurveSet (s := huntAgain s) (hysteresis := hysteresis) (mask := mask)
      populated two six ranges
    rw [if_pos unsound] at served
    exact finish_read hq served
  case curve =>
    have ranges : ∀ c ∈ points, PointInRange c := by simpa [List.all_eq_true, PointInRange] using inRange
    exact fanCurve_taken hq populated two six ranges masked sound
  case stays =>
    have none : overrideExpired i s = s := by
      have rests : ((f.mode != .auto) && f.overrideLeft.isSome) = false := by
        rcases stands with h | h <;> simp [h]
      exact if_neg (by simp [f] at rests ⊢; exact rests)
    show finish s (overrideExpired i s) = _
    rw [none]
    exact finish_same hs
  case expires =>
    have ended : overrideExpired i s = setOverride i .auto 0 (some 0) s := by
      simp [overrideExpired, cancelOverride, f] at driven timed ⊢
      simp [driven, timed]
    have set := setOverride_set i .auto 0 (some 0) s
    refine ⟨setOverride i .auto 0 (some 0) s, ?_, (set.record List.mem_cons_self).1,
      set.made i List.mem_cons_self, set.single⟩
    show finish s (overrideExpired i s) = _
    rw [ended]
    exact finish_settled hs set.sameBus (by rw [set.frame])
  case overrides =>
    intro given duty seconds done request overridden
    have code : (byteOf i.code).toNat ≤ 2 := Nat.le_succ_of_le (Nat.not_lt.mp (fanCode_inRange i))
    have named {mode' : Byte} (h : mode' = 0 ∨ mode' = 1 ∨ mode' = 2) : mode'.toNat ≤ 2 := by
      rcases h with rfl | rfl | rfl <;> decide
    refine ⟨fun populated driven => ⟨fun off => ?refused, fun on => ?one⟩, fun populated => ?cancelled,
      fun which => ?all⟩
    case refused =>
      have notAuto : modeOf mode.toNat ≠ .auto := by rcases driven with rfl | rfl <;> decide
      exact finish_read hq ((serve_fanOverride (s := huntAgain s) (lo := lo) (hi := hi) ht code (named (.inr driven))
        (fanPresent populated)).trans (if_pos ⟨notAuto, beq_eq_false_iff_ne.mpr off⟩))
    case one =>
      have kind : (if mode = 1 then OverrideMode.boost else .manual) = modeOf mode.toNat := by
        rcases driven with rfl | rfl <;> rfl
      have notAuto : modeOf mode.toNat ≠ .auto := by rcases driven with rfl | rfl <;> decide
      obtain ⟨t, v, ended, frame, set, answer⟩ := fanOverride_taken (lo := lo) (hi := hi) ht code (named (.inr driven))
        (fanPresent populated) hq fun _ => on
      rw [namedFans_one] at set answer
      obtain ⟨isMode, -, carried⟩ := set.record List.mem_cons_self
      obtain ⟨isDuty, isLeft⟩ := carried notAuto
      have own : t.fnc.fan = v.fnc.fan := by rw [frame]
      refine ⟨t, ended, override_answered set frame, ?_, ?_, ?_⟩
      · rw [own]
        exact ⟨isMode.trans kind.symm, isDuty, isLeft.trans (secondsLeft time)⟩
      · rw [dutyOf_answered frame, own]
        exact set.made i List.mem_cons_self populated
      · rw [modeOf_code (.inr driven)] at answer
        rcases driven with rfl | rfl <;> simpa [overrideFields, modeOf, done, given, duty, seconds, fan] using answer
    case cancelled =>
      obtain ⟨t, v, ended, frame, set, answer⟩ := fanOverride_taken (s := s) (mode := 0) (lo := lo) (hi := hi) ht code
        (by decide) (fanPresent populated) hq fun driven => absurd rfl driven
      rw [namedFans_one] at set answer
      obtain ⟨isMode, curve, -⟩ := set.record List.mem_cons_self
      have own : t.fnc.fan = v.fnc.fan := by rw [frame]
      refine ⟨t, ended, override_answered set frame, ?_, ?_, ?_, _, _, _, _, _, answer⟩
      · rw [own]; exact isMode
      · rw [own]; exact curve
      · rw [dutyOf_answered frame, own]
        exact set.made i List.mem_cons_self populated
    case all =>
      have known : mode = 0 ∨ mode = 1 ∨ mode = 2 := which.imp_right And.left
      have allowed (driven : modeOf mode.toNat ≠ .auto) : s.psq.state = .on := by
        rcases which with rfl | ⟨-, on⟩
        · exact absurd rfl driven
        · exact on
      obtain ⟨t, v, ended, frame, set, -⟩ :=
        fanOverride_taken (s := s) (named := 2) (lo := lo) (hi := hi) ht (by decide)
        (named known) (fun both => absurd both.1 (by decide)) hq allowed
      have own : t.fnc.fan = v.fnc.fan := by rw [frame]
      refine ⟨t, ended, ?_, fun j => ⟨fun absent => ?_, fun populated => ?_⟩⟩
      · rw [own, frame, set.frame]
        rfl
      · rw [own]
        exact set.other j fun mem => by simp [(mem_namedFans_all j s).mp mem] at absent
      · have mem := (mem_namedFans_all j s).mpr populated
        obtain ⟨isMode, -, carried⟩ := set.record mem
        refine ⟨by rw [dutyOf_answered frame, own]; exact set.made j mem populated, ?_⟩
        rw [own]
        rcases known with rfl | rfl | rfl
        · exact isMode
        · obtain ⟨isDuty, isLeft⟩ := carried (by decide)
          exact ⟨isMode, isDuty, isLeft.trans (secondsLeft time)⟩
        · obtain ⟨isDuty, isLeft⟩ := carried (by decide)
          exact ⟨isMode, isDuty, isLeft.trans (secondsLeft time)⟩

end Sys2Proof.Proofs
end

section
/-! TEMP_SUPPLY and the freshness time (R70, R73, R85): what they make of a supplied sensor, and what stands. -/

namespace Sys2Proof.Machine

open Sys2Proof.Safety

variable {i : Fin 8} {r : SensorRecord} {s : State} {u : ThermalUnit}

/-! ## The trip condition (R73) -/

theorem tripHolds_eq_false : tripHolds u = false ↔ ∀ i ∈ tripIndexes, atTrip u i = false := by
  simp [tripHolds, List.any_eq_false]

/-- A sensor below the trip temperature does not trip. -/
theorem atTrip_below (h : u.sensors[i].value < u.settings.trip) : atTrip u i = false := by
  rw [atTrip, decide_eq_false (not_le.mpr h), Bool.and_false]

theorem atTrip_congr {v : ThermalUnit} (settings : v.settings = u.settings) (sensor : v.sensors[i] = u.sensors[i]) :
    atTrip v i = atTrip u i := by
  simp only [atTrip, settings, sensor]

/-- A new record below the trip temperature brings no trip. -/
theorem tripHolds_set (h : tripHolds u = false) (below : r.value < u.settings.trip) :
    tripHolds { u with sensors := u.sensors.set i r } = false := by
  rw [tripHolds_eq_false] at h ⊢
  intro j hj
  by_cases e : i = j
  · subst e
    exact atTrip_below (by simpa using below)
  · have other : i.val ≠ j.val := fun same => e (Fin.ext same)
    rw [← h j hj]
    exact atTrip_congr rfl (by simp [other])

/-- With no trip in force and none to begin, nothing is judged. -/
theorem judgeTrip_none (trip : s.thu.trip = false) (holds : tripHolds s.thu = false) : judgeTrip s = s := by
  simp [judgeTrip, judgeTripEnd, trip, holds]

/-! ## Supplied sensors (R70, R85) -/

theorem judgeSupplyStale_frame (s : State) : judgeSupplyStale s = { s with flt := (judgeSupplyStale s).flt } := by
  unfold judgeSupplyStale
  dsimp only
  split <;> rfl

/-- A supplied sensor after a field of a TEMP_SUPPLY (R85). -/
def suppliedRecord (on : Bool) (v : Int) (r : SensorRecord) : SensorRecord :=
  if v = -32768 then r else ⟨clampInt (-400) 1500 v, true, false, false, on, 0, clampInt (-400) 1500 v⟩

theorem supplyField_frame (i : Fin 8) (v : Int) (s : State) :
    supplyField i v s =
      { s with
        thu.sensors := s.thu.sensors.set i (suppliedRecord (isOn s) v s.thu.sensors[i])
        flt := (supplyField i v s).flt } := by
  unfold supplyField suppliedRecord
  split
  · simp
  · rw [applySupply, judgeSupplyStale_frame]
    rfl

/-- Both fields, SUP0 first. -/
theorem supplyFields_frame (v w : Int) (s : State) :
    supplyField 5 w (supplyField 4 v s) =
      { s with
        thu.sensors := (s.thu.sensors.set 4 (suppliedRecord (isOn s) v s.thu.sensors[4])).set 5
          (suppliedRecord (isOn s) w s.thu.sensors[5])
        flt := (supplyField 5 w (supplyField 4 v s)).flt } := by
  have one := supplyField_frame 4 v s
  generalize supplyField 4 v s = x at one ⊢
  have other : x.thu.sensors[5] = s.thu.sensors[5] := by
    rw [one]
    simp
  have on : isOn x = isOn s := by
    rw [one]
    rfl
  have two := supplyField_frame 5 w x
  generalize supplyField 5 w x = y at two ⊢
  have made : y = { x with
      thu.sensors := x.thu.sensors.set 5 (suppliedRecord (isOn s) w s.thu.sensors[5]), flt := y.flt } := by
    rw [← on, ← other]
    exact two
  rw [made, one]
  rfl

/-- A field that stays below the trip temperature brings no trip. -/
theorem tripHolds_supplied {on : Bool} {v : Int} (h : tripHolds u = false)
    (below : clampInt (-400) 1500 v < u.settings.trip) :
    tripHolds { u with sensors := u.sensors.set i (suppliedRecord on v u.sensors[i]) } = false := by
  unfold suppliedRecord
  split
  · simpa using h
  · exact tripHolds_set h below

theorem signed16_append (lo hi : Byte) : (BitVec.ofNat 16 (lo.toNat + 256 * hi.toNat)).toInt = (hi ++ lo).toInt := by
  congr 1
  apply BitVec.eq_of_toNat_eq
  have low := lo.isLt
  have high := hi.isLt
  rw [BitVec.toNat_append, ← Nat.shiftLeft_add_eq_or_of_lt low, Nat.shiftLeft_eq, BitVec.toNat_ofNat]
  omega

theorem doneStatus_eq_one (b : Bool) : doneStatus b = 1 ↔ b = true := by
  cases b <;> decide

theorem supplyClamped_iff (v : Int) : supplyClamped v = true ↔ v ≠ -32768 ∧ max (-400) (min 1500 v) ≠ v := by
  rw [← clampInt_eq (by decide)]
  simp [supplyClamped]

/-! ## Staleness (R70) -/

/-- A sensor that goes stale is reported, SUPPLY_STALE detected, and the detection stands while it takes part. -/
theorem goStale_on (on : isOn s = true) (hi : i = 4 ∨ i = 5) :
    let stale : State := setSensor i { s.thu.sensors[i] with
      value := s.thu.settings.staleSubstitute, stale := true, substitute := true, takesPart := true
      age := s.thu.settings.freshness * 1000 } s
    goStale i s =
      detectMild .supplyStale (byteOf i.val) (raise (.supplyStale i s.thu.settings.staleSubstitute) stale) := by
  intro stale
  have reports := (raise_frame (.supplyStale i s.thu.settings.staleSubstitute) stale).trans
    (detectMild_frame .supplyStale (byteOf i.val) _)
  have made : goStale i s = judgeSupplyStale (detectMild .supplyStale (byteOf i.val)
      (raise (.supplyStale i s.thu.settings.staleSubstitute) stale)) := by
    simp only [goStale, on]
    rfl
  rw [made]
  refine if_pos ?_
  rw [reports]
  rcases hi with rfl | rfl <;> simp [stale, setSensor]

end Sys2Proof.Machine

namespace Sys2Proof.Proofs

open Sys2Proof.Machine Sys2Proof.Safety

variable {s : State}

/-- What a TEMP_SUPPLY serves while nothing is at the trip temperature (R85). -/
theorem serve_tempSupply {a b c d : Byte} (trip : s.thu.trip = false) (holds : tripHolds s.thu = false)
    (first : clampInt (-400) 1500 (b ++ a).toInt < s.thu.settings.trip)
    (second : clampInt (-400) 1500 (d ++ c).toInt < s.thu.settings.trip) :
    let t := supplyField 5 (d ++ c).toInt (supplyField 4 (b ++ a).toInt s)
    serveTempSupply [a, b, c, d] s =
      (t, doneStatus (supplyClamped (b ++ a).toInt || supplyClamped (d ++ c).toInt) :: supplyBytes t.thu) := by
  intro t
  have low : signed16At [a, b, c, d] 0 = (b ++ a).toInt := signed16_append a b
  have high : signed16At [a, b, c, d] 2 = (d ++ c).toInt := signed16_append c d
  have still : judgeTrip t = t := by
    have one := supplyField_frame 4 (b ++ a).toInt s
    have two := supplyField_frame 5 (d ++ c).toInt (supplyField 4 (b ++ a).toInt s)
    refine judgeTrip_none ?_ ?_
    · simp only [t]
      rw [two, one]
      exact trip
    · simp only [t]
      rw [two, one]
      exact tripHolds_supplied (tripHolds_supplied holds first) second
  simp only [serveTempSupply, low, high]
  rw [still]
  rfl

/-- Settles O45: a supply by what it serves, the freshness time by what goes stale. -/
theorem suppliedSensorsAreFreshOrStale : Obligations.SuppliedSensorsAreFreshOrStale := by
  intro a b c d sensor s trip holds given held fresh
  have heldEq (v : Int) : clampInt (-400) 1500 v = held v := clampInt_eq (by decide)
  refine ⟨fun hq first second => ?supplied, fun hs on live below => ?stale, fun hs still => ?none⟩
  case supplied =>
    rw [← heldEq] at first second
    have served := serve_tempSupply (s := huntAgain s) trip holds first second
    let two := supplyField 5 (given c d) (supplyField 4 (given a b) (huntAgain s))
    have frame : two = { huntAgain s with
        thu.sensors := (s.thu.sensors.set 4 (fresh (given a b) s.thu.sensors[4])).set 5
          (fresh (given c d) s.thu.sensors[5])
        flt := two.flt } := by
      have freshEq (v : Int) (r : SensorRecord) : suppliedRecord (isOn s) v r = fresh v r := by
        simp only [suppliedRecord, heldEq]
        rfl
      rw [← freshEq, ← freshEq]
      exact supplyFields_frame (given a b) (given c d) (huntAgain s)
    obtain ⟨t, ended, answer, kept⟩ := finish_answered (u := two) hq served (by rw [frame]; rfl)
      (by rw [frame]; exact ⟨rfl, rfl, fun _ => rfl⟩) (by rw [frame]; rfl)
    have thu : t.thu = two.thu := by rw [kept]
    rw [← thu] at answer
    refine ⟨t, ended, ?_, _, _, answer, ?_⟩
    · rw [kept, frame]
      rfl
    · rw [doneStatus_eq_one, Bool.or_eq_true, supplyClamped_iff, supplyClamped_iff]
  case stale =>
    have running : isOn s = true := by simp [isOn, on]
    let stale : State := setSensor sensor.sensor { s.thu.sensors[sensor.sensor] with
      value := s.thu.settings.staleSubstitute, stale := true, substitute := true, takesPart := true
      age := s.thu.settings.freshness * 1000 } s
    let told := raise (.supplyStale sensor.sensor s.thu.settings.staleSubstitute) stale
    let t := detectMild .supplyStale (byteOf sensor.sensor.val) told
    have reports : OnlyReports stale t := (raise_frame _ _).trans (detectMild_frame _ _ _)
    have still : judgeTrip t = t := by
      have quietTrip : tripHolds t.thu = false := by
        rw [reports]
        exact tripHolds_set holds below
      exact judgeTrip_none (by rw [reports]; exact trip) quietTrip
    have ended : freshnessReached sensor.sensor s = t := by
      have due : (isOn s && !s.thu.sensors[sensor.sensor].stale) = true := by
        rw [live, running]
        rfl
      rw [freshnessReached, if_pos due, goStale_on running (by cases sensor <;> simp [SupplyId.sensor])]
      exact still
    have set : SameBus s stale := ⟨rfl, rfl, fun _ => rfl⟩
    have before : told.flt.get .supplyStale = s.flt.get .supplyStale :=
      (keepsBeside_raise _ stale).fault .supplyStale (by decide)
    have after : t.flt.get .supplyStale =
        recordedFault .supplyStale (byteOf sensor.sensor.val) told.uptime (s.flt.get .supplyStale) := by
      rw [← before]
      exact detectMild_get (by decide) _ _
    refine ⟨t, ?_, ?_, ?_⟩
    · show finish s (freshnessReached sensor.sensor s) = _
      rw [ended]
      exact finish_settled hs (set.trans reports.sameBus) reports.psq
    · unfold recorded
      rw [after]
      exact ⟨rfl, rfl, rfl, rfl⟩
    · rw [reports]
      rfl
  case none =>
    have none : freshnessReached sensor.sensor s = s := by
      refine if_neg ?_
      rcases still with off | stale
      · simp [isOn, off]
      · rw [stale]
        simp
    show finish s (freshnessReached sensor.sensor s) = _
    rw [none]
    exact finish_same hs

end Sys2Proof.Proofs
end

section
/-! What PSQ's neighbours leave of PSQ, of the inputs, of LWU, of the link and of THU, when a change of the platform
state is handed on to them (R147) or the containment level moves (R167). -/

namespace Sys2Proof.Machine

open Sys2Proof.Safety

/-! ## The claims that are handed on -/

/-- THU's settings, table and derate, and its board sensors. -/
def boardView (s : State) : ThermalSettings × Vector DerateEntry 4 × Fin 4 × Nat × Bool ×
    (SensorRecord × SensorRecord × SensorRecord × SensorRecord) :=
  (s.thu.settings, s.thu.table, s.thu.heldEntry, s.thu.derate, s.thu.wakeCondition,
    (s.thu.sensors[0], s.thu.sensors[1], s.thu.sensors[2], s.thu.sensors[3]))

/-- What PSQ's neighbours do not touch. -/
def handView (s : State) : Sequencer × Inputs × WakeUnit × LinkPort × ThermalSettings × Vector DerateEntry 4 × Fin 4 ×
    Nat × Bool × (SensorRecord × SensorRecord × SensorRecord × SensorRecord) :=
  (s.psq, s.inputs, s.lwu, s.lkp, boardView s)

/-- A claim about those blocks, the thermal trip and its fault record, that the end of a trip keeps. -/
structure Outlasts (P : State → Prop) : Prop where
  view {s t : State} (h : P s)
    (e : (handView t, t.thu.trip, t.flt.get .thermalTrip) = (handView s, s.thu.trip, s.flt.get .thermalTrip)) : P t
  ended {s : State} (h : P s) : P (judgeTripEnd s)

variable {P : State → Prop} (k : Outlasts P) {s t : State}

include k

/-! ## Reports, faults and charge -/

theorem Outlasts.untouched (h : P s)
    (e : (handView t, t.thu.trip, t.flt.record) = (handView s, s.thu.trip, s.flt.record)) : P t := by
  simp only [Prod.mk.injEq] at e
  obtain ⟨view, trip, record⟩ := e
  exact k.view h (by simp only [view, trip, FaultUnit.get, record])

theorem Outlasts.after_keeps {ks : List FaultKind} (hk : .thermalTrip ∉ ks) (g : KeepsBeside ks s t)
    (h : P s) : P t := by
  have record := g.fault .thermalTrip hk
  refine k.view h ?_
  rw [record, g.reports]
  rfl

theorem Outlasts.after_raise {n : Notice} (h : P s) : P (raise n s) :=
  k.after_keeps (by decide) (keepsBeside_raise n s) h

theorem Outlasts.after_raiseAll {ns : List Notice} (h : P s) : P (raiseAll ns s) :=
  k.after_keeps (by decide) (keepsBeside_raiseAll ns s) h

theorem Outlasts.after_detectMild {f : FaultKind} {detail : Byte} (hf : .thermalTrip ∉ f :: memoryKinds) (h : P s) :
    P (detectMild f detail s) :=
  k.after_keeps hf (keepsBeside_detectMild f detail s) h

theorem Outlasts.after_endFault {f : FaultKind} (hf : .thermalTrip ∉ [f]) (h : P s) : P (endFault f s) :=
  k.after_keeps hf (keepsBeside_endFault List.mem_cons_self s) h

theorem Outlasts.after_refreshChargeLed (h : P s) : P (refreshChargeLed s) := k.untouched h rfl

theorem Outlasts.after_chargeRefresh {ns : List Notice} (h : P s) : P (chargeRefresh true ns s) := by
  obtain ⟨ns', e⟩ := chargeRefresh_eq ns s
  rw [e]
  exact k.after_raiseAll (k.after_refreshChargeLed (k.untouched (t := chargeTaken s) h rfl))

/-! ## Fans and containment -/

theorem Outlasts.after_remakeFan {i : FanId} (h : P s) : P (remakeFan i s) := by
  unfold remakeFan
  exact holds_ite (k.untouched h rfl) h

theorem Outlasts.after_remakeDuties (h : P s) : P (remakeDuties s) := k.after_remakeFan (k.after_remakeFan h)

theorem Outlasts.after_cancelOverride {i : FanId} (h : P s) : P (cancelOverride i s) := by
  unfold cancelOverride setOverride
  exact holds_ite h (k.after_raiseAll (k.after_remakeFan (k.untouched h rfl)))

theorem Outlasts.after_fansTakeState {leaving : Bool} (h : P s) : P (fansTakeState leaving s) := by
  unfold fansTakeState
  exact k.after_remakeDuties (holds_ite (k.after_cancelOverride (k.after_cancelOverride h)) h)

theorem Outlasts.after_setLevel {l : ContainmentLevel} (h : P s) : P (setLevel l s) := by
  unfold setLevel
  have level : P { s with flt.level := l } := k.untouched h rfl
  exact holds_ite h (k.untouched (k.after_remakeDuties (k.after_chargeRefresh level)) rfl)

theorem Outlasts.after_raiseLevel (h : P s) : P (raiseLevel s) := by
  unfold raiseLevel
  exact holds_ite (k.after_setLevel h) h

theorem Outlasts.after_releaseAtStart (h : P s) : P (releaseAtStart s) := by
  unfold releaseAtStart
  exact holds_ite h (k.after_setLevel h)

/-! ## The keyboard -/

theorem Outlasts.after_withScanner {x : Scanner} (h : P s) : P { s with kbs := x } := k.untouched h rfl

theorem Outlasts.after_handRelease {synthetic : Bool} {p : Position} {code : Byte} {layer : Bool} (h : P s) :
    P (handRelease synthetic p code layer s) := by
  have queued {e : KeyEvent} : P (offerKey e s) := by
    unfold offerKey
    exact holds_ite (k.untouched h rfl) (k.untouched h rfl)
  unfold handRelease typeRelease queueEvent
  exact holds_ite (holds_ite (k.untouched queued rfl) queued) h

theorem Outlasts.after_setScanMode {m : ScanMode} (h : P s) : P (setScanMode m s) := by
  unfold setScanMode
  exact holds_ite h (k.untouched h rfl)

theorem Outlasts.after_beginSuppression {m : ScanMode} (h : P s) : P (beginSuppression m s) := by
  have released := holds_foldl (P := P) (f := syntheticRelease) (reportedSet (setScanMode m s).kbs)
    (fun hu => k.after_handRelease (k.after_withScanner hu)) (k.after_setScanMode (m := m) h)
  exact k.untouched released rfl

theorem Outlasts.after_updateKeyboard (h : P s) : P (updateKeyboard s) := by
  unfold updateKeyboard endSuppression
  exact holds_ite (k.after_beginSuppression (k.after_withScanner h))
    (holds_ite (k.untouched (k.after_setScanMode (k.after_withScanner h)) rfl)
      (k.after_setScanMode (k.after_withScanner h)))

/-! ## Supplied sensors -/

/-- A supplied sensor is no board sensor. -/
theorem Outlasts.after_setSensor {i : Fin 8} {r : SensorRecord} (hi : 4 ≤ i.val) (h : P s) : P (setSensor i r s) := by
  have other (n : Nat) (hn : n < 4) : i.val ≠ n := by omega
  refine k.view h ?_
  simp [handView, boardView, setSensor, other]

theorem Outlasts.after_thermalLeaveOn (h : P s) : P (thermalLeaveOn s) := by
  unfold thermalLeaveOn
  exact k.ended (k.after_endFault (by decide) (k.after_setSensor (by decide) (k.after_setSensor (by decide) h)))

theorem Outlasts.after_thermalEnterOn (h : P s) : P (thermalEnterOn s) := by
  unfold thermalEnterOn
  exact k.after_setSensor (by decide) (k.after_setSensor (by decide) h)

/-! ## All that a change of the platform state hands on (R147) -/

omit k in
/-- The state with the new platform state, the wakes cleared at the beginning of a transition out of ON. -/
def stateMoved (new : PlatformState) (s : State) : State :=
  let s1 := { s with
    psq.state := new, psq.lastRest := if restState s.psq.state then s.psq.state else s.psq.lastRest }
  if new = .suspending ∨ new = .stopping then clearPending s1 else s1

omit k in
/-- What the neighbours do with it, before the link. -/
def neighboursTake (old new : PlatformState) (s : State) : State :=
  let s3 := fansTakeState (old = .on ∧ new ≠ .on) (updateKeyboard s)
  let s4 :=
    if old = .on ∧ new ≠ .on then thermalLeaveOn s3 else if old ≠ .on ∧ new = .on then thermalEnterOn s3 else s3
  refreshPowerLed (hastenPolls s4)

omit k in
theorem changeState_eq (new : PlatformState) (s : State) :
    changeState new s =
      if new = .starting ∨ new = .off then linkToSetup (neighboursTake s.psq.state new (stateMoved new s))
      else neighboursTake s.psq.state new (stateMoved new s) := rfl

theorem Outlasts.after_neighboursTake {old new : PlatformState} (h : P s) : P (neighboursTake old new s) := by
  unfold neighboursTake
  extract_lets t3 t4
  have h3 : P t3 := k.after_fansTakeState (k.after_updateKeyboard h)
  clear_value t3
  have h4 : P t4 := holds_ite (k.after_thermalLeaveOn h3) (holds_ite (k.after_thermalEnterOn h3) h3)
  exact k.untouched h4 rfl

end Sys2Proof.Machine
end

section
/-! Changes of the platform state and wakes, as equations on the blocks that a reader of PSQ asks about (R134 to R160).
-/

namespace Sys2Proof.Machine

open Sys2Proof.Safety

variable {s t : State} {new : PlatformState} {i j : WakeSource}

/-! ## What the neighbours leave -/

theorem judgeTripEnd_view (s : State) : handView (judgeTripEnd s) = handView s := by
  unfold judgeTripEnd
  split <;> rfl

theorem outlasts_handView (s : State) : Outlasts (fun t => handView t = handView s) where
  view h e := (Prod.mk.inj e).1.trans h
  ended h := (judgeTripEnd_view _).trans h

theorem neighboursTake_view (old new : PlatformState) (s : State) : handView (neighboursTake old new s) = handView s :=
  (outlasts_handView s).after_neighboursTake rfl

/-! ## Wake sources (R134 to R138) -/

theorem clearPending_frame (s : State) : clearPending s = { s with lwu := (clearPending s).lwu } := by
  have each (xs : List WakeSource) (s : State) :
      xs.foldl resetHeld s = { s with lwu := (xs.foldl resetHeld s).lwu } := by
    induction xs generalizing s with
    | nil => rfl
    | cons i xs ih =>
      have first : resetHeld s i = { s with lwu := (resetHeld s i).lwu } := by
        unfold resetHeld
        split <;> rfl
      rw [List.foldl_cons, ih, first]
  unfold clearPending
  rw [each]

/-- Whether a source is held is no matter of the table. -/
theorem sourceHeld_markSource (i j : WakeSource) (s : State) : sourceHeld (markSource i s) j = sourceHeld s j := by
  cases j <;> rfl

theorem sourceHeld_resetHeld (i j : WakeSource) (s : State) : sourceHeld (resetHeld s i) j = sourceHeld s j := by
  unfold resetHeld
  split
  · exact sourceHeld_markSource i j s
  · rfl

theorem resetHeld_entry (i j : WakeSource) (s : State) :
    ((resetHeld s i).lwu.get j).pending = ((s.lwu.get j).pending || (decide (i = j) && sourceHeld s j)) ∧
      ((resetHeld s i).lwu.get j).offEnable = (s.lwu.get j).offEnable := by
  by_cases e : j = i
  · subst e
    unfold resetHeld
    split
    next held => simp [markSource, held]
    next free => simp [free]
  · have ne : ¬i = j := fun same => e same.symm
    unfold resetHeld
    split
    · simp [markSource, WakeUnit.get_set_ne _ _ e, ne]
    · simp [ne]

/-- After a clear, a source is pending just where it is held (R136, R137). -/
theorem clearPending_entry (j : WakeSource) (s : State) :
    ((clearPending s).lwu.get j).pending = sourceHeld s j ∧
      ((clearPending s).lwu.get j).offEnable = (s.lwu.get j).offEnable := by
  have each (xs : List WakeSource) (s : State) :
      ((xs.foldl resetHeld s).lwu.get j).pending = ((s.lwu.get j).pending || (decide (j ∈ xs) && sourceHeld s j)) ∧
        ((xs.foldl resetHeld s).lwu.get j).offEnable = (s.lwu.get j).offEnable := by
    induction xs generalizing s with
    | nil => simp
    | cons i xs ih =>
      obtain ⟨pending, enable⟩ := resetHeld_entry i j s
      obtain ⟨rest, enables⟩ := ih (resetHeld s i)
      refine ⟨?_, by rw [List.foldl_cons, enables, enable]⟩
      rw [List.foldl_cons, rest, pending, sourceHeld_resetHeld]
      by_cases e : i = j
      · subst e
        cases (s.lwu.get i).pending <;> cases sourceHeld s i <;> simp
      · have ne : ¬j = i := fun same => e same.symm
        simp [e, ne]
  unfold clearPending
  obtain ⟨pending, enable⟩ := each allWakeSources
    { s with lwu.table := s.lwu.table.map fun e => { e with pending := false } }
  have cleared : sourceHeld { s with lwu.table := s.lwu.table.map fun e => { e with pending := false } } j =
      sourceHeld s j := by
    cases j <;> rfl
  refine ⟨?_, enable.trans (by simp [WakeUnit.get])⟩
  rw [pending, cleared]
  simp [WakeUnit.get]

theorem wakeDue_eq_false : wakeDue s = false ↔ ∀ j, sourceDue s j = false := by
  simp [wakeDue, List.any_eq_false]

theorem wakeDue_of_sourceDue (h : sourceDue s i = true) : wakeDue s = true :=
  List.any_eq_true.mpr ⟨i, mem_allWakeSources i, h⟩

/-- With no wake due nothing is offered. -/
theorem offerWake_none (h : wakeDue s = false) : offerWake s = s := by
  simp [offerWake, h]

/-- In OFF, while a SEVERE fault is active, an offer changes at most the CHARGE LED. -/
theorem offerWake_refused (off : s.psq.state = .off) (severe : severeActive s.flt = true) :
    offerWake s = { s with ind := (offerWake s).ind } := by
  unfold offerWake
  split
  · rfl
  · rw [off]
    simp only [startAllowed, severe, Bool.not_true, Bool.and_false, Bool.false_eq_true, if_false]
    rfl

/-! ## Changes of the platform state (R147) -/

/-- What a change of the platform state makes of PSQ, and of LWU, the inputs, the link and THU. -/
theorem changeState_view (new : PlatformState) (s : State) :
    handView (changeState new s) =
      handView (if new = .starting ∨ new = .off then linkToSetup (stateMoved new s) else stateMoved new s) := by
  have taken := neighboursTake_view s.psq.state new (stateMoved new s)
  rw [changeState_eq]
  simp only [handView, Prod.mk.injEq] at taken
  obtain ⟨psq, inputs, lwu, lkp, board⟩ := taken
  split
  · exact congrArg₂ Prod.mk psq (congrArg₂ Prod.mk inputs (congrArg₂ Prod.mk lwu
      (congrArg₂ Prod.mk (congrArg (fun x : LinkPort => { x with run := false }) lkp) board)))
  · exact congrArg₂ Prod.mk psq (congrArg₂ Prod.mk inputs (congrArg₂ Prod.mk lwu (congrArg₂ Prod.mk lkp board)))

theorem stateMoved_frame (new : PlatformState) (s : State) :
    stateMoved new s =
      { s with
        psq.state := new, psq.lastRest := if restState s.psq.state then s.psq.state else s.psq.lastRest
        lwu := (stateMoved new s).lwu } := by
  unfold stateMoved
  dsimp only
  split
  · rw [clearPending_frame]
  · rfl

theorem changeState_psq (new : PlatformState) (s : State) :
    (changeState new s).psq =
      { s.psq with
        state := new, lastRest := if restState s.psq.state then s.psq.state else s.psq.lastRest } := by
  have view := congrArg Prod.fst (changeState_view new s)
  refine view.trans ?_
  rw [stateMoved_frame]
  split <;> rfl

theorem changeState_inputs (new : PlatformState) (s : State) : (changeState new s).inputs = s.inputs := by
  have view := congrArg (fun v => v.2.1) (changeState_view new s)
  refine view.trans ?_
  rw [stateMoved_frame]
  split <;> rfl

theorem changeState_lwu (new : PlatformState) (s : State) : (changeState new s).lwu = (stateMoved new s).lwu := by
  have view := congrArg (fun v => v.2.2.1) (changeState_view new s)
  refine view.trans ?_
  split <;> rfl

theorem changeState_lkp (new : PlatformState) (s : State) :
    (changeState new s).lkp = if new = .starting ∨ new = .off then { s.lkp with run := false } else s.lkp := by
  have view := congrArg (fun v => v.2.2.2.1) (changeState_view new s)
  refine view.trans ?_
  rw [stateMoved_frame]
  split <;> rfl

end Sys2Proof.Machine
end

section
/-! Claims about THU's board sensors and the thermal trip, which PSQ's and LWU's operations keep (R73). -/

namespace Sys2Proof.Machine

open Sys2Proof.Safety

/-! ## The claims -/

/-- A claim about THU's board sensors, settings and table, the thermal trip and its fault record, that the end of a trip
keeps. -/
structure Withstands (P : State → Prop) : Prop where
  view {s t : State} (h : P s)
    (e : (boardView t, t.thu.trip, t.flt.get .thermalTrip) = (boardView s, s.thu.trip, s.flt.get .thermalTrip)) : P t
  ended {s : State} (h : P s) : P (judgeTripEnd s)

theorem Withstands.outlasts {P : State → Prop} (k : Withstands P) : Outlasts P where
  view h e := by
    simp only [handView, Prod.mk.injEq] at e
    obtain ⟨⟨-, -, -, -, board⟩, trip, record⟩ := e
    exact k.view h (by rw [board, trip, record])
  ended := k.ended

/-- The trip is in force and detected, and a board sensor holds it. -/
def Tripped (s : State) : Prop :=
  s.thu.trip = true ∧ (∃ i : Fin 4, s.thu.settings.trip ≤ s.thu.sensors[i.castLE (by decide : 4 ≤ 8)].value) ∧
    (s.flt.get .thermalTrip).status = true ∧ (s.flt.get .thermalTrip).active = true

/-- Each board sensor is read from the view. -/
theorem board_of_view {s t : State} (h : boardView t = boardView s) :
    t.thu.settings = s.thu.settings ∧
      ∀ i : Fin 4, t.thu.sensors[i.castLE (by decide : 4 ≤ 8)] = s.thu.sensors[i.castLE (by decide : 4 ≤ 8)] := by
  simp only [boardView, Prod.mk.injEq] at h
  obtain ⟨settings, -, -, -, -, zero, one, two, three⟩ := h
  refine ⟨settings, fun i => ?_⟩
  fin_cases i
  · exact zero
  · exact one
  · exact two
  · exact three

/-- A board sensor at the trip temperature holds the trip. -/
theorem tripHolds_board {u : ThermalUnit} {i : Fin 4}
    (h : u.settings.trip ≤ u.sensors[i.castLE (by decide : 4 ≤ 8)].value) :
    tripHolds u = true := by
  refine List.any_eq_true.mpr ⟨i.castLE (by decide), ?_, ?_⟩
  · fin_cases i <;> decide
  · have board : decide ((i.castLE (by decide : 4 ≤ 8) : Fin 8).val < 4) = true := decide_eq_true i.isLt
    rw [atTrip, board, decide_eq_true h]
    rfl

theorem withstands_tripped : Withstands Tripped where
  view h e := by
    obtain ⟨trip, ⟨i, hot⟩, status, active⟩ := h
    simp only [Prod.mk.injEq] at e
    obtain ⟨board, sameTrip, record⟩ := e
    obtain ⟨settings, sensors⟩ := board_of_view board
    refine ⟨sameTrip.trans trip, ⟨i, ?_⟩, record ▸ status, record ▸ active⟩
    rw [settings, sensors]
    exact hot
  ended {s} h := by
    have stands : judgeTripEnd s = s := by
      obtain ⟨-, ⟨i, hot⟩, -⟩ := h
      simp [judgeTripEnd, tripHolds_board hot]
    rwa [stands]

variable {P : State → Prop} (k : Withstands P) {s t : State}

include k

/-! ## PSQ and LWU (R134 to R155) -/

theorem Withstands.untouched (h : P s)
    (e : (boardView t, t.thu.trip, t.flt.record) = (boardView s, s.thu.trip, s.flt.record)) : P t := by
  simp only [Prod.mk.injEq] at e
  obtain ⟨board, trip, record⟩ := e
  exact k.view h (by simp only [board, trip, FaultUnit.get, record])

theorem Withstands.after_withWake {w : WakeUnit} (h : P s) : P { s with lwu := w } := k.untouched h rfl

theorem Withstands.after_recordWake (h : P s) : P (recordWake s) := by
  rw [recordWake_frame]
  exact k.after_withWake h

theorem Withstands.after_clearPending (h : P s) : P (clearPending s) := by
  rw [clearPending_frame]
  exact k.untouched h rfl

theorem Withstands.after_changeState {new : PlatformState} (h : P s) : P (changeState new s) := by
  have moved : P (stateMoved new s) := by
    rw [stateMoved_frame]
    exact k.untouched h rfl
  have taken := k.outlasts.after_neighboursTake (old := s.psq.state) (new := new) moved
  rw [changeState_eq]
  exact holds_ite (k.untouched taken rfl) taken

theorem Withstands.after_beginGrace (h : P s) : P (beginGrace s) := by
  unfold beginGrace
  have begun : P { s with psq.grace := some (s.psq.settings.grace * 1000) } := k.untouched h rfl
  exact k.outlasts.after_refreshChargeLed (k.after_withWake (k.outlasts.after_raise begun))

theorem Withstands.after_endGrace {event : Nat} {off : Bool} (h : P s) : P (endGrace event off s) := by
  unfold endGrace
  split
  · exact h
  · have ended : P { s with psq.grace := none } := k.untouched h rfl
    exact k.outlasts.after_refreshChargeLed (k.outlasts.after_raise ended)

theorem Withstands.after_enterMpgWait (h : P s) : P (enterMpgWait s) := by
  unfold enterMpgWait
  exact holds_ite (k.untouched h rfl) (k.untouched h rfl)

theorem Withstands.after_takeStart (h : P s) : P (takeStart s) := by
  unfold takeStart
  extract_lets t0 wake t1 t2 t3
  have h0 : P t0 := k.after_recordWake h
  clear_value t0
  have h1 : P t1 := k.untouched h0 rfl
  have h2 : P t2 := k.outlasts.after_releaseAtStart (k.after_clearPending (k.after_changeState h1))
  clear_value t2
  have h3 : P t3 := holds_ite (k.after_beginGrace h2) h2
  exact holds_ite (k.after_enterMpgWait h3) h3

theorem Withstands.after_takeResume (h : P s) : P (takeResume s) := by
  unfold takeResume
  exact k.after_enterMpgWait (k.after_clearPending (k.after_changeState (k.after_recordWake h)))

theorem Withstands.after_offerWake (h : P s) : P (offerWake s) := by
  unfold offerWake
  refine holds_ite h ?_
  split
  · exact k.after_takeResume h
  · exact holds_ite (k.after_takeStart h) (k.untouched h rfl)
  · exact h

theorem Withstands.after_settingEvent {i : WakeSource} (h : P s) : P (settingEvent i s) := by
  have marked : P (markSource i s) := k.after_withWake h
  exact holds_ite (k.after_offerWake marked) marked

theorem Withstands.after_arriveOff (h : P s) : P (arriveOff s) := by
  unfold arriveOff
  extract_lets sequencer t1
  have h1 : P t1 := k.after_changeState (k.untouched h rfl)
  exact k.after_endGrace (k.outlasts.after_raise (k.untouched h1 rfl))

theorem Withstands.after_forcedStop {cause : StopCause} (h : P s) : P (forcedStop cause s) := by
  unfold forcedStop
  have stopping : P { s with psq.lastStop := cause, psq.stopKind := .forced, psq.step := .none, psq.stepLeft := 0 } :=
    k.untouched h rfl
  have changed := holds_ite (c := s.psq.state = .stopping) stopping (k.after_changeState (new := .stopping) stopping)
  exact holds_ite h (k.after_arriveOff (k.untouched changed rfl))

theorem Withstands.after_contain {f : FaultKind} (h : P s) : P (contain f s) := by
  unfold contain
  split
  · exact h
  · exact k.outlasts.after_raiseLevel h
  · exact k.outlasts.after_setLevel h
  · exact k.outlasts.after_raiseLevel (k.after_forcedStop h)

/-- A SEVERE detection, from the record that it makes. -/
theorem Withstands.after_detect {f : FaultKind} {detail : Byte} (severe : f.severe = true)
    (h : P { s with flt := s.flt.set f (recordedFault f detail s.uptime (s.flt.get f)) }) : P (detect f detail s) := by
  rw [detect_severe _ _ _ severe]
  unfold detectWith
  have contained := k.after_contain (f := f) h
  have shown := k.outlasts.after_refreshChargeLed contained
  exact holds_ite contained (holds_ite shown (k.outlasts.after_raise shown))

theorem Withstands.after_offerAtOff {before : State} (h : P s) : P (offerAtOff before s) := by
  unfold offerAtOff
  exact holds_ite (k.after_offerWake h) h

theorem Withstands.after_deliver {o : Outgoing} (h : P s) : P (deliver o s) := by
  unfold deliver
  exact holds_ite (k.untouched h rfl) (k.untouched h rfl)

end Sys2Proof.Machine
end

section
/-! THERMAL_CONFIG (R74, R86): what is refused, what is taken, and that the end of the command leaves it. -/

namespace Sys2Proof.Machine

open Sys2Proof.Safety

variable {settings : ThermalSettings} {table : Vector DerateEntry 4} {s t u : State}

/-! ## The settings and the table -/

/-- THU holds these settings and this table. -/
def Configured (settings : ThermalSettings) (table : Vector DerateEntry 4) (t : State) : Prop :=
  t.thu.settings = settings ∧ t.thu.table = table

/-- And the entry that heating gives on it (R74, R86). -/
def Entered (settings : ThermalSettings) (table : Vector DerateEntry 4) (t : State) : Prop :=
  Configured settings table t ∧ t.thu.heldEntry = heatingEntry table (chargeTemp t.thu)

theorem withstands_configured : Withstands (Configured settings table) where
  view h e := by
    simp only [boardView, Prod.mk.injEq] at e
    obtain ⟨⟨sameSettings, sameTable, -⟩, -⟩ := e
    exact ⟨sameSettings.trans h.1, sameTable.trans h.2⟩
  ended {s} h := by
    unfold judgeTripEnd
    split <;> exact h

theorem withstands_entered : Withstands (Entered settings table) where
  view {s t} h e := by
    obtain ⟨⟨hasSettings, hasTable⟩, entry⟩ := h
    simp only [boardView, Prod.mk.injEq] at e
    obtain ⟨⟨sameSettings, sameTable, sameEntry, -, -, -, one, two, -⟩, -⟩ := e
    have temp : chargeTemp t.thu = chargeTemp s.thu := by simp only [chargeTemp, one, two]
    exact ⟨⟨sameSettings.trans hasSettings, sameTable.trans hasTable⟩, by rw [sameEntry, entry, temp]⟩
  ended {s} h := by
    unfold judgeTripEnd
    split <;> exact h

theorem configured_judgeTrip (h : Configured settings table s) : Configured settings table (judgeTrip s) := by
  have k := withstands_configured (settings := settings) (table := table)
  unfold judgeTrip
  exact holds_ite (k.outlasts.after_raise (k.after_detect rfl h)) (k.ended h)

theorem configured_judgeWakeCondition (h : Configured settings table s) :
    Configured settings table (judgeWakeCondition s) := by
  have k := withstands_configured (settings := settings) (table := table)
  have judged : Configured settings table { s with thu.wakeCondition := wakeHolds s.thu } := h
  unfold judgeWakeCondition
  exact holds_ite h (holds_ite (k.after_settingEvent judged) judged)

theorem configured_supplyUnderSettings {i : Fin 8} (h : Configured settings table s) :
    Configured settings table (supplyUnderSettings i s) := by
  have k := (withstands_configured (settings := settings) (table := table)).outlasts
  have set (r : SensorRecord) : Configured settings table (setSensor i r s) := h
  have stale : Configured settings table (goStale i s) := by
    unfold goStale judgeSupplyStale
    have detected := k.after_detectMild (f := .supplyStale) (detail := byteOf i.val) (by decide)
      (k.after_raise (n := .supplyStale i s.thu.settings.staleSubstitute) (set { s.thu.sensors[i] with
        value := s.thu.settings.staleSubstitute, stale := true, substitute := true, takesPart := isOn s
        age := s.thu.settings.freshness * 1000 }))
    exact holds_ite detected (k.after_endFault (by decide) detected)
  unfold supplyUnderSettings
  exact holds_ite (set _) (holds_ite stale h)

theorem entered_applyDerate (h : Entered settings table s) : Entered settings table (applyDerate s) := by
  have thu : (applyDerate s).thu = { s.thu with derate := derateOf s } := by rw [applyDerate_frame]
  obtain ⟨⟨hasSettings, hasTable⟩, entry⟩ := h
  unfold Entered Configured
  rw [thu]
  exact ⟨⟨hasSettings, hasTable⟩, entry⟩

theorem entered_of_configured (h : Configured settings table s) :
    Entered settings table { s with thu.heldEntry := heatingEntry s.thu.table (chargeTemp s.thu) } :=
  ⟨h, congrArg (heatingEntry · (chargeTemp s.thu)) h.2⟩

theorem entered_takeThermal : Entered settings table (takeThermal settings table s) := by
  have k := withstands_entered (settings := settings) (table := table)
  have given : Configured settings table { s with thu.settings := settings, thu.table := table } := ⟨rfl, rfl⟩
  have supplied := configured_supplyUnderSettings (i := 5) (configured_supplyUnderSettings (i := 4) given)
  have judged := configured_judgeWakeCondition (configured_judgeTrip supplied)
  exact k.outlasts.after_remakeDuties (entered_applyDerate (entered_of_configured judged))

/-- The end of the command leaves it. -/
theorem entered_conclude {before : State} (h : Entered settings table s) :
    Entered settings table (conclude before s) := by
  have offered : Entered settings table (offerAtOff before s) := withstands_entered.after_offerAtOff h
  have thu : (conclude before s).thu = (offerAtOff before s).thu := by
    unfold conclude
    rw [(onlyGrant_busGrant _).1]
  unfold Entered Configured
  rw [thu]
  exact offered

/-! ## How far it reaches -/

theorem setSensor_reach (i : Fin 8) (r : SensorRecord) (s : State) : OnlyPlatform s (setSensor i r s) := rfl

theorem goStale_reach (i : Fin 8) (s : State) : OnlyPlatform s (goStale i s) := by
  unfold goStale judgeSupplyStale
  have detected := ((setSensor_reach i { s.thu.sensors[i] with
      value := s.thu.settings.staleSubstitute, stale := true, substitute := true, takesPart := isOn s
      age := s.thu.settings.freshness * 1000 } s).trans
    (raise_frame (.supplyStale i s.thu.settings.staleSubstitute) _).onlyPlatform).trans
      (detectMild_frame .supplyStale (byteOf i.val) _).onlyPlatform
  exact onlyPlatform_ite detected (detected.trans (endFault_frame _ _).onlyPlatform)

theorem supplyUnderSettings_reach (i : Fin 8) (s : State) : OnlyPlatform s (supplyUnderSettings i s) := by
  unfold supplyUnderSettings
  exact onlyPlatform_ite (setSensor_reach i _ s) (onlyPlatform_ite (goStale_reach i s) (.refl s))

theorem applyDerate_reach (s : State) : OnlyPlatform s (applyDerate s) := by
  have told : OnlyPlatform s { s with thu.derate := derateOf s } := rfl
  exact told.trans (applyDerate_frame s).onlyPlatform

/-- The held entry is what heating gives, and the derate what the entry gives. -/
theorem applyHeldEntry_reach (s : State) :
    OnlyPlatform s (applyDerate { s with thu.heldEntry := heatingEntry s.thu.table (chargeTemp s.thu) }) := by
  have held : OnlyPlatform s { s with thu.heldEntry := heatingEntry s.thu.table (chargeTemp s.thu) } := rfl
  exact held.trans (applyDerate_reach _)

theorem takeThermal_reach (settings : ThermalSettings) (table : Vector DerateEntry 4) (s : State) :
    OnlyPlatform s (takeThermal settings table s) := by
  have given : OnlyPlatform s { s with thu.settings := settings, thu.table := table } := rfl
  have supplied := (given.trans (supplyUnderSettings_reach 4 _)).trans (supplyUnderSettings_reach 5 _)
  have judged := (supplied.trans (judgeTrip_reach _)).trans (judgeWakeCondition_reach _)
  exact (judged.trans (applyHeldEntry_reach _)).trans (remakeDuties_reach _)

/-- The table is sound where its thresholds rise and its factors do not (R74, R86). -/
theorem tableSound_iff (x : Vector DerateEntry 4) :
    tableSound x = true ↔
      (x[0].threshold < x[1].threshold ∧ x[1].threshold < x[2].threshold ∧ x[2].threshold < x[3].threshold) ∧
        x[1].factor ≤ x[0].factor ∧ x[2].factor ≤ x[1].factor ∧ x[3].factor ≤ x[2].factor := by
  simp [tableSound, and_assoc]

theorem doneStatus_bne (given asked : List Byte) : doneStatus (given != asked) = if given = asked then 0 else 1 := by
  unfold doneStatus
  by_cases same : given = asked
  · simp [same, stOk]
  · simp [same, stAdjusted]

theorem thermalBytes_congr {x y : ThermalUnit} (settings : x.settings = y.settings) (table : x.table = y.table) :
    thermalBytes x = thermalBytes y := by
  simp only [thermalBytes, settings, table]

end Sys2Proof.Machine

namespace Sys2Proof.Proofs

open Sys2Proof.Machine Sys2Proof.Safety

variable {s u : State}

/-- A request that is served at once and leaves the link but for its state: the answer stays in the queue to the end of
the command (R181, R185). -/
theorem finish_delivered {type : Byte} {serve : List Byte → State → State × List Byte} {p reply : List Byte}
    (hq : quiet s = true) (served : serve p (huntAgain s) = (u, reply)) (link : KeepsLink (huntAgain s) u) :
    let t := conclude s (deliver (replyTo type reply) u)
    finish s (request type serve p s) = .next t ∧ answers type reply s t := by
  have idle := quiet_linkIdle hq
  refine ⟨by rw [request_idle _ _ _ _ idle, served]; rfl, ?_⟩
  refine answers_kept (deliver_answers idle link) ?_
  have offered : KeepsLink (deliver (replyTo type reply) u) (offerAtOff s (deliver (replyTo type reply) u)) := by
    unfold offerAtOff
    split
    · exact KeepsLink.platform rfl (offerWake_reach _)
    · rfl
  unfold conclude
  refine offered.trans ?_
  unfold KeepsLink
  rw [(onlyGrant_busGrant _).1]

/-- Settles O46: the table is judged as R86 says, and what is taken stands to the end of the command. -/
theorem thermalConfigIsRefusedOrTaken : Obligations.ThermalConfigIsRefusedOrTaken := by
  intro p s hq length held entry e0 e1 e2 e3 sound
  have heldEq {lo hi : Int} (h : lo ≤ hi) (i : Nat) : clampInt lo hi (signed16At p i) = held lo hi i := clampInt_eq h
  have entryEq (i : Nat) : entryOf p i = entry i := by
    simp only [entryOf, heldEq (by decide : (-400 : Int) ≤ 1500)]
    rfl
  have table : tableOf p = #v[e0, e1, e2, e3] := by simp only [tableOf, entryEq]; rfl
  have soundEq : tableSound (tableOf p) = true ↔ sound := by
    rw [table]
    exact tableSound_iff _
  have settings : settingsOf p = ⟨max 1 (min 30 (byteAt p 0)), held (-400) 1500 1, held 600 1000 3, held 400 1000 5,
      held 800 1250 7, held 400 1250 9⟩ := by
    simp only [settingsOf, clampNat_eq (by decide : 1 ≤ 30), heldEq (by decide : (-400 : Int) ≤ 1500),
      heldEq (by decide : (600 : Int) ≤ 1000), heldEq (by decide : (400 : Int) ≤ 1000),
      heldEq (by decide : (800 : Int) ≤ 1250), heldEq (by decide : (400 : Int) ≤ 1250)]
  refine ⟨fun unsound => ?refused, fun isSound => ?taken⟩
  case refused =>
    have bad : tableSound (tableOf p) = false := Bool.eq_false_iff.mpr (mt soundEq.mp unsound)
    refine finish_read hq ?_
    simp [serveThermalConfig, length, bad]
    rfl
  case taken =>
    let u := takeThermal (settingsOf p) (tableOf p) (huntAgain s)
    let reply := doneStatus (thermalBytes { s.thu with settings := settingsOf p, table := tableOf p } != p) ::
      thermalBytes u.thu
    have served : serveThermalConfig p (huntAgain s) = (u, reply) := by
      unfold serveThermalConfig
      rw [if_neg (by omega), if_neg (by omega), if_neg (by simp [soundEq.mpr isSound])]
      rfl
    have link : KeepsLink (huntAgain s) u := KeepsLink.platform rfl (takeThermal_reach _ _ _)
    obtain ⟨ended, answer⟩ := finish_delivered (type := 0x41) hq served link
    have made : Entered (settingsOf p) (tableOf p) u := entered_takeThermal
    have entered := entered_conclude (before := s) (withstands_entered.after_deliver (o := replyTo 0x41 reply) made)
    generalize conclude s (deliver (replyTo 0x41 reply) u) = t at ended answer entered
    obtain ⟨⟨sameSettings, sameTable⟩, entryHeld⟩ := entered
    refine ⟨t, ended, sameSettings.trans settings, sameTable.trans table, ?_, ?_⟩
    · refine entryHeld.trans ?_
      rw [table]
      rfl
    · have replied : thermalBytes u.thu = thermalBytes t.thu :=
        thermalBytes_congr (made.1.1.trans sameSettings.symm) (made.1.2.trans sameTable.symm)
      have asked : thermalBytes { s.thu with settings := settingsOf p, table := tableOf p } = thermalBytes u.thu :=
        thermalBytes_congr made.1.1.symm made.1.2.symm
      have replyEq : reply = (if thermalBytes u.thu = p then 0 else 1) :: thermalBytes u.thu := by
        simp only [reply, asked, doneStatus_bne]
      rw [replyEq] at answer
      rw [← replied]
      exact answer

end Sys2Proof.Proofs
end

section
/-! The board conversion (R69, R73): a state on which the last clause of its statement fails. -/

namespace Sys2Proof.Machine

open Sys2Proof.Safety

/-- In ON, a supplied sensor takes part at 150.0 degrees, and no trip is in force: nothing has judged it yet. No run of
the machine ends in such a state, but the statement speaks of every state. -/
def unjudgedTrip : State :=
  { State.reset with
    psq := { State.reset.psq with state := .on, sre := true, mre := true, prst := false, lastRest := .off }
    thu.sensors := State.reset.thu.sensors.set 4 ⟨1500, true, false, false, true, 0, 1500⟩ }

/-- The same state after a board conversion of four readings of 20.0 degrees. -/
def unjudgedTripConverted : State := conclude unjudgedTrip (boardConverted 200 200 200 200 unjudgedTrip)

/-- The conversion finds the trip that the supplied sensor holds and forces the platform off; with that the sensor stops
taking part (R71), so that the sensors at the end hold no trip. -/
theorem unjudgedTripConverted_off :
    unjudgedTripConverted.psq.state = .off ∧
      tripHolds { unjudgedTrip.thu with sensors := unjudgedTripConverted.thu.sensors } = false := by
  decide +kernel

end Sys2Proof.Machine

namespace Sys2Proof.Proofs

open Sys2Proof.Machine Sys2Proof.Safety

/-- Refutes O44: its last clause judges the trip on the sensors at the end of the command. A supplied sensor above the
trip temperature, which nothing has judged before, forces the platform off at the conversion and no longer takes part at
its end; PSQ has then changed, while the clause says that it has not. -/
theorem not_boardConversionReadsAndTrips : ¬ Obligations.BoardConversionReadsAndTrips := by
  intro holds
  obtain ⟨off, calm⟩ := unjudgedTripConverted_off
  obtain ⟨t, converted, -, -, -, -, -, -, -, -, cool⟩ := holds 200 200 200 200 unjudgedTrip (by decide +kernel)
  have ended : t = unjudgedTripConverted := (Host.Outcome.next.inj converted).symm
  subst ended
  obtain ⟨unchanged, -⟩ := cool (by decide +kernel) (by decide +kernel) calm
  have on : unjudgedTripConverted.psq.state = .on := congrArg (fun t => t.psq.state) unchanged
  exact absurd (off.symm.trans on) (by decide)

end Sys2Proof.Proofs
end

section
/-! The arrival in OFF and the forced stop, as equations on the blocks that a reader of R147 and R154 to R156 asks
about. -/

namespace Sys2Proof.Machine

open Sys2Proof.Safety

variable {s t u : State} {new : PlatformState} {k : FaultKind}

/-! ## The scanner (R92, R101, R102) -/

/-- What the platform state makes of the scanner. -/
def scanView (s : State) : ScanMode × Suppression := (s.kbs.mode, s.kbs.suppression)

theorem handRelease_kbs (synthetic : Bool) (p : Position) (code : Byte) (layer : Bool) (s : State) :
    (handRelease synthetic p code layer s).kbs = s.kbs := by
  have offered (e : KeyEvent) : (offerKey e s).kbs = s.kbs := by
    unfold offerKey
    split <;> rfl
  unfold handRelease typeRelease queueEvent
  split
  · split <;> exact offered _
  · rfl

theorem scanView_syntheticRelease (s : State) (p : Position) : scanView (syntheticRelease s p) = scanView s := by
  unfold scanView syntheticRelease
  rw [handRelease_kbs]
  rfl

/-- The blocks that a new scan mode can touch, with the synthetic releases that it brings. -/
def OnlyScan (s t : State) : Prop := t = { s with kbs := t.kbs, krp := t.krp, rpm := t.rpm }

theorem OnlyScan.trans (h : OnlyScan s t) (g : OnlyScan t u) : OnlyScan s u := by
  unfold OnlyScan at *
  rw [h] at g
  exact g

theorem syntheticRelease_frame (s : State) (p : Position) : OnlyScan s (syntheticRelease s p) := by
  have offered (e : KeyEvent) (t : State) : OnlyScan t (offerKey e t) := by
    unfold offerKey
    exact holds_ite (P := OnlyScan t) rfl rfl
  have latent : OnlyScan s (setKey p (silentKey .latent) s) := rfl
  have typed (t : State) (x : Reporter) (h : OnlyScan s t) : OnlyScan s { t with krp := x } := h.trans rfl
  unfold syntheticRelease handRelease typeRelease queueEvent
  exact holds_ite (P := OnlyScan s)
    (holds_ite (P := OnlyScan s) (typed _ _ (latent.trans (offered _ _))) (latent.trans (offered _ _))) latent

theorem updateKeyboard_frame (s : State) : OnlyScan s (updateKeyboard s) := by
  have released (ps : List Position) (t : State) : OnlyScan t (ps.foldl syntheticRelease t) := by
    induction ps generalizing t with
    | nil => rfl
    | cons p ps ih => exact (syntheticRelease_frame t p).trans (ih _)
  have set (m : ScanMode) (t : State) : OnlyScan t (setScanMode m t) := holds_ite (P := OnlyScan t) rfl rfl
  have begun (m : ScanMode) (t : State) : OnlyScan t (beginSuppression m t) :=
    ((set m t).trans (released _ _)).trans rfl
  have ended (m : ScanMode) (t : State) : OnlyScan t (endSuppression m t) := (set m t).trans rfl
  have caused (x : Scanner) : OnlyScan s { s with kbs := x } := rfl
  unfold updateKeyboard
  exact holds_ite (P := OnlyScan s) ((caused _).trans (begun _ _))
    (holds_ite (P := OnlyScan s) ((caused _).trans (ended _ _)) ((caused _).trans (set _ _)))

theorem scanView_setScanMode (m : ScanMode) (s : State) : scanView (setScanMode m s) = (m, s.kbs.suppression) := by
  unfold setScanMode
  split
  next same => rw [← same]; rfl
  next => rfl

theorem scanView_beginSuppression (m : ScanMode) (s : State) :
    scanView (beginSuppression m s) = (m, s.kbs.suppression) := by
  have released (ps : List Position) (t : State) : scanView (ps.foldl syntheticRelease t) = scanView t := by
    induction ps generalizing t with
    | nil => rfl
    | cons p ps ih => exact (ih _).trans (scanView_syntheticRelease t p)
  exact (released _ _).trans (scanView_setScanMode m s)

/-- The scanner takes the mode and the causes that the posture and the platform state give. -/
theorem scanView_updateKeyboard (s : State) :
    let causes : Suppression := ⟨s.lwu.posture == .closed, s.lwu.posture == .tablet, !isOn s⟩
    scanView (updateKeyboard s) = (scanModeOf s.psq.state causes, causes) := by
  unfold updateKeyboard
  dsimp only
  split
  · exact scanView_beginSuppression _ _
  · split
    · exact scanView_setScanMode _ _
    · exact scanView_setScanMode _ _

theorem remakeFan_frame (i : FanId) (s : State) : remakeFan i s = { s with fnc := (remakeFan i s).fnc } :=
  holds_ite (P := fun t => t = { s with fnc := t.fnc }) rfl rfl

/-- The blocks that FNC's part in a change of the platform state can touch. -/
def OnlyFans (s t : State) : Prop := t = { s with fnc := t.fnc, rpm := t.rpm, flt := t.flt, ind := t.ind }

theorem OnlyFans.trans (h : OnlyFans s t) (g : OnlyFans t u) : OnlyFans s u := by
  unfold OnlyFans at *
  rw [h] at g
  exact g

theorem OnlyReports.onlyFans (h : OnlyReports s t) : OnlyFans s t := by
  unfold OnlyReports at h
  unfold OnlyFans
  rw [h]

theorem fansTakeState_frame (leaving : Bool) (s : State) : OnlyFans s (fansTakeState leaving s) := by
  have remade (i : FanId) (t : State) : OnlyFans t (remakeFan i t) := by
    rw [remakeFan_frame]
    rfl
  have cancelled (i : FanId) (t : State) : OnlyFans t (cancelOverride i t) := by
    unfold cancelOverride setOverride
    have taken (x : FanController) : OnlyFans t { t with fnc := x } := rfl
    exact holds_ite (P := OnlyFans t) rfl
      (((taken _).trans (remade i _)).trans (raiseAll_frame _ _).onlyFans)
  have left : OnlyFans s (if leaving then cancelOverride .fan1 (cancelOverride .fan0 s) else s) :=
    holds_ite (P := OnlyFans s) ((cancelled .fan0 s).trans (cancelled .fan1 _)) rfl
  exact (left.trans (remade .fan0 _)).trans (remade .fan1 _)

theorem fansTakeState_kbs (leaving : Bool) (s : State) : (fansTakeState leaving s).kbs = s.kbs := by
  rw [fansTakeState_frame]

theorem thermalLeaveOn_kbs (s : State) : (thermalLeaveOn s).kbs = s.kbs := by
  unfold thermalLeaveOn judgeTripEnd
  split <;> rfl

theorem neighboursTake_kbs (old new : PlatformState) (s : State) :
    (neighboursTake old new s).kbs = (updateKeyboard s).kbs := by
  unfold neighboursTake
  dsimp only
  refine Eq.trans ?_ (fansTakeState_kbs (old = .on ∧ new ≠ .on) (updateKeyboard s))
  split
  · exact thermalLeaveOn_kbs _
  · split <;> rfl

theorem clearPending_lwu (s : State) : (clearPending s).lwu = { s.lwu with table := (clearPending s).lwu.table } := by
  have each (xs : List WakeSource) (s : State) :
      (xs.foldl resetHeld s).lwu = { s.lwu with table := (xs.foldl resetHeld s).lwu.table } := by
    induction xs generalizing s with
    | nil => rfl
    | cons i xs ih =>
      have first : (resetHeld s i).lwu = { s.lwu with table := (resetHeld s i).lwu.table } := by
        unfold resetHeld
        split <;> rfl
      rw [List.foldl_cons, ih, first]
  unfold clearPending
  rw [each]

/-- After a change of the platform state the scanner stands as the new state has it. -/
theorem scanView_changeState (new : PlatformState) (s : State) :
    let causes : Suppression := ⟨s.lwu.posture == .closed, s.lwu.posture == .tablet, !(new == .on)⟩
    scanView (changeState new s) = (scanModeOf new causes, causes) := by
  intro causes
  have posture : (stateMoved new s).lwu.posture = s.lwu.posture := by
    unfold stateMoved
    dsimp only
    split
    · rw [clearPending_lwu]
    · rfl
  have state : (stateMoved new s).psq.state = new := by rw [stateMoved_frame]
  have taken : scanView (changeState new s) = scanView (updateKeyboard (stateMoved new s)) := by
    unfold scanView
    rw [← neighboursTake_kbs s.psq.state new, changeState_eq]
    split <;> rfl
  rw [taken, scanView_updateKeyboard, isOn, posture, state]

/-! ## Fault records (R147) -/

/-- The neighbours touch no record but those of RPM's own kinds and of the kinds that end as the platform leaves ON. -/
theorem steady_neighboursTake (old new : PlatformState) (s : State) :
    Steady True False [] s (neighboursTake old new s) := by
  unfold neighboursTake
  extract_lets t3 t4
  have h3 : Steady True False [] s t3 := steady_fansTakeState (steady_updateKeyboard (.refl s))
  clear_value t3
  have h4 : Steady True False [] s t4 :=
    steady_ite (steady_thermalLeaveOn trivial h3) (steady_ite (steady_thermalEnterOn h3) h3)
  clear_value t4
  exact (steady_hastenPolls h4).untouched rfl rfl

theorem changeState_fault (mild : k ∉ memoryKinds) (lasts : ¬EndsWithOn k) (new : PlatformState) (s : State) :
    (changeState new s).flt.get k = s.flt.get k := by
  have taken := (steady_neighboursTake s.psq.state new (stateMoved new s)).record mild (by simp) fun _ => lasts
  have moved : (stateMoved new s).flt = s.flt := by rw [stateMoved_frame]
  rw [moved] at taken
  rw [changeState_eq]
  split <;> exact taken

/-! ## What reports leave -/

/-- The blocks that an arrival in OFF speaks of. -/
def stopView (s : State) : Sequencer × Inputs × List StoredKey × Scanner × LinkPort × Selector × PerPack PackRecord :=
  (s.psq, s.inputs, s.rpm.keys, s.kbs, s.lkp, s.srs, s.pks.record)

theorem arrivedOff_congr {cause : StopCause} (h : arrivedOff cause s t) (e : stopView u = stopView t) :
    arrivedOff cause s u := by
  simp only [stopView, Prod.mk.injEq] at e
  obtain ⟨psq, inputs, keys, kbs, lkp, srs, record⟩ := e
  unfold arrivedOff at h ⊢
  rw [psq, inputs, keys, kbs, lkp, srs, record]
  exact h

theorem stopView_beside {ks : List FaultKind} (g : KeepsBeside ks s t) : stopView t = stopView s := by
  have keys : t.rpm.keys = s.rpm.keys := congrArg (fun m => m.2.2.1) g.memory
  have frame := g.reports
  unfold stopView
  rw [keys, frame]

theorem stopView_chargeRefresh (force : Bool) (ns : List Notice) (s : State) :
    stopView (chargeRefresh force ns s) = stopView s := by
  unfold chargeRefresh
  refine (stopView_beside (keepsBeside_raiseAll _ _)).trans ?_
  dsimp only
  split <;> rfl

theorem stopView_remakeDuties (s : State) : stopView (remakeDuties s) = stopView s := by
  have remade (i : FanId) (t : State) : stopView (remakeFan i t) = stopView t := by
    rw [remakeFan_frame]
    rfl
  exact (remade _ _).trans (remade _ _)

theorem stopView_raiseLevel (s : State) : stopView (raiseLevel s) = stopView s := by
  unfold raiseLevel setLevel
  split
  · split
    · rfl
    · exact (stopView_remakeDuties _).trans (stopView_chargeRefresh true [] _)
  · rfl

theorem stopView_applyDerate (s : State) : stopView (applyDerate s) = stopView s := by
  unfold applyDerate
  split
  · rfl
  · exact (stopView_beside (keepsBeside_raise _ _)).trans (stopView_chargeRefresh true [] _)

theorem stopView_busGrant (s : State) : stopView (busGrant s) = stopView s := by
  unfold stopView
  rw [(onlyGrant_busGrant s).1]

theorem lwu_raiseLevel (s : State) : (raiseLevel s).lwu = s.lwu := by
  have remade (i : FanId) (t : State) : (remakeFan i t).lwu = t.lwu := by rw [remakeFan_frame]
  unfold raiseLevel setLevel
  split
  · split
    · rfl
    · refine ((remade _ _).trans (remade _ _)).trans ?_
      rw [chargeRefresh_frame]
  · rfl

/-! ## The arrival in OFF (R147, R154) -/

/-- With no grace running there is none to take away. -/
theorem graceless (h : s.psq.grace = none) : { s with psq.grace := none } = s := by
  have same : { s.psq with grace := none } = s.psq := by rw [← h]
  exact congrArg (fun x => { s with psq := x }) same

/-- The end of a grace is the end of its run, and a report. -/
theorem keepsBeside_endGrace (event : Nat) (off : Bool) (s : State) :
    KeepsBeside memoryKinds { s with psq.grace := none } (endGrace event off s) := by
  unfold endGrace
  split
  next none => rw [graceless none]; exact .refl s
  next left _ => exact (keepsBeside_raise _ _).trans (keepsBeside_refreshChargeLed _)

theorem KeepsBeside.withoutGrace {ks : List FaultKind} (g : KeepsBeside ks s t) :
    KeepsBeside ks { s with psq.grace := none } { t with psq.grace := none } where
  reports := by
    unfold OnlyReports
    exact congrArg (fun u : State => { u with psq.grace := none }) g.reports
  memory := g.memory
  fault := g.fault
  masked := g.masked
  override := g.override
  invert := g.invert

/-- What an arrival in OFF makes of the state `s` (R147, R154, R160): both groups as they were, no wake source touched.
-/
structure Landed (s t : State) : Prop where
  psq : ∃ rest, t.psq =
    { s.psq with
      state := .off, step := .none, stepLeft := 0, stopKind := .none, grace := none, lastRest := rest }
  inputs : t.inputs = s.inputs
  keys : t.rpm.keys = []
  mode : t.kbs.mode = .stopped
  notOn : t.kbs.suppression.notOn = true
  lkp : t.lkp = { s.lkp with run := false }
  srs : t.srs = s.srs
  record : t.pks.record = s.pks.record
  lwu : t.lwu = s.lwu
  uptime : t.uptime = s.uptime
  fault : ∀ k, k ∉ memoryKinds → ¬EndsWithOn k → t.flt.get k = s.flt.get k

/-- Reports after the arrival. -/
theorem Landed.beside {ks : List FaultKind} (h : Landed s t) (hk : ∀ k ∈ ks, k ∈ memoryKinds)
    (g : KeepsBeside ks t u) : Landed s u := by
  have keys : u.rpm.keys = t.rpm.keys := congrArg (fun m => m.2.2.1) g.memory
  have frame := g.reports
  have others (k : FaultKind) (mild : k ∉ memoryKinds) : u.flt.get k = t.flt.get k := g.fault k fun e => mild (hk k e)
  have psq : u.psq = t.psq := by rw [frame]
  refine ⟨by rw [psq]; exact h.psq, ?_, keys.trans h.keys, ?_, ?_, ?_, ?_, ?_, ?_, ?_,
    fun k mild lasts => (others k mild).trans (h.fault k mild lasts)⟩
  all_goals rw [frame]
  · exact h.inputs
  · exact h.mode
  · exact h.notOn
  · exact h.lkp
  · exact h.srs
  · exact h.record
  · exact h.lwu
  · exact h.uptime

theorem landed_arriveOff (s : State) : Landed s (arriveOff s) := by
  let stepped := { s with psq.step := .none, psq.stepLeft := 0, psq.stopKind := .none }
  let changed := changeState .off stepped
  have reach : OnlyPlatform stepped changed := changeState_reach _ _
  have scan : scanView changed = _ := scanView_changeState .off stepped
  simp only [scanView, Prod.mk.injEq] at scan
  obtain ⟨mode, suppression⟩ := scan
  have lwu : changed.lwu = s.lwu := changeState_lwu _ _
  have lkp : changed.lkp = { s.lkp with run := false } := changeState_lkp _ _
  have psq : changed.psq = _ := changeState_psq _ _
  have inputs : changed.inputs = s.inputs := changeState_inputs _ _
  have emptied : Landed s { emptyKeyQueue changed with psq.grace := none } :=
    { psq := ⟨_, congrArg (fun x : Sequencer => { x with grace := none }) psq⟩
      inputs, mode, lwu, lkp
      keys := rfl
      notOn := by
        refine Eq.trans (b := changed.kbs.suppression.notOn) rfl ?_
        rw [suppression]
        rfl
      srs := by
        refine Eq.trans (b := changed.srs) rfl ?_
        rw [reach]
      record := by
        refine Eq.trans (b := changed.pks.record) rfl ?_
        rw [reach]
      uptime := by
        refine Eq.trans (b := changed.uptime) rfl ?_
        rw [reach]
      fault := fun k mild lasts => changeState_fault mild lasts .off stepped }
  have told := (keepsBeside_raise (.platform .off changed.psq.lastRest changed.psq.lastStop) (emptyKeyQueue changed))
  exact emptied.beside (fun _ => id) (told.withoutGrace.trans (keepsBeside_endGrace 1 true _))

/-! ## The forced stop (R155) -/

/-- Both groups are down, and their power-good inputs with them (R146, R156). -/
theorem arrivedOff_landed {cause : StopCause} {m : State} (h : Landed m t) (stop : m.psq.lastStop = cause)
    (psq : m.psq.sre = false ∧ m.psq.mre = false ∧ m.psq.prst = true ∧ m.psq.settings = s.psq.settings)
    (inputs : m.inputs.spg = false ∧ m.inputs.mpg = false)
    (blocks : m.lkp = s.lkp ∧ m.srs = s.srs ∧ m.pks.record = s.pks.record) : arrivedOff cause s t := by
  obtain ⟨sre, mre, prst, settings⟩ := psq
  obtain ⟨lkp, srs, record⟩ := blocks
  obtain ⟨rest, e⟩ := h.psq
  unfold arrivedOff
  rw [e, h.inputs, h.lkp, lkp]
  exact ⟨rfl, rfl, rfl, rfl, stop, sre, mre, prst, rfl, inputs.1, inputs.2, h.keys, h.mode, h.notOn, rfl,
    h.srs.trans srs, h.record.trans record, settings⟩

/-- PSQ as a forced stop begins. -/
def stopForced (cause : StopCause) (s : State) : State :=
  { s with psq.lastStop := cause, psq.stopKind := .forced, psq.step := .none, psq.stepLeft := 0 }

/-- STOPPING, with both groups down. -/
def stopDropped (cause : StopCause) (s : State) : State :=
  dropAll (if s.psq.state = .stopping then stopForced cause s else changeState .stopping (stopForced cause s))

theorem forcedStop_eq (cause : StopCause) (h : s.psq.state ≠ .off) :
    forcedStop cause s = arriveOff (stopDropped cause s) := if_neg h

theorem stopDropped_psq (cause : StopCause) (s : State) :
    ∃ rest, (stopDropped cause s).psq =
      { s.psq with
        state := .stopping, lastStop := cause, stopKind := .forced, step := .none, stepLeft := 0, prst := true
        mre := false, sre := false, lastRest := rest } := by
  unfold stopDropped
  split
  next stopping => exact ⟨s.psq.lastRest, by rw [← stopping]; rfl⟩
  next =>
    have moved := changeState_psq .stopping (stopForced cause s)
    exact ⟨_, congrArg (fun x : Sequencer => { x with prst := true, mre := false, sre := false }) moved⟩

theorem stopDropped_reach (cause : StopCause) (s : State) : OnlyPlatform s (stopDropped cause s) := by
  have begun : OnlyPlatform s (stopForced cause s) := rfl
  have dropped (u : State) : OnlyPlatform u (dropAll u) := rfl
  exact (onlyPlatform_ite begun (begun.trans (changeState_reach _ _))).trans (dropped _)

theorem stopDropped_inputs (cause : StopCause) (s : State) :
    (stopDropped cause s).inputs = { s.inputs with spg := false, mpg := false } := by
  have reach := stopDropped_reach cause s
  rw [reach]
  rfl

theorem stopDropped_lkp (cause : StopCause) (s : State) : (stopDropped cause s).lkp = s.lkp := by
  unfold stopDropped
  split
  · rfl
  · exact changeState_lkp .stopping (stopForced cause s)

theorem stopDropped_fault (mild : k ∉ memoryKinds) (lasts : ¬EndsWithOn k) (cause : StopCause) (s : State) :
    (stopDropped cause s).flt.get k = s.flt.get k := by
  unfold stopDropped
  split
  · rfl
  · exact changeState_fault mild lasts .stopping (stopForced cause s)

/-- A forced stop arrives in OFF. -/
theorem forcedStop_arrives (cause : StopCause) (h : s.psq.state ≠ .off) : arrivedOff cause s (forcedStop cause s) := by
  obtain ⟨rest, psq⟩ := stopDropped_psq cause s
  have reach := stopDropped_reach cause s
  have inputs := stopDropped_inputs cause s
  rw [forcedStop_eq cause h]
  refine arrivedOff_landed (landed_arriveOff _) ?_ ?_ ?_ ⟨stopDropped_lkp cause s, ?_, ?_⟩
  · rw [psq]
  · rw [psq]
    exact ⟨rfl, rfl, rfl, rfl⟩
  · rw [inputs]
    exact ⟨rfl, rfl⟩
  · rw [reach]
  · rw [reach]

theorem forcedStop_fault (mild : k ∉ memoryKinds) (lasts : ¬EndsWithOn k) (cause : StopCause) (s : State) :
    (forcedStop cause s).flt.get k = s.flt.get k := by
  by_cases h : s.psq.state = .off
  · rw [forcedStop_off _ _ h]
  · rw [forcedStop_eq cause h]
    exact ((landed_arriveOff _).fault k mild lasts).trans (stopDropped_fault mild lasts cause s)

theorem forcedStop_uptime (cause : StopCause) (s : State) : (forcedStop cause s).uptime = s.uptime := by
  have reach := forcedStop_reach cause s
  rw [reach]

/-- It leaves the button's marks. -/
theorem forcedStop_overrideFired (cause : StopCause) (s : State) :
    (forcedStop cause s).psq.overrideFired = s.psq.overrideFired := by
  by_cases h : s.psq.state = .off
  · rw [forcedStop_off _ _ h]
  · obtain ⟨rest, psq⟩ := stopDropped_psq cause s
    obtain ⟨last, landed⟩ := (landed_arriveOff (stopDropped cause s)).psq
    rw [forcedStop_eq cause h, landed, psq]

/-! ## No wake is left at OFF (R136 to R138) -/

/-- No source that is enabled for OFF is held, nor, in STOPPING, pending. -/
def NoWake (s : State) : Prop :=
  ∀ j, (s.lwu.get j).offEnable = true →
    sourceHeld s j = false ∧ (s.psq.state = .stopping → (s.lwu.get j).pending = false)

theorem noWake_of_noWakeAfterStop (h : noWakeAfterStop s = true) : NoWake s := by
  intro j enabled
  have clear := List.all_eq_true.mp h j (mem_allWakeSources j)
  simp only [enabled, Bool.not_true, Bool.false_or, Bool.and_eq_true, Bool.not_eq_true', Bool.and_eq_false_imp,
    beq_eq_false_iff_ne] at clear
  obtain ⟨pending, held⟩ := clear
  exact ⟨held, fun stopping => Bool.eq_false_iff.mpr fun is => pending is stopping⟩

/-- In OFF nothing is due where no source that is enabled there is pending. -/
theorem wakeDue_off (off : s.psq.state = .off)
    (h : ∀ j, (s.lwu.get j).offEnable = true → (s.lwu.get j).pending = false) : wakeDue s = false := by
  refine wakeDue_eq_false.mpr fun j => ?_
  unfold sourceDue
  rw [off]
  cases enabled : (s.lwu.get j).offEnable
  · simp [enabledIn, enabled]
  · simp [h j enabled]

/-- The state that the clear at the beginning of STOPPING finds. -/
def stopEntered (cause : StopCause) (s : State) : State :=
  { stopForced cause s with
    psq.state := .stopping
    psq.lastRest := if restState s.psq.state then s.psq.state else s.psq.lastRest }

theorem sourceHeld_stopEntered (cause : StopCause) (s : State) (j : WakeSource) :
    sourceHeld (stopEntered cause s) j = sourceHeld s j := by
  cases j <;> rfl

/-- The clear at the beginning of STOPPING leaves nothing enabled pending. -/
theorem stopDropped_clear (cause : StopCause) (h : NoWake s) (j : WakeSource)
    (enabled : ((stopDropped cause s).lwu.get j).offEnable = true) :
    ((stopDropped cause s).lwu.get j).pending = false := by
  unfold stopDropped at enabled ⊢
  split at enabled
  next stopping =>
    rw [if_pos stopping]
    exact (h j enabled).2 stopping
  next up =>
    rw [if_neg up]
    have lwu : (dropAll (changeState .stopping (stopForced cause s))).lwu = (clearPending (stopEntered cause s)).lwu :=
      changeState_lwu .stopping (stopForced cause s)
    obtain ⟨pending, enable⟩ := clearPending_entry j (stopEntered cause s)
    rw [lwu, enable] at enabled
    rw [lwu, pending, sourceHeld_stopEntered]
    exact (h j enabled).1

theorem forcedStop_clear (cause : StopCause) (up : s.psq.state ≠ .off) (h : NoWake s) :
    wakeDue (forcedStop cause s) = false := by
  refine wakeDue_off (forcedStop_state cause s) ?_
  rw [forcedStop_eq cause up, (landed_arriveOff _).lwu]
  exact stopDropped_clear cause h

end Sys2Proof.Machine
end

section
/-! The start sequence (R148 to R150, R171): the press that starts the platform or is refused, and the way to ON. -/

namespace Sys2Proof.Machine

open Sys2Proof.Safety Sys2Proof.Proofs

variable {s t u : State}

/-! ## The press in OFF (R148, R157) -/

/-- PSQ as a press settles outside ON (R157). -/
def pressedOf (x : Sequencer) : Sequencer :=
  { x with
    pressed := true, buttonTimer := none, hold := 0, holding := true, overrideFired := false, overrideReached := false
    pressInOn := false }

/-- The press has set its wake source. -/
def pressTaken (s : State) : State := markSource .powerButton { s with psq := pressedOf s.psq }

theorem sourceDue_pressTaken (off : s.psq.state = .off) (enabled : (s.lwu.get .powerButton).offEnable = true) :
    sourceDue (pressTaken s) .powerButton = true := by
  have state : (pressTaken s).psq.state = .off := off
  have entry : (pressTaken s).lwu.get .powerButton =
      { s.lwu.get .powerButton with status := true, pending := true } := by simp [pressTaken, markSource]
  simp [sourceDue, state, enabledIn, entry, enabled]

/-- A press in OFF is offered at once, and taken or refused. -/
theorem buttonSettled_press (off : s.psq.state = .off) (timer : s.psq.buttonTimer.isSome = true)
    (button : s.inputs.button = true) (released : s.psq.pressed = false)
    (enabled : (s.lwu.get .powerButton).offEnable = true) :
    buttonSettled s = if startAllowed (pressTaken s) then takeStart (pressTaken s) else refuseStart (pressTaken s) := by
  have due := sourceDue_pressTaken off enabled
  have state : (pressTaken s).psq.state = .off := off
  have asked : s.psq.buttonTimer.isNone = false := by
    rw [← Option.not_isSome, timer]
    rfl
  have pressed : buttonSettled s = settingEvent .powerButton { s with psq := pressedOf s.psq } := by
    have notOn : (s.psq.state == .on) = false := by rw [off]; rfl
    simp only [buttonSettled, asked, button, released, buttonPressed, isOn, notOn, pressedOf, if_false, if_true,
      Bool.false_eq_true, Bool.true_eq_false]
  have offered : settingEvent .powerButton { s with psq := pressedOf s.psq } = offerWake (pressTaken s) := if_pos due
  rw [pressed, offered, offerWake, wakeDue_of_sourceDue due, state]
  rfl

theorem severeActive_eq_false :
    severeActive s.flt = false ↔ ∀ k : FaultKind, k.severity = .severe → (s.flt.get k).active = false := by
  refine ⟨fun none k sev => ?_, fun none =>
    severeActive_none fun k sev => none k (by simpa [FaultKind.severe] using sev)⟩
  have all := List.any_eq_false.mp none k (mem_allFaultKinds k)
  simpa [FaultKind.severe, sev] using all

theorem startAllowed_iff :
    startAllowed s = true ↔ (s.srs.active ≠ none ∨ s.psq.settings.start ≤ s.pks.rsoc) ∧
      ∀ k : FaultKind, k.severity = .severe → (s.flt.get k).active = false := by
  rw [← severeActive_eq_false]
  simp [startAllowed, Option.isSome_iff_ne_none]

/-! ## STARTING (R147 to R149) -/

/-- Nothing that the neighbours do in a change of the platform state makes a SEVERE kind active. -/
theorem severeActive_changeState (new : PlatformState) (h : severeActive s.flt = false) :
    severeActive (changeState new s).flt = false := by
  have steady := steady_neighboursTake s.psq.state new (stateMoved new s)
  have moved : (stateMoved new s).flt = s.flt := by rw [stateMoved_frame]
  have none : severeActive (neighboursTake s.psq.state new (stateMoved new s)).flt = false := by
    refine severeActive_none fun k sev => Bool.eq_false_iff.mpr fun active => ?_
    have mild : k ∉ memoryKinds := fun hm => by simp [memoryKinds_mild hm] at sev
    have before := steady.ended k mild (by simp) active
    rw [moved, severeActive_eq_false.mp h k (by simpa [FaultKind.severe] using sev)] at before
    exact absurd before (by decide)
  rw [changeState_eq]
  split <;> exact none

/-- STARTING, at SPG_WAIT, with the wake that `s` offers (R139, R147, R149). -/
structure Starting (s t : State) : Prop where
  psq : ∃ grace rest, t.psq =
    { s.psq with state := .starting, step := .spgWait, stepLeft := 20, sre := true, grace, lastRest := rest }
  cause : t.lwu.cause = dueMask s ∧ t.lwu.causeStamp = s.uptime
  inputs : t.inputs = s.inputs
  lkp : t.lkp = { s.lkp with run := false }

/-- The wake is recorded and the step begun. -/
def startStepped (s : State) : State :=
  { recordWake s with psq.step := .spgWait, psq.stepLeft := 20, psq.sre := true }

theorem startStepped_frame (s : State) :
    startStepped s =
      { s with
        lwu := { s.lwu with cause := dueMask s, causeStamp := s.uptime }
        psq.step := .spgWait, psq.stepLeft := 20, psq.sre := true } := by
  rw [startStepped, recordWake_frame]

theorem starting_changeState (s : State) : Starting s (changeState .starting (startStepped s)) := by
  have stepped := startStepped_frame s
  generalize startStepped s = b at stepped
  have psq := changeState_psq .starting b
  have lwu : (changeState .starting b).lwu = b.lwu := changeState_lwu .starting b
  have inputs := changeState_inputs .starting b
  have lkp := changeState_lkp .starting b
  rw [if_pos (.inl rfl)] at lkp
  generalize changeState .starting b = c at psq lwu inputs lkp
  rw [stepped] at psq lwu inputs lkp
  refine ⟨⟨_, _, psq⟩, ?_, inputs, lkp⟩
  rw [lwu]
  exact ⟨rfl, rfl⟩

theorem Starting.cleared (h : Starting s t) : Starting s (clearPending t) := by
  obtain ⟨psq, cause, inputs, lkp⟩ := h
  have table := clearPending_lwu t
  rw [clearPending_frame]
  exact ⟨psq, by rw [table]; exact cause, inputs, lkp⟩

/-- PSQ's view stays. -/
theorem Starting.same (h : Starting s t) (e : handView u = handView t) : Starting s u := by
  simp only [handView, Prod.mk.injEq] at e
  obtain ⟨psq, inputs, lwu, lkp, -⟩ := e
  obtain ⟨sequencer, cause, sameInputs, link⟩ := h
  exact ⟨psq ▸ sequencer, lwu ▸ cause, inputs.trans sameInputs, lkp.trans link⟩

/-- The beginning of a grace touches PSQ's grace, the wake table and the reports. -/
theorem beginGrace_frame (s : State) :
    beginGrace s =
      { s with
        psq.grace := some (s.psq.settings.grace * 1000)
        lwu := s.lwu.set .lowEnergy { s.lwu.get .lowEnergy with status := true, pending := true }
        rpm := (beginGrace s).rpm, flt := { s.flt with record := (beginGrace s).flt.record }
        ind := (beginGrace s).ind } := by
  have reported := raise_frame (.critical 0 false s.pks.rsoc s.psq.settings.grace)
    { s with psq.grace := some (s.psq.settings.grace * 1000) }
  have made : beginGrace s = refreshChargeLed (markSource .lowEnergy
      (raise (.critical 0 false s.pks.rsoc s.psq.settings.grace)
        { s with psq.grace := some (s.psq.settings.grace * 1000) })) := rfl
  rw [made]
  generalize raise _ _ = t at reported ⊢
  rw [reported]
  rfl

theorem Starting.graced (h : Starting s t) : Starting s (beginGrace t) := by
  obtain ⟨⟨grace, rest, psq⟩, cause, inputs, lkp⟩ := h
  rw [beginGrace_frame]
  exact ⟨⟨_, rest, congrArg (fun x : Sequencer => { x with grace := some (t.psq.settings.grace * 1000) }) psq⟩, cause,
    inputs, lkp⟩

theorem severeActive_clearPending (s : State) : severeActive (clearPending s).flt = severeActive s.flt := by
  rw [clearPending_frame]

/-- PSQ as a start is taken, before the grace and the power-good inputs are looked at. -/
def startBegun (s : State) : State := releaseAtStart (clearPending (changeState .starting (startStepped s)))

theorem takeStart_eq (s : State) :
    takeStart s =
      let graced := if criticalHolds (startBegun s) && (startBegun s).psq.grace.isNone then beginGrace (startBegun s)
        else startBegun s
      if graced.inputs.spg then enterMpgWait graced else graced := by
  unfold startBegun startStepped
  rfl

theorem severeActive_startStepped (s : State) : severeActive (startStepped s).flt = severeActive s.flt := by
  rw [startStepped_frame]

theorem startBegun_starting (calm : severeActive s.flt = false) :
    Starting s (startBegun s) ∧ (startBegun s).flt.level = .none := by
  have moved := (starting_changeState s).cleared
  have none : severeActive (clearPending (changeState .starting (startStepped s))).flt = false :=
    (severeActive_clearPending _).trans
      (severeActive_changeState .starting ((severeActive_startStepped s).trans calm))
  unfold startBegun
  generalize clearPending (changeState .starting (startStepped s)) = begun at moved none
  refine ⟨moved.same ((outlasts_handView begun).after_releaseAtStart rfl), ?_⟩
  rw [releaseAtStart, none, if_neg (by decide), setLevel_level]

/-- A start that PSQ takes, with SPG low and no SEVERE kind active. -/
theorem takeStart_starting (spg : s.inputs.spg = false) (calm : severeActive s.flt = false) :
    Starting s (takeStart s) ∧ (takeStart s).flt.level = .none := by
  have begun := startBegun_starting calm
  rw [takeStart_eq]
  generalize startBegun s = b at begun
  have graced : Starting s (if criticalHolds b && b.psq.grace.isNone then beginGrace b else b) ∧
      (if criticalHolds b && b.psq.grace.isNone then beginGrace b else b).flt.level = .none :=
    holds_ite (P := fun t => Starting s t ∧ t.flt.level = .none)
      ⟨begun.1.graced, by rw [beginGrace_frame]; exact begun.2⟩ begun
  generalize (if criticalHolds b && b.psq.grace.isNone then beginGrace b else b) = g at graced
  dsimp only
  rw [if_neg (by rw [graced.1.inputs, spg]; decide)]
  exact graced

/-- The first wake source is the lowest bit of the mask (R133, R139). -/
theorem dueMask_powerButton (s : State) : (dueMask s).getLsbD 0 = sourceDue s .powerButton := by
  unfold dueMask allWakeSources
  rw [List.map_cons, flagNat, BitVec.getLsbD_ofNat]
  generalize flagNat _ = rest
  cases sourceDue s .powerButton <;> simp [Nat.testBit_zero]

/-! ## The way to ON (R149, R150, R71) -/

/-- The platform enters ON: the supplied sensors take part again. -/
theorem changeState_on_sensors (up : s.psq.state ≠ .on) :
    (changeState .on s).thu.sensors =
      (s.thu.sensors.set 4 (enterOnSensor s.thu.sensors[4])).set 5 (enterOnSensor s.thu.sensors[5]) ∧
    (changeState .on s).thu.settings = s.thu.settings := by
  let moved := stateMoved .on s
  let taken := fansTakeState (s.psq.state = .on ∧ PlatformState.on ≠ .on) (updateKeyboard moved)
  have thu : taken.thu = s.thu := by
    refine Eq.trans (b := (updateKeyboard moved).thu) ?_ (Eq.trans (b := moved.thu) ?_ rfl)
    · rw [show taken = _ from fansTakeState_frame _ _]
    · rw [show updateKeyboard moved = _ from updateKeyboard_frame _]
  have entered : (changeState .on s).thu = (thermalEnterOn taken).thu := by
    rw [changeState_eq, if_neg (by decide)]
    unfold neighboursTake
    dsimp only
    rw [if_neg (by simp), if_pos ⟨up, rfl⟩]
    rfl
  rw [entered, thermalEnterOn, setSensor, setSensor]
  dsimp only
  rw [thu]
  exact ⟨rfl, rfl⟩

/-- SPG in SPG_WAIT: MRE goes up, and where MPG is there already RESET_HOLD begins (R149). -/
theorem spgRises_waited (state : s.psq.state = .starting) (step : s.psq.step = .spgWait) :
    spgRises s =
      { s with
        inputs.spg := true
        psq :=
          { s.psq with
            mre := true, step := if s.inputs.mpg then .resetHold else .mpgWait
            stepLeft := if s.inputs.mpg then 10 else 50 } } := by
  have waits : spgRises s = enterMpgWait { s with inputs.spg := true } := if_pos ⟨state, step⟩
  rw [waits]
  unfold enterMpgWait
  dsimp only
  cases s.inputs.mpg <;> rfl

theorem spgRises_frame (s : State) :
    (spgRises s).pbc = s.pbc ∧ (spgRises s).pks = s.pks ∧ (spgRises s).psq.state = s.psq.state := by
  unfold spgRises enterMpgWait
  dsimp only
  split
  · split <;> exact ⟨rfl, rfl, rfl⟩
  · exact ⟨rfl, rfl, rfl⟩

theorem waitsForMpg_iff :
    waitsForMpg s = true ↔ (s.psq.state = .starting ∨ s.psq.state = .resuming) ∧ s.psq.step = .mpgWait := by
  simp [waitsForMpg]

/-- With no sensor at the trip temperature nothing but an end of the trip is judged. -/
theorem judgeTrip_below (holds : tripHolds s.thu = false) : judgeTrip s = judgeTripEnd s := by
  simp [judgeTrip, holds]

theorem judgeTripEnd_frame (s : State) :
    judgeTripEnd s = { s with thu.trip := (judgeTripEnd s).thu.trip, flt := (judgeTripEnd s).flt } := by
  unfold judgeTripEnd
  split <;> rfl

theorem enterOnSensor_takesPart (r : SensorRecord) :
    (enterOnSensor r).takesPart = r.valid ∧ (enterOnSensor r).stale = false := by
  unfold enterOnSensor
  cases r.valid <;> exact ⟨rfl, rfl⟩

/-- A supplied sensor holds no trip in ON where what was last supplied is below it. -/
theorem atTrip_enterOn {x : ThermalUnit} {i : Fin 8} {r : SensorRecord} (supplied : 4 ≤ i.val)
    (h : x.sensors[i] = enterOnSensor r) (below : r.valid = true → r.supplied < x.settings.trip) :
    atTrip x i = false := by
  cases valid : r.valid
  · have out : x.sensors[i].takesPart = false := by rw [h, (enterOnSensor_takesPart r).1, valid]
    have board : decide (i.val < 4) = false := decide_eq_false (by omega)
    rw [atTrip, out, board]
    rfl
  · refine atTrip_below ?_
    rw [h, enterOnSensor, valid]
    exact below valid

/-- The sensors of a platform that has just entered ON hold no trip. -/
theorem tripHolds_entered {x u : ThermalUnit} (settings : x.settings = u.settings)
    (sensors : x.sensors = (u.sensors.set 4 (enterOnSensor u.sensors[4])).set 5 (enterOnSensor u.sensors[5]))
    (board : ∀ i : Fin 8, i.val < 4 → u.sensors[i].value < u.settings.trip)
    (supplied : ∀ i : Fin 8, i = 4 ∨ i = 5 → u.sensors[i].valid = true → u.sensors[i].supplied < u.settings.trip) :
    tripHolds x = false := by
  rw [tripHolds_eq_false]
  intro i hi
  have split : i.val < 4 ∨ i = 4 ∨ i = 5 := by
    revert i
    decide
  rcases split with low | rfl | rfl
  · refine atTrip_below ?_
    have four : ¬4 = i.val := by omega
    have five : ¬5 = i.val := by omega
    have same : x.sensors[i] = u.sensors[i] := by simp [sensors, four, five]
    rw [same, settings]
    exact board i low
  · exact atTrip_enterOn (r := u.sensors[4]) (by decide) (by simp [sensors]) (settings ▸ supplied 4 (.inl rfl))
  · exact atTrip_enterOn (r := u.sensors[5]) (by decide) (by simp [sensors]) (settings ▸ supplied 5 (.inr rfl))

/-- What the arrival in ON makes of a state in a start or a resume (R147, R150, R71). -/
structure Risen (s t : State) : Prop where
  psq : t.psq = { s.psq with state := .on, step := .none, stepLeft := 0, prst := false, lastRest := t.psq.lastRest }
  blocks : t.inputs = s.inputs ∧ t.lwu = s.lwu ∧ t.srs = s.srs ∧ t.pks.record = s.pks.record ∧ t.lkp = s.lkp
  notOn : t.kbs.suppression.notOn = false
  sensors : t.thu.sensors =
    (s.thu.sensors.set 4 (enterOnSensor s.thu.sensors[4])).set 5 (enterOnSensor s.thu.sensors[5])
  settings : t.thu.settings = s.thu.settings

theorem risen_changeState (up : s.psq.state ≠ .on) :
    Risen s (changeState .on { s with psq.prst := false, psq.step := .none, psq.stepLeft := 0 }) := by
  let stepped := { s with psq.prst := false, psq.step := .none, psq.stepLeft := 0 }
  have psq := changeState_psq .on stepped
  have inputs := changeState_inputs .on stepped
  have lwu : (changeState .on stepped).lwu = s.lwu := changeState_lwu .on stepped
  have lkp := changeState_lkp .on stepped
  have reach := changeState_reach .on stepped
  have scan := scanView_changeState .on stepped
  obtain ⟨sensors, settings⟩ := changeState_on_sensors (s := stepped) up
  simp only [scanView, Prod.mk.injEq] at scan
  generalize changeState .on stepped = t at *
  refine ⟨?_, ⟨inputs, lwu, ?_, ?_, lkp⟩, ?_, sensors, settings⟩
  · rw [psq]
  · rw [reach]
  · rw [reach]
  · rw [scan.2]
    rfl

theorem Risen.reported (h : Risen s t) (g : OnlyReports t u) : Risen s u := by
  rw [g]
  exact ⟨h.psq, h.blocks, h.notOn, h.sensors, h.settings⟩

theorem Risen.judged (h : Risen s t) : Risen s (judgeTripEnd t) := by
  rw [judgeTripEnd_frame]
  exact ⟨h.psq, h.blocks, h.notOn, h.sensors, h.settings⟩

theorem Risen.granted (h : Risen s t) : Risen s (busGrant t) := by
  rw [(onlyGrant_busGrant t).1]
  exact ⟨h.psq, h.blocks, h.notOn, h.sensors, h.settings⟩

/-- What was last supplied takes part, and nothing is stale (R71). -/
theorem Risen.supplied (h : Risen s t) (i : Fin 8) (hi : i = 4 ∨ i = 5) :
    t.thu.sensors[i].takesPart = s.thu.sensors[i].valid ∧ t.thu.sensors[i].stale = false := by
  have entered : t.thu.sensors[i] = enterOnSensor s.thu.sensors[i] := by
    obtain rfl | rfl := hi
    · simp [h.sensors]
    · simp [h.sensors]
  rw [entered]
  exact enterOnSensor_takesPart _

theorem arriveOn_risen (up : s.psq.state ≠ .on)
    (board : ∀ i : Fin 8, i.val < 4 → s.thu.sensors[i].value < s.thu.settings.trip)
    (supplied : ∀ i : Fin 8, i = 4 ∨ i = 5 → s.thu.sensors[i].valid = true →
      s.thu.sensors[i].supplied < s.thu.settings.trip) : Risen s (arriveOn s) := by
  have changed := risen_changeState up
  unfold arriveOn
  dsimp only
  generalize changeState .on _ = c at changed ⊢
  have told := (changed.reported (raise_frame (.platform .on c.psq.lastRest .none) c)).reported
    (raise_frame (.wake c.lwu.cause c.lwu.causeStamp) _)
  rw [judgeTrip_below (tripHolds_entered told.settings told.sensors board supplied)]
  exact told.judged

end Sys2Proof.Machine

namespace Sys2Proof.Proofs

open Sys2Proof.Machine Sys2Proof.Safety

variable {s : State}

/-- A press that starts the platform, to the end of its command. -/
theorem finish_takeStart (off : s.psq.state = .off) (enabled : (s.lwu.get .powerButton).offEnable = true)
    (spg : s.inputs.spg = false) (calm : severeActive s.flt = false) :
    ∃ t, finish s (takeStart (pressTaken s)) = .next t ∧ t.psq.state = .starting ∧ t.psq.step = .spgWait ∧
      t.psq.stepLeft = 20 ∧ t.psq.sre = true ∧ t.psq.mre = s.psq.mre ∧ t.psq.prst = s.psq.prst ∧
      t.lwu.cause.getLsbD 0 = true ∧ t.lwu.causeStamp = s.uptime ∧ t.flt.level = .none ∧ t.lkp.run = false ∧
      t.srs = s.srs ∧ t.pks.record = s.pks.record := by
  obtain ⟨starting, level⟩ := takeStart_starting (s := pressTaken s) spg calm
  have due := sourceDue_pressTaken off enabled
  have reach : OnlyPlatform (pressTaken s) (takeStart (pressTaken s)) := takeStart_reach _
  generalize takeStart (pressTaken s) = t at starting level reach
  obtain ⟨⟨grace, rest, psq⟩, ⟨cause, stamp⟩, inputs, lkp⟩ := starting
  have state : t.psq.state = .starting := congrArg Sequencer.state psq
  have up : t.psq.state ≠ .off := by
    rw [state]
    decide
  have ended : conclude s t = busGrant t := by simp [conclude, offerAtOff, up]
  have record : t.pks.record = s.pks.record := by rw [reach]; rfl
  have srs : t.srs = s.srs := by rw [reach]; rfl
  refine ⟨busGrant t, congrArg _ ended, ?_⟩
  rw [level_busGrant, (onlyGrant_busGrant t).1]
  dsimp only
  rw [psq, cause, stamp, lkp, dueMask_powerButton]
  exact ⟨rfl, rfl, rfl, rfl, rfl, rfl, due, rfl, level, rfl, srs, record⟩

/-- The arrival in ON, to the end of its command. -/
theorem finish_arriveOn (up : s.psq.state ≠ .on)
    (board : ∀ i : Fin 8, i.val < 4 → s.thu.sensors[i].value < s.thu.settings.trip)
    (supplied : ∀ i : Fin 8, i = 4 ∨ i = 5 → s.thu.sensors[i].valid = true →
      s.thu.sensors[i].supplied < s.thu.settings.trip) :
    ∃ t, finish s (arriveOn s) = .next t ∧ Risen s t := by
  have risen := arriveOn_risen up board supplied
  have state : (arriveOn s).psq.state = .on := congrArg Sequencer.state risen.psq
  have on : (arriveOn s).psq.state ≠ .off := by
    rw [state]
    decide
  have ended : conclude s (arriveOn s) = busGrant (arriveOn s) := by
    unfold conclude offerAtOff
    rw [if_neg fun h => on h.2]
  exact ⟨busGrant (arriveOn s), congrArg _ ended, risen.granted⟩

/-- Settles O55: the press is offered at once; what follows is the entry into STARTING, the two power-good inputs, and
the arrival in ON, at which no sensor brings the trip. -/
theorem startSequenceRunsToOn : Obligations.StartSequenceRunsToOn := by
  intro s hs pressed allowed press
  have taken (h : press) : buttonSettled s =
      if startAllowed (pressTaken s) then takeStart (pressTaken s) else refuseStart (pressTaken s) := by
    obtain ⟨off, timer, button, released, enabled⟩ := h
    exact buttonSettled_press off timer button released enabled
  have asked : startAllowed (pressTaken s) = true ↔ allowed := startAllowed_iff
  refine ⟨fun h may spg => ?starts, fun h not => ?refused, fun state step => ?spgWaited, fun not => ?spgTold,
    ⟨fun waits => ?mpgWaited, fun not => ?mpgTold⟩, fun step state board supplied => ?on, fun step => ?idle⟩
  case starts =>
    have made := taken h
    rw [if_pos (asked.mpr may)] at made
    obtain ⟨off, -, -, -, enabled⟩ := h
    obtain ⟨t, ended, started⟩ := finish_takeStart off enabled spg (severeActive_eq_false.mpr may.2)
    exact ⟨t, (congrArg (finish s) made).trans ended, started⟩
  case refused =>
    have made := taken h
    rw [if_neg (mt asked.mp not)] at made
    have settled : finish s (refuseStart (pressTaken s)) = .next (refuseStart (pressTaken s)) :=
      finish_still hs rfl rfl rfl
    exact (congrArg (finish s) made).trans settled
  case spgWaited =>
    rw [← spgRises_waited state step]
    exact finish_still hs (spgRises_frame s).1 (spgRises_frame s).2.1 (spgRises_frame s).2.2
  case spgTold =>
    have told : spgRises s = { s with inputs.spg := true } := if_neg not
    rw [← told]
    exact finish_still hs (spgRises_frame s).1 (spgRises_frame s).2.1 (spgRises_frame s).2.2
  case mpgWaited =>
    have risen : mpgRises s = { s with inputs.mpg := true, psq := { s.psq with step := .resetHold, stepLeft := 10 } } :=
      if_pos (waitsForMpg_iff.mpr waits)
    have settled : finish s (mpgRises s) = .next (mpgRises s) := by
      rw [risen]
      exact finish_still hs rfl rfl rfl
    exact settled.trans (congrArg _ risen)
  case mpgTold =>
    have told : mpgRises s = { s with inputs.mpg := true } := if_neg (mt waitsForMpg_iff.mp not)
    have settled : finish s (mpgRises s) = .next (mpgRises s) := by
      rw [told]
      exact finish_still hs rfl rfl rfl
    exact settled.trans (congrArg _ told)
  case on =>
    have up : s.psq.state ≠ .on := by
      rintro on
      rw [on] at state
      exact absurd state (by decide)
    have made : resetHoldExpired s = arriveOn s := if_pos step
    obtain ⟨t, ended, risen⟩ := finish_arriveOn up board supplied
    obtain ⟨inputs, lwu, srs, record, lkp⟩ := risen.blocks
    exact ⟨t, (congrArg (finish s) made).trans ended, risen.psq, inputs, lwu, srs, record, lkp, risen.notOn,
      risen.supplied⟩
  case idle =>
    have none : resetHoldExpired s = s := if_neg step
    exact (congrArg (finish s) none).trans (finish_same hs)

end Sys2Proof.Proofs
end

section
/-! The ways into OFF (R149, R153 to R160, R166): what a detection leaves of a forced stop, and that the end of the
command finds no wake to offer. -/

namespace Sys2Proof.Machine

open Sys2Proof.Safety

variable {s t u b : State} {k : FaultKind} {cause : StopCause} {detail : Byte}

/-! ## Wakes at the end of a command (R138, log 15) -/

theorem wakeDue_congr (lwu : t.lwu = s.lwu) (state : t.psq.state = s.psq.state) : wakeDue t = wakeDue s := by
  have due : sourceDue t = sourceDue s := funext fun j => by simp only [sourceDue, lwu, state]
  rw [wakeDue, wakeDue, due]

theorem state_of_view (h : stopView t = stopView s) : t.psq.state = s.psq.state :=
  congrArg (fun v => v.1.state) h

/-- With no wake due at OFF a command ends in the grant of the bus. -/
theorem conclude_undue (none : wakeDue t = false) : conclude s t = busGrant t := by
  unfold conclude offerAtOff
  rw [offerWake_none none, ite_self]

/-- NoWake does not read the reports. -/
theorem NoWake.reported (h : NoWake s) (g : OnlyReports s t) : NoWake t := by
  rw [g]
  intro j enabled
  obtain ⟨held, pending⟩ := h j enabled
  exact ⟨by cases j <;> exact held, pending⟩

/-- Nor what the forced stop and the sequencer's button and waits write. -/
theorem NoWake.same (h : NoWake s) (lwu : t.lwu = s.lwu) (state : t.psq.state = s.psq.state)
    (ext : t.inputs.ext0 = s.inputs.ext0 ∧ t.inputs.ext1 = s.inputs.ext1)
    (thermal : t.thu.wakeCondition = s.thu.wakeCondition) (grace : t.psq.grace = s.psq.grace) : NoWake t := by
  intro j enabled
  rw [lwu] at enabled
  obtain ⟨held, pending⟩ := h j enabled
  have same : sourceHeld t j = sourceHeld s j := by
    cases j <;> simp only [sourceHeld, lwu, ext.1, ext.2, thermal, grace]
  rw [same, lwu, state]
  exact ⟨held, pending⟩

/-- A grace that has ended holds nothing. -/
theorem NoWake.graceless (h : NoWake s) : NoWake { s with psq.grace := none } := by
  intro j enabled
  obtain ⟨held, pending⟩ := h j enabled
  refine ⟨?_, pending⟩
  cases j with
  | lowEnergy => rfl
  | _ => exact held

/-! ## Detections (R164, R166) -/

theorem arrivedOff_from (h : arrivedOff cause b t) (lkp : b.lkp = s.lkp) (srs : b.srs = s.srs)
    (record : b.pks.record = s.pks.record) (settings : b.psq.settings = s.psq.settings) : arrivedOff cause s t := by
  unfold arrivedOff at h ⊢
  rw [← lkp, ← srs, ← record, ← settings]
  exact h

/-- The state with the record of a detection. -/
def withRecorded (k : FaultKind) (detail : Byte) (s : State) : State :=
  { s with flt := s.flt.set k (recordedFault k detail s.uptime (s.flt.get k)) }

/-- What a SEVERE detection reports after its action touches neither the view nor the wakes. -/
theorem detect_afterContain (sev : k.severe = true) (detail : Byte) (s : State) :
    stopView (detect k detail s) = stopView (contain k (withRecorded k detail s)) ∧
      (detect k detail s).lwu = (contain k (withRecorded k detail s)).lwu := by
  rw [detect_severe _ _ _ sev]
  unfold detectWith withRecorded
  dsimp only
  split
  · exact ⟨rfl, rfl⟩
  · split
    · exact ⟨rfl, rfl⟩
    · refine ⟨(stopView_beside (keepsBeside_raise _ _)).trans rfl, ?_⟩
      rw [raise_frame]
      rfl

theorem contain_stops (action : actionOf s.flt.mode k = .forceOff) :
    contain k s = raiseLevel (forcedStop .containment s) := by
  unfold contain
  rw [action]

/-- A detection under FORCE_OFF leaves what its stop leaves. -/
theorem detect_stops (sev : k.severe = true) (action : actionOf s.flt.mode k = .forceOff) (detail : Byte) :
    stopView (detect k detail s) = stopView (forcedStop .containment (withRecorded k detail s)) ∧
      (detect k detail s).lwu = (forcedStop .containment (withRecorded k detail s)).lwu := by
  obtain ⟨view, lwu⟩ := detect_afterContain sev detail s
  rw [contain_stops (s := withRecorded k detail s) action] at view lwu
  exact ⟨view.trans (stopView_raiseLevel _), lwu.trans (lwu_raiseLevel _)⟩

theorem arrivedOff_detect (sev : k.severe = true) (action : actionOf s.flt.mode k = .forceOff)
    (up : s.psq.state ≠ .off) (detail : Byte) : arrivedOff .containment s (detect k detail s) :=
  arrivedOff_congr (arrivedOff_from (forcedStop_arrives (s := withRecorded k detail s) .containment up) rfl rfl rfl rfl)
    (detect_stops sev action detail).1

theorem wakeDue_detect (sev : k.severe = true) (action : actionOf s.flt.mode k = .forceOff)
    (up : s.psq.state ≠ .off) (clear : NoWake s) (detail : Byte) : wakeDue (detect k detail s) = false := by
  obtain ⟨view, lwu⟩ := detect_stops sev action detail
  refine (wakeDue_congr lwu (state_of_view view)).trans (forcedStop_clear .containment up ?_)
  exact clear.same (t := withRecorded k detail s) rfl rfl ⟨rfl, rfl⟩ rfl rfl

/-- A kind whose own action is FORCE_OFF takes no other. -/
theorem actionOf_fixed (mode : ContainmentMode) (fixed : k.fixedAction = .forceOff) : actionOf mode k = .forceOff := by
  unfold actionOf
  rw [fixed]
  cases mode <;> rfl

theorem actionOf_forceOff (k : FaultKind) : actionOf .forceOff k = .forceOff := by
  cases k <;> rfl

/-! ## RAIL_FAIL (R149, R153, R156) -/

/-- The stop comes first; the detection finds the platform in OFF. -/
theorem railFail_arrives (up : s.psq.state ≠ .off) (clear : NoWake s) (detail : Byte) :
    arrivedOff .rail s (railFail detail s) ∧ wakeDue (railFail detail s) = false := by
  let stopped := forcedStop .rail s
  have off : stopped.psq.state = .off := forcedStop_state .rail s
  have action : actionOf stopped.flt.mode .railFail = .forceOff := actionOf_fixed _ rfl
  have again : forcedStop .containment (withRecorded .railFail detail stopped) =
      withRecorded .railFail detail stopped :=
    forcedStop_off _ _ off
  obtain ⟨view, lwu⟩ := detect_stops (k := .railFail) rfl action detail
  rw [again] at view lwu
  exact ⟨arrivedOff_congr (forcedStop_arrives .rail up) view,
    (wakeDue_congr (s := stopped) lwu (state_of_view view)).trans (forcedStop_clear .rail up clear)⟩

theorem railFail_fault (detail : Byte) (s : State) :
    (railFail detail s).flt.get .railFail = recordedFault .railFail detail s.uptime (s.flt.get .railFail) := by
  have off : (forcedStop .rail s).psq.state = .off := forcedStop_state .rail s
  have detected := detect_severe_get (moved := False) (k := .railFail) (s := forcedStop .rail s)
    rfl (fun _ => off) False.elim detail
  rw [forcedStop_uptime, forcedStop_fault (by decide) (by decide)] at detected
  exact detected

/-- A RAIL_FAIL to the end of its command. -/
theorem finish_railFail (up : b.psq.state ≠ .off) (clear : NoWake b) (detail : Byte) :
    finish s (railFail detail b) = .next (busGrant (railFail detail b)) ∧
      arrivedOff .rail b (busGrant (railFail detail b)) ∧ recorded .railFail detail b (busGrant (railFail detail b)) ∧
      (busGrant (railFail detail b)).flt.level ≠ .none := by
  obtain ⟨arrived, none⟩ := railFail_arrives up clear detail
  refine ⟨congrArg _ (conclude_undue none), arrivedOff_congr arrived (stopView_busGrant _),
    recorded_of_get (now := b.uptime) ?_, ?_⟩
  · rw [fault_busGrant (by decide), railFail_fault]
  · rw [level_busGrant]
    exact detect_severe_raised rfl detail _

/-! ## Mild detections after a stop (R158, R160) -/

/-- A stop with a detection that is not SEVERE, to the end of its command. -/
theorem finish_stopped (up : b.psq.state ≠ .off) (clear : NoWake b) (mild : k ∉ memoryKinds) (lasts : ¬EndsWithOn k)
    (bus : k ≠ .busStuck) (cause : StopCause) (detail : Byte) :
    let t := busGrant (detectMild k detail (forcedStop cause b))
    finish s (detectMild k detail (forcedStop cause b)) = .next t ∧ arrivedOff cause b t ∧ recorded k detail b t ∧
      t.psq.overrideFired = b.psq.overrideFired := by
  let stopped := forcedStop cause b
  have frame : OnlyReports stopped (detectMild k detail stopped) := detectMild_frame k detail stopped
  have view := stopView_beside (keepsBeside_detectMild k detail stopped)
  have none : wakeDue (detectMild k detail stopped) = false := by
    refine Eq.trans (wakeDue_congr ?_ ?_) (forcedStop_clear cause up clear)
    · rw [frame]
    · rw [frame]
  have psq : (detectMild k detail stopped).psq = stopped.psq := congrArg Prod.fst view
  refine ⟨congrArg _ (conclude_undue none),
    arrivedOff_congr (arrivedOff_congr (forcedStop_arrives cause up) view) (stopView_busGrant _), ?_, ?_⟩
  · unfold recorded
    rw [fault_busGrant bus, detectMild_get mild, forcedStop_fault mild lasts]
    exact ⟨rfl, rfl, rfl, rfl⟩
  · have granted : (busGrant (detectMild k detail stopped)).psq = (detectMild k detail stopped).psq :=
      congrArg Prod.fst (stopView_busGrant _)
    exact (congrArg Sequencer.overrideFired (granted.trans psq)).trans (forcedStop_overrideFired cause b)

end Sys2Proof.Machine
end

section
/-! A board conversion that finds the trip (R69, R73), up to the end of its command. -/

namespace Sys2Proof.Machine

open Sys2Proof.Safety

variable {s t u : State}

/-! ## The readings (R69) -/

/-- One conversion stores its record, and may report. -/
theorem convertSensor_frame (i : Fin 8) (v : Int) (s : State) :
    OnlyReports { s with thu.sensors := s.thu.sensors.set i (boardRecord v s.thu.sensors[i]) }
      (convertSensor i v s) := by
  unfold convertSensor
  exact holds_ite (P := OnlyReports _) (detectMild_frame _ _ _) rfl

/-- The sensors after the four conversions. -/
def convertedSensors (cpu charger skin ambient : Int) (x : Vector SensorRecord 8) : Vector SensorRecord 8 :=
  (((x.set 0 (boardRecord cpu x[0])).set 1 (boardRecord charger x[1])).set 2 (boardRecord skin x[2])).set 3
    (boardRecord ambient x[3])

theorem convertBoard_frame (cpu charger skin ambient : Int) (s : State) :
    OnlyReports { s with thu.sensors := convertedSensors cpu charger skin ambient s.thu.sensors }
      (convertBoard cpu charger skin ambient s) := by
  have converted : OnlyReports { s with thu.sensors := convertedSensors cpu charger skin ambient s.thu.sensors }
      (convertSensor 3 ambient (convertSensor 2 skin (convertSensor 1 charger (convertSensor 0 cpu s)))) := by
    have zero := convertSensor_frame 0 cpu s
    generalize convertSensor 0 cpu s = a at zero
    have one := convertSensor_frame 1 charger a
    generalize convertSensor 1 charger a = b at one
    have two := convertSensor_frame 2 skin b
    generalize convertSensor 2 skin b = c at two
    have three := convertSensor_frame 3 ambient c
    generalize convertSensor 3 ambient c = d at three
    have sensorB : b.thu.sensors[(2 : Fin 8)] = s.thu.sensors[(2 : Fin 8)] := by rw [one, zero]; simp
    have sensorA : a.thu.sensors[(1 : Fin 8)] = s.thu.sensors[(1 : Fin 8)] := by rw [zero]; simp
    have sensorC : c.thu.sensors[(3 : Fin 8)] = s.thu.sensors[(3 : Fin 8)] := by rw [two, one, zero]; simp
    rw [sensorA] at one
    rw [sensorB] at two
    rw [sensorC] at three
    unfold OnlyReports at *
    rw [zero] at one
    rw [one] at two
    rw [two] at three
    exact three
  unfold convertBoard
  exact holds_ite (P := OnlyReports _) converted (converted.trans (endFault_frame _ _))

/-- A reading outside the sensor's span is replaced (R69). -/
theorem boardRecord_value (v : Int) (r : SensorRecord) :
    (boardRecord v r).value = if -300 ≤ v ∧ v ≤ 1300 then v else 1250 := by
  unfold boardRecord goodReading
  by_cases good : -300 ≤ v ∧ v ≤ 1300
  · simp [good]
  · simp [good, Config.boardSubstitute]

/-- One of the readings that are taken is at the trip temperature. -/
theorem converted_hot {cpu charger skin ambient limit : Int} {x : Vector SensorRecord 8}
    (hot : ∃ v ∈ [cpu, charger, skin, ambient], limit ≤ if -300 ≤ v ∧ v ≤ 1300 then v else 1250) :
    ∃ i : Fin 4, limit ≤ (convertedSensors cpu charger skin ambient x)[i.castLE (by decide : 4 ≤ 8)].value := by
  obtain ⟨v, member, reached⟩ := hot
  have taken (r : SensorRecord) : limit ≤ (boardRecord v r).value := (boardRecord_value v r).symm ▸ reached
  simp only [List.mem_cons, List.not_mem_nil, or_false] at member
  obtain rfl | rfl | rfl | rfl := member
  · exact ⟨0, by simpa [convertedSensors] using taken _⟩
  · exact ⟨1, by simpa [convertedSensors] using taken _⟩
  · exact ⟨2, by simpa [convertedSensors] using taken _⟩
  · exact ⟨3, by simpa [convertedSensors] using taken _⟩

/-! ## The detection (R73) -/

/-- THU has shut the platform down from the state `s`. -/
structure TripShut (s t : State) : Prop where
  arrived : arrivedOff .containment s t
  status : (t.flt.get .thermalTrip).status = true
  active : (t.flt.get .thermalTrip).active = true
  level : t.flt.level ≠ .none

theorem TripShut.kept (h : TripShut s t) (view : stopView u = stopView t)
    (record : u.flt.get .thermalTrip = t.flt.get .thermalTrip) (level : u.flt.level = t.flt.level) : TripShut s u :=
  ⟨arrivedOff_congr h.arrived view, record ▸ h.status, record ▸ h.active, level ▸ h.level⟩

theorem TripShut.beside {ks : List FaultKind} (h : TripShut s t) (other : .thermalTrip ∉ ks) (g : KeepsBeside ks t u) :
    TripShut s u :=
  h.kept (stopView_beside g) (g.fault _ other) (by rw [g.reports])

theorem TripShut.off (h : TripShut s t) : t.psq.state = .off := h.arrived.1

theorem TripShut.severe (h : TripShut s t) : severeActive t.flt = true :=
  List.any_eq_true.mpr ⟨.thermalTrip, mem_allFaultKinds _, by simp [h.active]; rfl⟩

/-- A new trip stops the platform. -/
theorem tripShut_judgeTrip (up : s.psq.state ≠ .off) (trip : s.thu.trip = false)
    (hot : ∃ i : Fin 4, s.thu.settings.trip ≤ s.thu.sensors[i.castLE (by decide : 4 ≤ 8)].value) :
    TripShut s (judgeTrip s) := by
  let found := { s with thu.trip := true }
  have holds : tripHolds s.thu = true := by
    obtain ⟨i, reached⟩ := hot
    exact tripHolds_board reached
  have action : actionOf found.flt.mode .thermalTrip = .forceOff := actionOf_fixed _ rfl
  have judged : judgeTrip s = raise (.trip (hottest s.thu) s.thu.sensors[hottest s.thu].value)
      (detect .thermalTrip (byteOf (hottest s.thu).val) found) := if_pos (by simp [trip, holds])
  have detected : Tripped (detect .thermalTrip (byteOf (hottest s.thu).val) found) :=
    withstands_tripped.after_detect rfl ⟨rfl, hot, by simp [recordedFault], by simp [recordedFault, FaultKind.lasting]⟩
  obtain ⟨-, -, status, active⟩ := detected
  have arrived : arrivedOff .containment found (detect .thermalTrip (byteOf (hottest s.thu).val) found) :=
    arrivedOff_detect rfl action up _
  rw [judged]
  exact TripShut.beside ⟨arrived, status, active, detect_severe_raised rfl _ _⟩ (by decide) (keepsBeside_raise _ _)

/-! ## What follows it -/

/-- The wake condition that begins is refused. -/
theorem TripShut.wakeJudged (h : TripShut s t) : TripShut s (judgeWakeCondition t) := by
  let marked (x : Bool) : State := markSource .thermal { t with thu.wakeCondition := x }
  have offered (x : Bool) : TripShut s (offerWake (marked x)) := by
    rw [offerWake_refused (s := marked x) h.off h.severe]
    exact h.kept rfl rfl rfl
  unfold judgeWakeCondition settingEvent
  exact holds_ite h (holds_ite (holds_ite (offered _) (h.kept rfl rfl rfl)) (h.kept rfl rfl rfl))

theorem TripShut.derateJudged (h : TripShut s t) (before : ThermalUnit) : TripShut s (judgeDerate before t) := by
  have entered (i : Fin 4) : TripShut s { t with thu.heldEntry := i } := h.kept rfl rfl rfl
  unfold judgeDerate
  refine holds_ite h ((entered _).kept (stopView_applyDerate _) (applyDerate_fault (by decide) _) ?_)
  rw [applyDerate_frame]

theorem TripShut.concluded (h : TripShut s t) (before : State) : TripShut s (conclude before t) := by
  have offered : TripShut s (offerAtOff before t) := by
    unfold offerAtOff
    rw [offerWake_refused h.off h.severe]
    exact holds_ite (h.kept rfl rfl rfl) h
  exact offered.kept (stopView_busGrant _) (fault_busGrant (by decide) _) (level_busGrant _)

/-- A board conversion with a reading at the trip temperature, to the end of its command. -/
theorem tripShut_boardConverted {cpu charger skin ambient : Int} (up : s.psq.state ≠ .off) (trip : s.thu.trip = false)
    (hot : ∃ v ∈ [cpu, charger, skin, ambient], s.thu.settings.trip ≤ if -300 ≤ v ∧ v ≤ 1300 then v else 1250) :
    TripShut s (conclude s (boardConverted cpu charger skin ambient s)) := by
  let given : State :=
    { s with inputs := { s.inputs with board0 := cpu, board1 := charger, board2 := skin, board3 := ambient } }
  have frame : OnlyReports _ (convertBoard cpu charger skin ambient given) :=
    convertBoard_frame cpu charger skin ambient given
  have judged : TripShut s (judgeTrip (convertBoard cpu charger skin ambient given)) := by
    generalize convertBoard cpu charger skin ambient given = c at frame
    have psq : c.psq = s.psq := by rw [frame]
    have thu : c.thu = { s.thu with sensors := convertedSensors cpu charger skin ambient s.thu.sensors } := by
      rw [frame]
    have shut : TripShut c (judgeTrip c) := by
      refine tripShut_judgeTrip (by rw [psq]; exact up) (by rw [thu]; exact trip) ?_
      rw [thu]
      exact converted_hot hot
    refine ⟨arrivedOff_from shut.arrived ?_ ?_ ?_ (by rw [psq]), shut.status, shut.active, shut.level⟩
    · rw [frame]
    · rw [frame]
    · rw [frame]
  exact (judged.wakeJudged.derateJudged s.thu).concluded s

end Sys2Proof.Machine
end

section
/-! Faults of a charge channel and of a pack under the mode FORCE_OFF (R28, R58, R166), up to the end of their commands.
-/

namespace Sys2Proof.Machine

open Sys2Proof.Safety

variable {s t u : State} {p : PackId} {k f : FaultKind} {ks : List FaultKind} {detail : Byte}

/-! ## A channel fault (R58) -/

theorem noWake_channelDetects (h : NoWake s) (p : PackId) : NoWake (channelDetects p s) :=
  h.same rfl rfl (by cases p <;> exact ⟨rfl, rfl⟩) rfl rfl

/-- CHARGER_FAULT under FORCE_OFF, to the end of its command. -/
theorem finish_channelFault (up : s.psq.state ≠ .off) (clear : NoWake s) (mode : s.flt.mode = .forceOff) (p : PackId) :
    let t := busGrant (chargeRefresh false [] (detect .chargerFault (byteOf p.code) (channelDetects p s)))
    finish s (chargeRefresh false [] (detect .chargerFault (byteOf p.code) (channelDetects p s))) = .next t ∧
      arrivedOff .containment s t ∧ ChannelFaulted p s t := by
  have action : actionOf (channelDetects p s).flt.mode .chargerFault = .forceOff := by
    have same : (channelDetects p s).flt.mode = .forceOff := mode
    rw [same]
    exact actionOf_forceOff _
  have faulted := ((channelFaulted_detect p s).refreshed []).granted
  have arrived : arrivedOff .containment s (detect .chargerFault (byteOf p.code) (channelDetects p s)) :=
    arrivedOff_from (arrivedOff_detect (s := channelDetects p s) rfl action up _) rfl rfl rfl rfl
  have none := wakeDue_detect (s := channelDetects p s) rfl action up (noWake_channelDetects clear p) (byteOf p.code)
  generalize detect .chargerFault (byteOf p.code) (channelDetects p s) = d at *
  have view := stopView_chargeRefresh false [] d
  have undue : wakeDue (chargeRefresh false [] d) = false := by
    refine (wakeDue_congr ?_ (state_of_view view)).trans none
    rw [chargeRefresh_frame]
  exact ⟨congrArg _ (conclude_undue undue),
    arrivedOff_congr (arrivedOff_congr arrived view) (stopView_busGrant _), faulted⟩

/-! ## What an alarm that has forced the platform off holds (R28, R166) -/

/-- The containment stop of a SEVERE kind that is still active. -/
structure HeldOff (k : FaultKind) (t : State) : Prop where
  state : t.psq.state = .off
  stop : t.psq.lastStop = .containment
  active : (t.flt.get k).active = true

/-- The kinds of a pack's SEVERE alarms. -/
def AlarmKind (k : FaultKind) : Prop := k = .packOverCharged ∨ k = .packOverTemp

theorem AlarmKind.known (hk : AlarmKind k) : k.severe = true ∧ k.lasting = true ∧ ¬EndsWithOn k := by
  obtain rfl | rfl := hk <;> decide

theorem AlarmKind.mild (hk : AlarmKind k) : k ∉ memoryKinds := by
  obtain rfl | rfl := hk <;> decide

theorem AlarmKind.notBus (hk : AlarmKind k) : k ≠ .busStuck := by
  obtain rfl | rfl := hk <;> decide

variable (hk : AlarmKind k)

theorem HeldOff.same (h : HeldOff k t) (psq : u.psq = t.psq) (record : u.flt.get k = t.flt.get k) : HeldOff k u :=
  ⟨psq ▸ h.state, psq ▸ h.stop, record ▸ h.active⟩

include hk

theorem HeldOff.steady {severe : Prop} (h : HeldOff k t) (g : Steady False severe ks t u) (other : k ∉ ks) :
    HeldOff k u := by
  refine ⟨(g.rest not_false).trans h.state, ?_, (g.active k hk.mild other (fun m => absurd m not_false)).trans h.active⟩
  rcases g.lastStop with same | stopped
  · exact same.trans h.stop
  · exact stopped

theorem HeldOff.severe (h : HeldOff k t) : severeActive t.flt = true :=
  List.any_eq_true.mpr ⟨k, mem_allFaultKinds _, by simp [h.active, hk.known.1]⟩

/-- A wake is refused. -/
theorem HeldOff.offered (h : HeldOff k t) : HeldOff k (offerWake t) := by
  rw [offerWake_refused h.state (h.severe hk)]
  exact h.same rfl rfl

theorem HeldOff.event (h : HeldOff k t) (i : WakeSource) : HeldOff k (settingEvent i t) := by
  have marked : HeldOff k (markSource i t) := h.same rfl rfl
  exact holds_ite (marked.offered hk) marked

theorem HeldOff.raised (h : HeldOff k t) (n : Notice) : HeldOff k (raise n t) :=
  h.steady hk (severe := False) (ks := []) (steady_raise (.refl t)) (by simp)

omit hk in
theorem HeldOff.recordSet (h : HeldOff k t) {g : PackRecord → PackRecord} : HeldOff k (modRecord p g t) :=
  h.same rfl rfl

theorem HeldOff.settledFaulted (h : HeldOff k t) : HeldOff k (settleFaulted p t) := by
  unfold settleFaulted
  exact holds_ite (h.recordSet.raised hk _) h

theorem HeldOff.settledReady (h : HeldOff k t) : HeldOff k (settleReady p t) := by
  unfold settleReady
  exact holds_ite (h.recordSet.raised hk _) h

/-- Another alarm finds the platform in OFF. -/
theorem HeldOff.detected (h : HeldOff k t) (other : k ≠ f) (detail : Byte) : HeldOff k (detect f detail t) := by
  refine h.steady hk (severe := True) (ks := [f]) (steady_detect_of (by simp) (fun _ _ hv same => ?_) (.refl t))
    (by simpa)
  exact steady_contain_off (same.trans h.state) trivial hv

theorem HeldOff.judgedOverTemp (h : HeldOff k t) (other : k ≠ .packOverTemp) : HeldOff k (judgeOverTemp p t) := by
  unfold judgeOverTemp
  exact holds_ite (((h.recordSet.detected hk other _).settledFaulted hk).event hk _) h

theorem HeldOff.judgedAlarm (h : HeldOff k t) (old : AlarmFlags) : HeldOff k (judgeAlarm p old t) :=
  repeat_induction (P := HeldOff k) (fun _ hu => (hu.raised hk _).event hk _) _ h

/-! ## The rest of a good poll (R27, R29) -/

theorem HeldOff.faultEnded (h : HeldOff k t) {holds : PackRecord → Bool} (other : k ≠ f) :
    HeldOff k (endPackFault f holds p t) :=
  h.steady hk (severe := False) (ks := [f]) (steady_endPackFault (by simp) (.refl t)) (by simpa)

/-- The ends of the other conditions leave it. -/
theorem HeldOff.alarmsEnded (h : HeldOff k t)
    (charged : k = .packOverCharged → overChargeHolds (t.pks.record.get p) = true)
    (hot : k = .packOverTemp → overTempHolds (t.pks.record.get p) = true) : HeldOff k (alarmsEnded p t) := by
  have first : HeldOff k (if overChargeHolds (t.pks.record.get p) then t
      else endPackFault .packOverCharged overChargeHolds p t) := by
    split
    · exact h
    next gone => exact h.faultEnded hk fun e => gone (charged e)
  have ended : HeldOff k (endAlarms p t) := by
    have same : (if overChargeHolds (t.pks.record.get p) then t
        else endPackFault .packOverCharged overChargeHolds p t).pks.record = t.pks.record := by
      unfold endPackFault
      split
      · rfl
      · split <;> rfl
    unfold endAlarms
    dsimp only
    rw [same]
    split
    · exact first
    next gone => exact first.faultEnded hk fun e => gone (hot e)
  have uncharged : HeldOff k (dropOverCharge p (endAlarms p t)) := by
    unfold dropOverCharge
    exact holds_ite ended ended.recordSet
  have cooled : HeldOff k (dropOverTemp p (dropOverCharge p (endAlarms p t))) := by
    unfold dropOverTemp
    exact holds_ite uncharged uncharged.recordSet
  exact cooled.settledReady hk

theorem HeldOff.refreshed (h : HeldOff k t) (ns : List Notice) : HeldOff k (chargeRefresh true ns t) :=
  h.same (by rw [chargeRefresh_frame]) (chargeRefresh_fault hk.mild _ _ _)

theorem HeldOff.rsocUpdated (h : HeldOff k t) : HeldOff k (updateRsoc t) := by
  have told : HeldOff k { t with pks.rsoc := rsocOf t.pks.record.a t.pks.record.b } := h.same rfl rfl
  exact told.steady hk (severe := False) (ks := []) (steady_judgeCritical_off told.state (.refl _)) (by simp)

theorem HeldOff.charged (h : HeldOff k t) (target : Nat) : HeldOff k (chargeAtPoll p target t) := by
  unfold chargeAtPoll
  refine HeldOff.refreshed hk ?_ _
  exact h.same rfl rfl

theorem HeldOff.handed (h : HeldOff k t) (target : Nat) : HeldOff k (pollHanded p target t) := by
  have switched {v : State} (hv : HeldOff k v) : HeldOff k (setSwitches (handToThermal p v)) := hv.same rfl rfl
  have timed {v : State} (hv : HeldOff k v) : HeldOff k (schedulePoll p v) := hv.same rfl rfl
  have told : HeldOff k { t with chc.handed := t.chc.handed.set p (t.pks.record.get p) } := h.same rfl rfl
  exact timed ((switched (told.charged hk target)).rsocUpdated hk)

theorem HeldOff.concluded (h : HeldOff k t) (before : State) : HeldOff k (conclude before t) := by
  have offered : HeldOff k (offerAtOff before t) := holds_ite (h.offered hk) h
  exact offered.same (congrArg Prod.fst (stopView_busGrant _)) (fault_busGrant hk.notBus _)

/-! ## A pack alarm that begins (R28) -/

/-- Under FORCE_OFF a new alarm stops the platform. -/
theorem heldOff_detect (up : s.psq.state ≠ .off) (mode : s.flt.mode = .forceOff) (detail : Byte) :
    HeldOff k (detect k detail s) := by
  obtain ⟨sev, lasting, lasts⟩ := hk.known
  have arrived := arrivedOff_detect sev (by rw [mode]; exact actionOf_forceOff k) up detail
  obtain ⟨off, -, -, -, stop, -⟩ := arrived
  refine ⟨off, stop, ?_⟩
  rw [detect_severe_get (moved := True) sev (absurd trivial) (fun _ => lasts)]
  simp [recordedFault, lasting]

theorem heldOff_begun (up : s.psq.state ≠ .off) (mode : s.flt.mode = .forceOff) (p : PackId) :
    HeldOff k (settingEvent .packAlarm (settleFaulted p (detect k (byteOf p.code) s))) :=
  ((heldOff_detect hk up mode _).settledFaulted hk).event hk _

omit hk

/-- PSQ and the containment mode, which nothing before the alarms of a poll touches. -/
theorem pollTaken_frame (p : PackId) (ws : List Word16) (s : State) :
    (pollTaken p ws s).psq = s.psq ∧ (pollTaken p ws s).flt.mode = s.flt.mode := by
  have ended (t : State) : endCommLost p t = { t with flt.record := (endCommLost p t).flt.record } := by
    unfold endCommLost endPackFault
    split
    · rfl
    · split <;> rfl
  have settled (t : State) : (settleReady p t).psq = t.psq ∧ (settleReady p t).flt.mode = t.flt.mode := by
    unfold settleReady
    dsimp only
    split
    · rw [raise_frame]
      exact ⟨rfl, rfl⟩
    · exact ⟨rfl, rfl⟩
  unfold pollTaken
  rw [(settled _).1, (settled _).2, ended]
  exact ⟨rfl, rfl⟩

/-- A good poll with a new over-charge cause. -/
theorem goodPoll_stopsCharged {ws : List Word16} (up : s.psq.state ≠ .off) (mode : s.flt.mode = .forceOff)
    (holds : overChargeHolds (polledRecord ws s.uptime (s.pks.record.get p)) = true)
    (fresh : (s.pks.record.get p).causes.overCharged = false) : HeldOff .packOverCharged (goodPoll p ws s) := by
  have hk : AlarmKind .packOverCharged := .inl rfl
  obtain ⟨psq, sameMode⟩ := pollTaken_frame p ws s
  have record := pollTaken_record p ws s
  have begun : HeldOff .packOverCharged (judgeOverCharge p (pollTaken p ws s)) := by
    have taken : overChargeHolds ((pollTaken p ws s).pks.record.get p) = true := by
      rw [record, overChargeHolds_congr (wordsOf_readied _)]
      exact holds
    have new : ((pollTaken p ws s).pks.record.get p).causes.overCharged = false := by
      rw [record, readiedRecord_causes]
      exact fresh
    unfold judgeOverCharge
    simp only [taken, new, Bool.not_false, Bool.and_self, if_true]
    refine heldOff_begun (s := modRecord p _ (pollTaken p ws s)) hk ?_ (sameMode.trans mode) p
    exact psq ▸ up
  have judged : HeldOff .packOverCharged (alarmsJudged p ws s) :=
    (begun.judgedOverTemp hk (by decide)).judgedAlarm hk _
  have words : overChargeHolds ((alarmsJudged p ws s).pks.record.get p) = true := by
    rw [alarmsJudged_record, overChargeHolds_congr (r := polledRecord ws s.uptime (s.pks.record.get p)) (by simp)]
    exact holds
  rw [goodPoll_eq]
  exact (judged.alarmsEnded hk (fun _ => words) (fun e => by cases e)).handed hk _

/-- A good poll with a new over-temperature cause, and no over-charge. -/
theorem goodPoll_stopsHot {ws : List Word16} (up : s.psq.state ≠ .off) (mode : s.flt.mode = .forceOff)
    (cool : overChargeHolds (polledRecord ws s.uptime (s.pks.record.get p)) = false)
    (holds : overTempHolds (polledRecord ws s.uptime (s.pks.record.get p)) = true)
    (fresh : (s.pks.record.get p).causes.overTemp = false) : HeldOff .packOverTemp (goodPoll p ws s) := by
  have hk : AlarmKind .packOverTemp := .inr rfl
  obtain ⟨psq, sameMode⟩ := pollTaken_frame p ws s
  have record := pollTaken_record p ws s
  have skipped : judgeOverCharge p (pollTaken p ws s) = pollTaken p ws s := by
    have none : overChargeHolds ((pollTaken p ws s).pks.record.get p) = false := by
      rw [record, overChargeHolds_congr (wordsOf_readied _)]
      exact cool
    simp [judgeOverCharge, none]
  have begun : HeldOff .packOverTemp (judgeOverTemp p (judgeOverCharge p (pollTaken p ws s))) := by
    have taken : overTempHolds ((pollTaken p ws s).pks.record.get p) = true := by
      rw [record, overTempHolds_congr (wordsOf_readied _)]
      exact holds
    have new : ((pollTaken p ws s).pks.record.get p).causes.overTemp = false := by
      rw [record, readiedRecord_causes]
      exact fresh
    rw [skipped]
    unfold judgeOverTemp
    simp only [taken, new, Bool.not_false, Bool.and_self, if_true]
    refine heldOff_begun (s := modRecord p _ (pollTaken p ws s)) hk ?_ (sameMode.trans mode) p
    exact psq ▸ up
  have judged : HeldOff .packOverTemp (alarmsJudged p ws s) := begun.judgedAlarm hk _
  have words : overTempHolds ((alarmsJudged p ws s).pks.record.get p) = true := by
    rw [alarmsJudged_record, overTempHolds_congr (r := polledRecord ws s.uptime (s.pks.record.get p)) (by simp)]
    exact holds
  rw [goodPoll_eq]
  exact (judged.alarmsEnded hk (fun e => by cases e) (fun _ => words)).handed hk _

end Sys2Proof.Machine
end

section
/-! The statement about the ways into OFF. -/

namespace Sys2Proof.Proofs

open Sys2Proof.Machine Sys2Proof.Safety

variable {s : State} {p : PackId}

/-! ## The last word of a poll (R25, R28) -/

/-- A poll whose alarm word brings a new cause, under FORCE_OFF. -/
theorem finish_goodPoll_alarm {v : State} {ws : List Word16} (up : v.psq.state ≠ .off) (mode : v.flt.mode = .forceOff)
    (ready : (v.pks.record.get p).state = .ready) (fresh : (v.pks.record.get p).causes = ⟨false, false, false⟩)
    (alarm : (wordAt ws 6).getLsbD 4 = true ∨ (wordAt ws 6).getLsbD 3 = true) :
    let t := conclude s (goodPoll p ws v)
    t.psq.state = .off ∧ t.psq.lastStop = .containment ∧ (t.pks.record.get p).state = .faulted ∧
      t.flt.level ≠ .none := by
  intro t
  obtain ⟨words, overCharge, overTemp, -, -⟩ := goodPoll_leaves p ws s v
  have flags : (t.pks.record.get p).alarm = alarmOf (wordAt ws 6) := (congrArg PackRecord.alarm words :)
  have there : (v.pks.record.get p).state ≠ .absent := by
    rw [ready]
    decide
  by_cases charged : (wordAt ws 6).getLsbD 4 = true
  · have new : (v.pks.record.get p).causes.overCharged = false := by rw [fresh]
    obtain ⟨-, -, -, -, level, -, faulted⟩ := overCharge (by rw [flags]; exact charged) new there
    have held := (goodPoll_stopsCharged (ws := ws) up mode charged new).concluded (.inl rfl) s
    exact ⟨held.state, held.stop, faulted, level⟩
  · have cool : overChargeHolds (polledRecord ws v.uptime (v.pks.record.get p)) = false :=
      Bool.eq_false_iff.mpr charged
    have hot := alarm.resolve_left charged
    have new : (v.pks.record.get p).causes.overTemp = false := by rw [fresh]
    have holds : overTempHolds (polledRecord ws v.uptime (v.pks.record.get p)) = true :=
      (overTempHolds_iff _).mpr (.inl hot)
    obtain ⟨-, -, -, -, level, -, faulted⟩ := overTemp (.inl (by rw [flags]; exact hot)) new there
    have held := (goodPoll_stopsHot (ws := ws) up mode cool holds new).concluded (.inr rfl) s
    exact ⟨held.state, held.stop, faulted, level⟩

/-! ## The stops of PSQ (R149, R153 to R160) -/

theorem spgWatched_iff {x : Sequencer} :
    spgWatched x = true ↔ x.sre = true ∧ ¬(x.state = .starting ∧ x.step = .spgWait) := by
  simp [spgWatched, imp_iff_not_or]

theorem mpgWatched_iff {x : Sequencer} : mpgWatched x = true ↔ x.mre = true ∧ x.step ≠ .mpgWait := by
  simp [mpgWatched]

theorem overrideOpen_iff :
    overrideOpen s = true ↔
      s.psq.pressed = true ∧ s.psq.holding = true ∧ s.psq.overrideFired = false ∧ s.psq.overrideReached = false := by
  simp [overrideOpen, and_assoc]

/-- No wait of the sequencer runs out where none is in force. -/
theorem stepWaitExpired_idle (spg : s.psq.step ≠ .spgWait) (mpg : s.psq.step ≠ .mpgWait) : stepWaitExpired s = s := by
  unfold stepWaitExpired
  split
  next step => exact absurd step spg
  next step => exact absurd step mpg
  next step => exact absurd step mpg
  next => rfl

/-- The off delay, to the end of its command. -/
theorem finish_offDelay (state : s.psq.state = .stopping) (step : s.psq.step = .delay) (clear : NoWake s) :
    ∃ t, exec .offDelayExpiry s = .next t ∧ arrivedOff s.psq.lastStop s t := by
  have made : offDelayExpired s = arriveOff (dropAll s) := if_pos ⟨state, step⟩
  have landed := landed_arriveOff (dropAll s)
  have arrived : arrivedOff s.psq.lastStop s (arriveOff (dropAll s)) :=
    arrivedOff_landed landed rfl ⟨rfl, rfl, rfl, rfl⟩ ⟨rfl, rfl⟩ ⟨rfl, rfl, rfl⟩
  have none : wakeDue (arriveOff (dropAll s)) = false := by
    refine wakeDue_off arrived.1 fun j enabled => ?_
    rw [landed.lwu] at enabled ⊢
    exact (clear j enabled).2 state
  exact ⟨busGrant (arriveOff (dropAll s)), (congrArg (finish s) made).trans (congrArg _ (conclude_undue none)),
    arrivedOff_congr arrived (stopView_busGrant _)⟩

/-- The button has reached its override time. -/
def overrideHeld (s : State) : State :=
  { s with
    psq.hold := max s.psq.hold (s.psq.settings.override * 1000), psq.overrideReached := true
    psq.overrideFired := true }

theorem overrideTimeReached_up (up : s.psq.state ≠ .off) (isOpen : overrideOpen s = true) :
    overrideTimeReached s =
      detectMild .buttonOverride (byteOf s.psq.state.code) (forcedStop .button (overrideHeld s)) := by
  unfold overrideTimeReached
  rw [if_pos isOpen]
  exact if_neg up

/-- The grace has run out. -/
def graceOver (s : State) : State := endGrace 2 false { s with psq.grace := some 0 }

theorem graceOver_frame (s : State) : OnlyReports { s with psq.grace := none } (graceOver s) :=
  (keepsBeside_endGrace 2 false { s with psq.grace := some 0 }).reports

theorem finish_graceOver (up : s.psq.state ≠ .off) (grace : s.psq.grace.isSome = true) (clear : NoWake s) :
    ∃ t, exec .graceExpiry s = .next t ∧ arrivedOff .grace s t ∧
      recorded .criticalShutdown (byteOf s.pks.rsoc) s t := by
  have runs : s.psq.grace.isNone = false := by
    rw [← Option.not_isSome, grace]
    rfl
  have made : graceExpired s =
      detectMild .criticalShutdown (byteOf (forcedStop .grace (graceOver s)).pks.rsoc)
        (forcedStop .grace (graceOver s)) := if_neg (by rw [runs]; decide)
  have frame := graceOver_frame s
  have record : (graceOver s).flt.get .criticalShutdown = s.flt.get .criticalShutdown :=
    (keepsBeside_endGrace 2 false { s with psq.grace := some 0 }).fault _ (by decide)
  have quiet : NoWake (graceOver s) := clear.graceless.reported frame
  generalize graceOver s = g at *
  have psq : g.psq = { s.psq with grace := none } := by rw [frame]
  have rsoc : (forcedStop .grace g).pks.rsoc = s.pks.rsoc := by
    have reach := forcedStop_reach .grace g
    rw [reach, frame]
  rw [rsoc] at made
  obtain ⟨ended, arrived, detected, -⟩ := finish_stopped (s := s) (k := .criticalShutdown) (by rw [psq]; exact up) quiet
    (by decide) (by decide) (by decide) .grace (byteOf s.pks.rsoc)
  refine ⟨_, (congrArg (finish s) made).trans ended, arrivedOff_from arrived ?_ ?_ ?_ (by rw [psq]), ?_⟩
  · rw [frame]
  · rw [frame]
  · rw [frame]
  · unfold recorded at detected ⊢
    rw [record] at detected
    exact detected

/-- Settles O56: each way in is a forced stop or the off delay's arrival, followed by reports; no wake is due at its
end, or an active SEVERE fault refuses it. -/
theorem everyStopArrivesInOff : Obligations.EveryStopArrivesInOff := by
  intro s hs x rail
  have failed {c : Instr} {detail : Byte} {b : State} (up : b.psq.state ≠ .off) (clear : NoWake b)
      (made : exec c s = finish s (railFail detail b)) (lkp : b.lkp = s.lkp) (srs : b.srs = s.srs)
      (record : b.pks.record = s.pks.record) (settings : b.psq.settings = s.psq.settings)
      (fault : b.flt = s.flt) : rail c detail := by
    obtain ⟨ended, arrived, detected, level⟩ := finish_railFail (s := s) up clear detail
    unfold recorded at detected
    rw [fault] at detected
    exact ⟨_, made.trans ended, arrivedOff_from arrived lkp srs record settings, detected, level⟩
  refine ⟨fun none => ?stops, fun spg mpg => ?waits, fun sre => ?spg, fun mre => ?mpg, fun state => ?delay,
    fun released => ?button, fun grace => ?grace⟩
  case stops =>
    have clear := noWake_of_noWakeAfterStop none
    refine ⟨fun state step => ?spgWait, fun state step => ?mpgWait, fun state step => ?resuming,
      fun up sre watched => ?spgLost, fun up mre step => ?mpgLost, fun state step => finish_offDelay state step clear,
      fun up pressed holding fired reached => ?override, fun up grace => finish_graceOver up grace clear,
      fun cpu charger skin ambient up trip hot => ?trip, fun p up mode low flows => ?channel,
      fun p y words line lo hi onBus up mode ready fresh alarm => ?pack⟩
    case spgWait =>
      have made : stepWaitExpired s = railFail 0 s := by rw [stepWaitExpired, state, step]
      exact failed (by rw [state]; decide) clear (congrArg (finish s) made) rfl rfl rfl rfl rfl
    case mpgWait =>
      have made : stepWaitExpired s = railFail 1 s := by rw [stepWaitExpired, state, step]
      exact failed (by rw [state]; decide) clear (congrArg (finish s) made) rfl rfl rfl rfl rfl
    case resuming =>
      have made : stepWaitExpired s = railFail 2 s := by rw [stepWaitExpired, state, step]
      exact failed (by rw [state]; decide) clear (congrArg (finish s) made) rfl rfl rfl rfl rfl
    case spgLost =>
      have made : powerGoodFalls .spg s = railFail 3 { s with inputs.spg := false } :=
        if_pos (spgWatched_iff.mpr ⟨sre, watched⟩)
      exact failed (b := { s with inputs.spg := false }) up (clear.same rfl rfl ⟨rfl, rfl⟩ rfl rfl)
        (congrArg (finish s) made) rfl rfl rfl rfl rfl
    case mpgLost =>
      have made : powerGoodFalls .mpg s = railFail 4 { s with inputs.mpg := false } :=
        if_pos (mpgWatched_iff.mpr ⟨mre, step⟩)
      exact failed (b := { s with inputs.mpg := false }) up (clear.same rfl rfl ⟨rfl, rfl⟩ rfl rfl)
        (congrArg (finish s) made) rfl rfl rfl rfl rfl
    case override =>
      have made := overrideTimeReached_up up (overrideOpen_iff.mpr ⟨pressed, holding, fired, reached⟩)
      obtain ⟨ended, arrived, detected, kept⟩ := finish_stopped (s := s) (b := overrideHeld s) (k := .buttonOverride) up
        (clear.same rfl rfl ⟨rfl, rfl⟩ rfl rfl) (by decide) (by decide) (by decide) .button (byteOf s.psq.state.code)
      exact ⟨_, (congrArg (finish s) made).trans ended, arrivedOff_from arrived rfl rfl rfl rfl, kept, detected⟩
    case trip =>
      have shut := tripShut_boardConverted up trip hot
      exact ⟨_, rfl, shut.arrived, shut.status, shut.active, shut.level⟩
    case channel =>
      obtain ⟨ended, arrived, faulted⟩ := finish_channelFault up clear mode p
      have made : channelFaultChanges p true s =
          chargeRefresh false [] (detect .chargerFault (byteOf p.code) (channelDetects p s)) :=
        (channelFaultChanges_fails low).trans (channelFails_enabled flows)
      exact ⟨_, (congrArg (finish s) made).trans ended, arrived, channelFaulted_recorded faulted, faulted.level⟩
    case pack =>
      have length : words.length = 8 := onBus.2.2
      have word : wordAt (words ++ [BitVec.ofNat 16 (lo.toNat + 256 * hi.toNat)]) 6 = words.getD 6 0 := by
        simp [wordAt, length]
      exact ⟨_, exec_lastWord onBus lo hi,
        finish_goodPoll_alarm (v := turnOver line s) up mode ready fresh (by rw [word]; exact alarm)⟩
  case waits =>
    have none : stepWaitExpired s = s := stepWaitExpired_idle spg mpg
    exact (congrArg (finish s) none).trans (finish_same hs)
  case spg =>
    have made : powerGoodFalls .spg s = { s with inputs.spg := false } :=
      if_neg fun watched => Bool.false_ne_true (sre.symm.trans (spgWatched_iff.mp watched).1)
    exact (congrArg (finish s) made).trans (finish_still hs rfl rfl rfl)
  case mpg =>
    have made : powerGoodFalls .mpg s = { s with inputs.mpg := false } := by
      refine if_neg fun watched => ?_
      obtain ⟨up, step⟩ := mpgWatched_iff.mp watched
      exact mre.elim (fun down => Bool.false_ne_true (down.symm.trans up)) step
    exact (congrArg (finish s) made).trans (finish_still hs rfl rfl rfl)
  case delay =>
    have none : offDelayExpired s = s := if_neg fun h => state h.1
    exact (congrArg (finish s) none).trans (finish_same hs)
  case button =>
    have none : overrideTimeReached s = s := 
      if_neg fun isOpen => Bool.false_ne_true (released.symm.trans (overrideOpen_iff.mp isOpen).1)
    exact (congrArg (finish s) none).trans (finish_same hs)
  case grace =>
    have none : graceExpired s = s := if_pos (Option.isNone_iff_eq_none.mpr grace)
    exact (congrArg (finish s) none).trans (finish_same hs)

end Sys2Proof.Proofs
end
